-- ==== Sys2Proof/Word.lean ====
section
/-! DEFINITION. The plain data everything else is made of: a byte, a set of the four programmes or
streams, a group of four like things, the two ports. -/

namespace Sys2Proof

/-- One byte of a frame or of a name. -/
abbrev Byte := BitVec 8

/-- A subset of the areas 0..15, area `a` at bit `a` (00 3.5, 09 9.8). -/
abbrev AreaSet := BitVec 16

/-- A subset of the streams or programmes 0..3, member `n` at bit `n` (09 9.8). -/
abbrev FourSet := BitVec 4

/-- A programme or stream number 0..3; stream `n` serves programme `n` (00 section 2). -/
abbrev Ch := Fin 4

/-- Four like things, one for each programme, stream, class or variant. -/
structure Four (α : Type) where
  a0 : α
  a1 : α
  a2 : α
  a3 : α
deriving DecidableEq, Repr

variable {α β : Type}

/-- Four copies of one value. -/
def Four.all (a : α) : Four α := ⟨a, a, a, a⟩

/-- The thing that belongs to `n`. -/
def Four.get (f : Four α) (n : Ch) : α :=
  match n with
  | 0 => f.a0
  | 1 => f.a1
  | 2 => f.a2
  | 3 => f.a3

/-- `f` with the thing that belongs to `n` replaced. -/
def Four.set (f : Four α) (n : Ch) (a : α) : Four α :=
  match n with
  | 0 => { f with a0 := a }
  | 1 => { f with a1 := a }
  | 2 => { f with a2 := a }
  | 3 => { f with a3 := a }

/-- The four made by `g` from the four numbers. -/
def Four.tab (g : Ch → α) : Four α := ⟨g 0, g 1, g 2, g 3⟩

/-- The four as a list, 0 first. -/
def Four.toList (f : Four α) : List α := [f.a0, f.a1, f.a2, f.a3]

/-- The four numbers, 0 first. -/
def channels : List Ch := [0, 1, 2, 3]

/-- The two link ports (09 R177): the site port is port 0, the traffic port is port 1. -/
inductive Port
  | site
  | traffic
deriving DecidableEq, Repr

/-- A pair of like things, one for each port. -/
structure Ports (α : Type) where
  site : α
  traffic : α
deriving DecidableEq, Repr

/-- The thing that belongs to port `p`. -/
def Ports.get (f : Ports α) (p : Port) : α :=
  match p with
  | .site => f.site
  | .traffic => f.traffic

/-- `f` with the thing that belongs to port `p` replaced. -/
def Ports.set (f : Ports α) (p : Port) (a : α) : Ports α :=
  match p with
  | .site => { f with site := a }
  | .traffic => { f with traffic := a }

/-- `n` added to a count that stays at `top` once it is there (00 3.1). -/
def satAdd (top c n : Nat) : Nat := min top (c + n)

/-- `n` divided by `d` and rounded up. -/
def ceilDiv (n d : Nat) : Nat := (n + d - 1) / d

end Sys2Proof
end

