-- ==== Sys2Proof/Config.lean ====
section
/-! DEFINITION. The numbers the manual fixes for every Imlora 640. Nothing here is open, so no
constant is opaque. -/

namespace Sys2Proof.Config

/-- Part identity and revision reported by PING (09 R191). -/
def identity : Nat := 640
def revision : Nat := 1

/-- Slots of the notice table (01 R1). -/
def slots : Nat := 96

/-- Location range entries (02 R34) and timed-change entries (05 R110). -/
def ranges : Nat := 32
def timedEntries : Nat := 8

/-- Ticks of a second (00 3.3). -/
def ticksPerSecond : Nat := 20

/-- Reference cycles of a nominal tick (00 3.3) and of one bit period of it (04 R97). -/
def nominalTick : Nat := 614400
def bitPeriod : Nat := 6400
def bitHalf : Nat := 3200

/-- The largest site seconds (07 R141). -/
def maxSeconds : Nat := 4294967295

/-- Ticks for which a notice may be WITHDRAWING (01 R11). -/
def withdrawLimit : Nat := 2400

/-- Ticks between withdrawal cells of one record (03 R65). -/
def withdrawSpacing : Nat := 40

/-- The longest interval in seconds (03 R68). -/
def maxInterval : Nat := 3600

/-- The limit of a 16-bit count that saturates. -/
def maxCount : Nat := 65535

/-- Reference cycles after which an unfinished frame is discarded, 200 ms (09 R181). -/
def linkSilence : Nat := 2457600

/-- Tick boundaries after which silence is reported (08 R172) and the mark watch is LOST (07 R155). -/
def silenceLimit : Nat := 100
def watchLimit : Nat := 60

/-- One whole cycle of the residue, in its unit of 10^-8 cycles (07 R143). -/
def residueUnit : Int := 100000000

/-- The largest trim in 0.01 ppm (07 R141). -/
def maxTrim : Int := 20000

/-- The sync byte of every cell (04 R75). -/
def sync : Byte := 0xD2#8

/-- The lead bytes of a request frame and of a response frame (09 9.2, R184). -/
def requestLead : Byte := 0xA5#8
def responseLead : Byte := 0x5A#8

end Sys2Proof.Config
end

