-- ==== Sys2Proof/Syntax.lean ====
section
/-! DEFINITION. The commands of the Imlora 640: one constructor of `Instr` for each row of
spec/opcode_table.json, with the request frames of 09 section 9.8 as `Request`. -/

namespace Sys2Proof

/-- The levels of the four cue lines (active low) and of the four modulator-ready lines (active
high), as found at one tick boundary (06 R119, 04 R95). Line `n` is bit `n`. -/
structure Lines where
  cue : BitVec 4
  mrdy : BitVec 4
deriving DecidableEq, Repr

/-- One block's work at one tick boundary. Which of two works of one boundary is taken first is
left open by the manual (00 3.8); log entry 2. -/
inductive Work
  /-- The temporary trim has run out (07 R144). -/
  | trimExpiry
  /-- The notice table's test of one slot at a second boundary (01 R6, R7). -/
  | noticeTest (slot : Nat)
  /-- The programme store's test of every timed change at a second boundary (05 R112 to R114). -/
  | timedFire
  /-- The off-air monitor's minute boundary (08 R173). -/
  | minute
  /-- One stream engine's own work (04 R96). -/
  | stream (n : Ch)
  /-- Announcement control's work for one programme (06 R129). -/
  | announce (prog : Ch)
  /-- The withdraw limit of one slot (01 R11). -/
  | withdrawLimit (slot : Nat)
  /-- The confirm limit of a held submit (01 R31). -/
  | confirmLimit (port : Port)
  /-- The monitor's silence counter (08 R172). -/
  | silence
  /-- The mark watch counter (07 R155). -/
  | markWatch
deriving DecidableEq, Repr

/-- A character taken from a receive line (09 R178). -/
inductive RxChar
  | byte (b : Byte)
  /-- The stop bit was found at the start level. -/
  | framingError
deriving DecidableEq, Repr

/-- The parameters of SUBMIT (09 9.9). `spare` is bits 5 to 7 of the presence byte; bits 0 to 4
say which of the optional fields are there. -/
structure SubmitArgs where
  number : BitVec 16
  version : Byte
  urgency : Byte
  event : BitVec 16
  location : BitVec 16
  extent : BitVec 4
  direction : BitVec 4
  spare : BitVec 3
  areas : Option (BitVec 16)
  startsAt : Option (BitVec 32)
  endsAt : Option (BitVec 32)
  advice : Option (BitVec 16 × Byte)
  text : Option (List Byte)
  confirm : Byte
deriving DecidableEq, Repr

/-- A request with its parameters at the widths of 09 section 9.8. -/
inductive Request
  | ping
  | readAttention
  | setAttentionMask (mask : BitVec 16)
  | setLink (port baud : Byte)
  | abandon
  | restart (scope : Byte)
  | submit (args : SubmitArgs)
  | withdraw (number : BitVec 16)
  | withdrawAll
  | purge (number : BitVec 16)
  | queryNotice (number : BitVec 16)
  | listNotices (start : Byte)
  | setClass (cls : Byte) (base : BitVec 16) (settle : Byte)
  | setNoticeLimits (w : Byte) (lifetime : BitVec 32) (confirm : BitVec 16)
  | setRange (entry enabled : Byte) (first last : BitVec 16) (area : Byte)
  | readRange (entry : Byte)
  | setDefaultAreas (areas : BitVec 16)
  | setProgramme (prog : Byte) (code coverage : BitVec 16) (carries target : Byte)
  | setName (prog variant : Byte) (short long : List Byte)
  | selectName (prog variant : Byte)
  | setTimedChange (entry prog variant : Byte) (target period : BitVec 32)
  | clearTimedChange (entry : Byte)
  | setPlan (stream : Byte) (duties : List Byte)
  | startStream (stream : Byte)
  | stopStream (stream : Byte)
  | readStream (stream : Byte)
  | readProgramme (prog : Byte)
  | setCue (prog source lead hangover : Byte) (maxSecs : BitVec 16)
  | cueOn (prog : Byte)
  | cueOff (prog : Byte)
  | readAnnouncement (prog : Byte)
  | setTime (secs : BitVec 32)
  | stepTime (delta : BitVec 32)
  | setTrim (trim : BitVec 32)
  | trimFor (trim duration : BitVec 32)
  | readTime
  | readMark
  | setOffset (offset : Byte)
  | setMarkWatch (enable : Byte)
  | setMonitor (enable watched tolerance : Byte)
  | readMonitor
deriving DecidableEq, Repr

/-- The commands: one constructor for each row of spec/opcode_table.json, in the table's order. A
request's row says that a whole frame with a good check, carrying that request, has arrived on
port `p` (log entry 6). -/
inductive Instr
  /-- PORN is released; `lines` are the levels found at the boundary that begins tick 0. -/
  | powerOn (lines : Lines)
  /-- The tick length is reached. The works in `later` are left to their own commands. -/
  | tickBoundary (lines : Lines) (later : List Work)
  | temporaryTrimExpiry
  /-- The tick boundary at which the tick number passes from 19 to 0. -/
  | secondBoundary (lines : Lines) (later : List Work)
  | noticeStart (slot : Nat)
  | noticeExpiry (slot : Nat)
  | withdrawLimit (slot : Nat)
  | confirmLimit (p : Port)
  | timedChangeFire (entry : Nat)
  | startTaken (n : Ch)
  | enterStopped (n : Ch)
  | planTakesEffect (n : Ch)
  | runCompletion (n : Ch)
  | leadExpiry (prog : Ch)
  | hangoverExpiry (prog : Ch)
  | maximumDuration (prog : Ch)
  | markEdge
  | markWatchExpiry
  | candidateComplete
  | syncMiss
  | silenceExpiry
  | byteReceived (p : Port) (c : RxChar)
  | linkSilenceTimeout (p : Port)
  /-- The last byte of the response being sent on `p` has left. `lines` are the levels found at the
  boundary that a RESTART ALL performed here begins with. -/
  | responseSent (p : Port) (lines : Lines)
  | unknownRequest (p : Port) (code : Byte) (rest : List Byte)
  | ping (p : Port)
  | readAttention (p : Port)
  | setAttentionMask (p : Port) (mask : BitVec 16)
  | setLink (p : Port) (port baud : Byte)
  | abandon (p : Port)
  | restart (p : Port) (scope : Byte)
  | submit (p : Port) (args : SubmitArgs)
  | withdraw (p : Port) (number : BitVec 16)
  | withdrawAll (p : Port)
  | purge (p : Port) (number : BitVec 16)
  | queryNotice (p : Port) (number : BitVec 16)
  | listNotices (p : Port) (start : Byte)
  | setClass (p : Port) (cls : Byte) (base : BitVec 16) (settle : Byte)
  | setNoticeLimits (p : Port) (w : Byte) (lifetime : BitVec 32) (confirm : BitVec 16)
  | setRange (p : Port) (entry enabled : Byte) (first last : BitVec 16) (area : Byte)
  | readRange (p : Port) (entry : Byte)
  | setDefaultAreas (p : Port) (areas : BitVec 16)
  | setProgramme (p : Port) (prog : Byte) (code coverage : BitVec 16) (carries target : Byte)
  /-- SET NAME with a short name of length 1 or more (05 R106). -/
  | setName (p : Port) (prog variant : Byte) (short long : List Byte)
  /-- SET NAME with a short name of length 0 (05 R107). -/
  | setNameClear (p : Port) (prog variant : Byte) (long : List Byte)
  | selectName (p : Port) (prog variant : Byte)
  | setTimedChange (p : Port) (entry prog variant : Byte) (target period : BitVec 32)
  | clearTimedChange (p : Port) (entry : Byte)
  | setPlan (p : Port) (stream : Byte) (duties : List Byte)
  | startStream (p : Port) (stream : Byte)
  | stopStream (p : Port) (stream : Byte)
  | readStream (p : Port) (stream : Byte)
  | readProgramme (p : Port) (prog : Byte)
  | setCue (p : Port) (prog source lead hangover : Byte) (maxSecs : BitVec 16)
  | cueOn (p : Port) (prog : Byte)
  | cueOff (p : Port) (prog : Byte)
  | readAnnouncement (p : Port) (prog : Byte)
  | setTime (p : Port) (secs : BitVec 32)
  | stepTime (p : Port) (delta : BitVec 32)
  | setTrim (p : Port) (trim : BitVec 32)
  | trimFor (p : Port) (trim duration : BitVec 32)
  | readTime (p : Port)
  | readMark (p : Port)
  | setOffset (p : Port) (offset : Byte)
  | setMarkWatch (p : Port) (enable : Byte)
  | setMonitor (p : Port) (enable watched tolerance : Byte)
  | readMonitor (p : Port)
  /-- A rising edge of MCLK with MDAT at `bit`. With `later` set, the judgement of a candidate or
  frame that this bit completes is left to CANDIDATE_COMPLETE or SYNC_MISS (log entry 10). -/
  | receivedBit (bit : Bool) (later : Bool)
  | pornHeldLow
deriving DecidableEq, Repr

/-- The request codes of 09 section 9.8. -/
def requestCodes : List Byte :=
  [0x01#8, 0x02#8, 0x03#8, 0x04#8, 0x05#8, 0x06#8, 0x10#8, 0x11#8, 0x12#8, 0x13#8, 0x14#8, 0x15#8,
   0x16#8, 0x17#8] ++
  [0x20#8, 0x21#8, 0x22#8, 0x30#8, 0x31#8, 0x32#8, 0x33#8, 0x34#8, 0x35#8, 0x36#8, 0x37#8, 0x38#8,
   0x39#8] ++
  [0x40#8, 0x41#8, 0x42#8, 0x43#8, 0x50#8, 0x51#8, 0x52#8, 0x53#8, 0x54#8, 0x55#8, 0x56#8, 0x57#8,
   0x60#8, 0x61#8]

end Sys2Proof
end

