-- ==== Sys2Proof/WellFormed.lean ====
section
/-! DEFINITION. Which commands could reach the part: slots and entries in range, and bodies that a
frame of 1 to 250 body bytes can carry with the length its request requires (09 R187). -/

namespace Sys2Proof

/-- The body length of a SUBMIT (09 9.9): 12 plus the optional fields present. -/
def SubmitArgs.bodyLength (a : SubmitArgs) : Nat :=
  12 + (if a.areas.isSome then 2 else 0) + (if a.startsAt.isSome then 4 else 0) +
    (if a.endsAt.isSome then 4 else 0) + (if a.advice.isSome then 3 else 0) +
    (match a.text with
     | some t => 1 + t.length
     | none => 0)

/-- A SUBMIT body has the length its presence byte requires and a text of at least one byte
(01 R14, 09 R187). -/
def SubmitArgs.fits (a : SubmitArgs) : Bool :=
  a.text ≠ some [] && a.bodyLength ≤ 250

/-- The body of this request has a length that fits it (09 R187). -/
def Request.fits : Request → Bool
  | .submit a => a.fits
  | .setName _ _ short long => 5 + short.length + long.length ≤ 250
  | .setPlan _ duties => duties.length == 20
  | _ => true

/-- A boundary work names a slot that exists. -/
def Work.wellFormed : Work → Bool
  | .noticeTest i => i < Config.slots
  | .withdrawLimit i => i < Config.slots
  | _ => true

/-- The checks a command meets before it is put to the part. -/
def Instr.wellFormed : Instr → Bool
  | .tickBoundary _ later => later.all Work.wellFormed
  | .secondBoundary _ later => later.all Work.wellFormed
  | .noticeStart i => i < Config.slots
  | .noticeExpiry i => i < Config.slots
  | .withdrawLimit i => i < Config.slots
  | .timedChangeFire e => e < Config.timedEntries
  | .unknownRequest _ code rest => !requestCodes.contains code && rest.length < 250
  | .submit _ a => a.fits
  | .setName _ _ _ short long => short ≠ [] && 5 + short.length + long.length ≤ 250
  | .setNameClear _ _ _ long => 5 + long.length ≤ 250
  | .setPlan _ _ duties => duties.length == 20
  | _ => true

end Sys2Proof
end

