-- ==== Sys2Proof/Decode.lean ====
section
/-! DEFINITION. The command a table word spells. No row of spec/opcode_table.json gives any bits
(every row's "fields" is empty and none has "fixed"), so no word spells a command: log entry 27.
The byte layouts of the request frames are decoded in Machine/Operands.lean and Machine/Links.lean. -/

namespace Sys2Proof

/-- The rows of the opcode table that give bits: (width, mask, pattern, command). There are none. -/
def tableRows : List (Nat × Nat × Nat × Instr) := []

/-- The command whose row matches the word, if any row gives bits for it. -/
def decodeTableWord (nbits w : Nat) : Option Instr :=
  (tableRows.find? fun r => r.1 == nbits && w &&& r.2.1 == r.2.2.1).map fun r => r.2.2.2

end Sys2Proof
end

