-- ==== Sys2Proof/Machine/State.lean ====
section
/-! DEFINITION. Everything the manual says the Imlora 640 holds, as plain data, and its value after
power-on. Bit fields the part puts on the air or on a link are bit vectors; counts and times are
natural numbers within the ranges of the rules. -/

namespace Sys2Proof.Machine

/-- No command of the Imlora 640 stops the part with a fault: every refused request is answered
by a response (00 3.6). So there is no constructor. -/
inductive Fault
deriving DecidableEq, Repr

/-- Why a command has no meaning. -/
inductive Refusal
  /-- Raised by an arm of `exec` whose command is not modelled; none is left. Safe. -/
  | notModelled (mnemonic : String)
deriving DecidableEq, Repr

/-! ### Notice table (chapters 1 and 3) -/

/-- Urgency class, the most urgent first (01 R2). -/
inductive Urgency
  | urgent
  | high
  | normal
  | background
deriving DecidableEq, Repr

/-- Mode of an airing record; WITHDRAWAL holds the withdraw cells left (03 R51). -/
inductive Mode
  | airing
  | withdrawal (left : Nat)
deriving DecidableEq, Repr

/-- An airing record (03 R51). Its stream is its place in the notice's `records`. -/
structure Record where
  mode : Mode
  due : Nat
  airings : Nat
  heard : Nat
  lastRunStart : Option Nat
deriving DecidableEq, Repr

/-- State of an occupied slot; WITHDRAWING holds the withdraw start (01 R2). -/
inductive NoticeState
  | pending
  | live
  | withdrawing (start : Nat)
deriving DecidableEq, Repr

/-- Where the area set came from (01 R2). -/
inductive Origin
  | explicit
  | derived
deriving DecidableEq, Repr

/-- A notice record (01 R2). -/
structure Notice where
  number : Nat
  version : Nat
  urgency : Urgency
  event : Nat
  location : Nat
  extent : Nat
  direction : Nat
  areas : AreaSet
  origin : Origin
  stranded : Bool
  startsAt : Option Nat
  endsAt : Nat
  advice : Option (Nat × Nat)
  text : Option (List Byte)
  owner : Port
  acceptedAt : Nat
  state : NoticeState
  records : Four (Option Record)
deriving DecidableEq, Repr

/-- Class parameters: base interval in seconds and settle count (03 R67). -/
structure ClassParams where
  base : Nat
  settle : Nat
deriving DecidableEq, Repr

/-- The notice table: 96 slots, class parameters and notice limits (01 R1, R28; 03 R67). -/
structure Table where
  slots : List (Option Notice)
  classes : Four ClassParams
  withdrawCells : Nat
  lifetime : Nat
  confirmSecs : Nat
deriving DecidableEq, Repr

/-! ### Location map (chapter 2) -/

/-- A location range entry (02 R34). -/
structure RangeEntry where
  enabled : Bool
  first : Nat
  last : Nat
  area : Nat
deriving DecidableEq, Repr

/-- The location map (02 R34). -/
structure LocationMap where
  ranges : List RangeEntry
  defaultAreas : AreaSet
deriving DecidableEq, Repr

/-! ### Programme store (chapter 5) -/

/-- A non-empty variant: a short name of 8 characters and an optional long name (05 R100). -/
structure Names where
  short : List Byte
  long : Option (List Byte)
deriving DecidableEq, Repr

/-- A programme record (05 R100). A variant is `none` when it is empty. -/
structure Programme where
  code : BitVec 16
  coverage : AreaSet
  carries : Bool
  target : Option Ch
  variants : Four (Option Names)
  current : Ch
deriving DecidableEq, Repr

/-- A timed-change entry (05 R110). -/
structure TimedEntry where
  inUse : Bool
  prog : Ch
  variant : Ch
  target : Nat
  period : Nat
deriving DecidableEq, Repr

/-- The programme store: four programme records and eight timed changes (05 R100, R110). -/
structure Store where
  progs : Four Programme
  timed : List TimedEntry
deriving DecidableEq, Repr

/-! ### Stream engines (chapters 3 and 4) -/

/-- A duty of the slot plan (04 section 4.3). -/
inductive Duty
  | status
  | name
  | longName
  | refer
  | openSlot
deriving DecidableEq, Repr

/-- Stream state (04 R90). -/
inductive StreamState
  | running
  | paused
  | stopping
  | stopped
deriving DecidableEq, Repr

/-- The run in progress on a stream (03 R59). -/
structure Run where
  number : Nat
  slot : Nat
  sent : Nat
  head : Nat
deriving DecidableEq, Repr

/-- A stream engine (03 R59, R73; 04 R84, R87, R90). `cell` is what the output carries over the tick
in progress; `none` is an output held low (04 R98). -/
structure Stream where
  state : StreamState
  startPending : Bool
  modLevel : Bool
  plan : List Duty
  pendingPlan : Option (List Duty)
  run : Option Run
  nameCtr : Nat
  longCtr : Nat
  overcommit : Bool
  cell : Option (BitVec 96)
deriving DecidableEq, Repr

/-! ### Announcement control (chapter 6) -/

/-- Cue source (06 R118). -/
inductive CueSource
  | line
  | link
  | either
deriving DecidableEq, Repr

/-- Announcement state (06 R118). -/
inductive AnnState
  | quiet
  | leading
  | onAir
  | hanging
  | barred
deriving DecidableEq, Repr

/-- A bulletin start (06 R123). -/
structure Bulletin where
  seconds : Nat
  tick : Nat
  count : Nat
deriving DecidableEq, Repr

/-- An announcement record (06 R118). -/
structure Announce where
  source : CueSource
  lead : Nat
  hangover : Nat
  maxSecs : Nat
  linkCue : Bool
  lineSample : Bool
  lineLevel : Bool
  cueLevel : Bool
  state : AnnState
  leadCtr : Nat
  hangCtr : Nat
  bulletin : Option Bulletin
  bulletins : Nat
  overruns : Nat
  closing : Nat
deriving DecidableEq, Repr

/-! ### Site time (chapter 7) -/

/-- Mark watch state (07 R141). -/
inductive WatchState
  | off
  | watching
  | lost
deriving DecidableEq, Repr

/-- The mark capture (07 R153). -/
structure Capture where
  seconds : Nat
  tick : Nat
  count : Nat
  cycles : Nat
deriving DecidableEq, Repr

/-- Site time (07 R141). `temporary` is a trim and its remaining duration. -/
structure SiteTime where
  seconds : Nat
  isSet : Bool
  tickNumber : Nat
  tickCount : Nat
  phase : Nat
  tickLength : Nat
  standing : Int
  temporary : Option (Int × Nat)
  residue : Int
  offset : Int
  capture : Option Capture
  fresh : Bool
  edges : Nat
  watch : WatchState
  watchCtr : Nat
deriving DecidableEq, Repr

/-! ### Off-air monitor (chapter 8) -/

/-- Monitor state; the enable flag is set exactly when it is not OFF (08 R158). -/
inductive MonState
  | off
  | searching
  | locked
deriving DecidableEq, Repr

/-- The ten tallies, in the order of 08 R158. -/
structure Tallies where
  own : Nat
  corrected : Nat
  headerFaults : Nat
  checkFaults : Nat
  foreign : Nat
  matched : Nat
  stale : Nat
  unknown : Nat
  statusMismatch : Nat
  nameMismatch : Nat
deriving DecidableEq, Repr

/-- The last-minute span (08 R158). -/
structure Span where
  start : Nat
  stop : Nat
  seconds : Nat
deriving DecidableEq, Repr

/-- The off-air monitor (08 R158). Bits are oldest first. `missed` counts the bits dropped of a
LOCKED frame whose sync did not match (08 R163; log entry 11). -/
structure Monitor where
  state : MonState
  watched : Ch
  tolerance : Nat
  window : List Bool
  aligned : Bool
  candidate : Option (List Bool)
  missed : Option Nat
  runUp : Nat
  faults : Nat
  silence : Nat
  silent : Bool
  holding : Tallies
  holdingStart : Nat
  last : Tallies
  span : Option Span
deriving DecidableEq, Repr

/-! ### Link interface (chapter 9) -/

/-- Status codes (09 section 9.6). -/
inductive Status
  | ok
  | unchanged
  | displaced
  | confirmed
  | badCheck
  | unknownRequest
  | badLength
  | outOfRange
  | notPermitted
  | notOwner
  | notFound
  | full
  | stale
  | unplaced
  | busy
  | planInvalid
  | emptyVariant
  | inUse
  | notTraffic
  | notReady
  | alreadyWithdrawing
  | rangeInverted
  | notHeld
  | selfReference
  | confirmLate
  | superseded
  | abandoned
deriving DecidableEq, Repr

/-- Response flags (09 R196). -/
structure RFlags where
  adjusted : Bool
  truncated : Bool
  replaced : Bool
  uncarried : Bool
deriving DecidableEq, Repr

/-- What is done at the moment the last byte of a response has left (09 R192, R193). -/
inductive After
  | setBaud (port : Port) (code : Nat)
  | restartTable
  | restartAll
deriving DecidableEq, Repr

/-- A response of a transmit queue (09 R184). -/
structure Response where
  code : Byte
  status : Status
  flags : RFlags
  results : List Byte
  next : Option After
deriving DecidableEq, Repr

/-- A complete request frame: its body and its two check bytes (09 9.2). -/
structure Frame where
  body : List Byte
  check : BitVec 16
deriving DecidableEq, Repr

/-- Assembly state with the frame in assembly (09 R177, R179). -/
inductive Assembly
  | hunt
  | length
  /-- Bytes still to collect, and the body bytes collected, oldest first. -/
  | body (left : Nat) (got : List Byte)
  /-- The body, and the first check byte once it has come. -/
  | check (body : List Byte) (high : Option Byte)
deriving DecidableEq, Repr

/-- A held request (01 section 1.6). `results` are the six bytes of acceptance. -/
structure Held where
  number : Nat
  slot : Nat
  remaining : FourSet
  satisfied : FourSet
  heardStream : Option Ch
  limit : Nat
  results : List Byte
  flags : RFlags
deriving DecidableEq, Repr

/-- A port (09 R177). It is HELD when `held` is present and IDLE otherwise (09 R188). `txBaud` is the
rate at which the response being sent goes out (09 R192; log entry 17). -/
structure PortState where
  baud : Nat
  asm : Assembly
  timer : Nat
  stray : Bool
  waiting : Option Frame
  queue : List Response
  txBaud : Nat
  held : Option Held
  errors : Nat
deriving DecidableEq, Repr

/-! ### Attention unit (chapter 10) -/

/-- The attention unit (10 R198). Kinds are numbered as in 09 section 9.8. -/
structure Attention where
  pendingKinds : BitVec 11
  mask : BitVec 11
  load : FourSet
  modulator : FourSet
  overrun : FourSet
  displaced : Nat
  placement : Nat
  timedSkipped : FourSet
  link : BitVec 2
deriving DecidableEq, Repr

/-! ### The whole part -/

/-- The Imlora 640. `pending` is the queue of commands and `due` the works of the last boundary that
have been left to their own commands; both are the model's own (log entries 1 and 3). -/
structure State where
  pending : List Instr
  due : List Work
  pornLow : Bool
  cuePins : BitVec 4
  mrdyPins : BitVec 4
  table : Table
  map : LocationMap
  store : Store
  streams : Four Stream
  announce : Four Announce
  time : SiteTime
  monitor : Monitor
  ports : Ports PortState
  attention : Attention
deriving DecidableEq, Repr

/-! ### Reset values -/

/-- 03 R67, the defaults. -/
def Table.defaultClasses : Four ClassParams := ⟨⟨10, 6⟩, ⟨30, 4⟩, ⟨60, 4⟩, ⟨180, 2⟩⟩

/-- 01 R13. -/
def Table.reset : Table :=
  { slots := List.replicate Config.slots none
    classes := Table.defaultClasses
    withdrawCells := 3
    lifetime := 3600
    confirmSecs := 30 }

/-- 02 R34. -/
def LocationMap.reset : LocationMap :=
  { ranges := List.replicate Config.ranges ⟨false, 0, 0, 0⟩
    defaultAreas := 0#16 }

/-- 05 R100. -/
def Programme.reset : Programme :=
  { code := 0#16
    coverage := 0#16
    carries := false
    target := none
    variants := Four.all none
    current := 0 }

/-- 05 R100, R110. -/
def Store.reset : Store :=
  { progs := Four.all Programme.reset
    timed := List.replicate Config.timedEntries ⟨false, 0, 0, 0, 0⟩ }

/-- The default slot plan (04 R84). -/
def Stream.defaultPlan : List Duty :=
  [.status, .openSlot, .openSlot, .openSlot, .openSlot,
   .name, .openSlot, .openSlot, .openSlot, .openSlot,
   .longName, .openSlot, .openSlot, .openSlot, .openSlot,
   .name, .openSlot, .openSlot, .refer, .openSlot]

/-- 03 R59, R73; 04 R84, R87, R90. The modulator level is a parameter: power-on samples it and RESTART
ALL keeps it. -/
def Stream.reset (level : Bool) : Stream :=
  { state := .stopped
    startPending := false
    modLevel := level
    plan := Stream.defaultPlan
    pendingPlan := none
    run := none
    nameCtr := 0
    longCtr := 0
    overcommit := false
    cell := none }

/-- 06 R118. -/
def Announce.reset : Announce :=
  { source := .line
    lead := 10
    hangover := 40
    maxSecs := 600
    linkCue := false
    lineSample := false
    lineLevel := false
    cueLevel := false
    state := .quiet
    leadCtr := 0
    hangCtr := 0
    bulletin := none
    bulletins := 0
    overruns := 0
    closing := 0 }

/-- 07 R141. -/
def SiteTime.reset : SiteTime :=
  { seconds := 0
    isSet := false
    tickNumber := 0
    tickCount := 0
    phase := 0
    tickLength := Config.nominalTick
    standing := 0
    temporary := none
    residue := 0
    offset := 0
    capture := none
    fresh := false
    edges := 0
    watch := .off
    watchCtr := 0 }

/-- All ten tallies 0. -/
def Tallies.zero : Tallies := ⟨0, 0, 0, 0, 0, 0, 0, 0, 0, 0⟩

/-- 08 R158. -/
def Monitor.reset : Monitor :=
  { state := .off
    watched := 0
    tolerance := 1
    window := []
    aligned := true
    candidate := none
    missed := none
    runUp := 0
    faults := 0
    silence := 0
    silent := false
    holding := Tallies.zero
    holdingStart := 0
    last := Tallies.zero
    span := none }

/-- 09 R177. The baud code is a parameter: power-on makes it 2 and RESTART ALL keeps it. -/
def PortState.reset (baud : Nat) : PortState :=
  { baud := baud
    asm := .hunt
    timer := 0
    stray := false
    waiting := none
    queue := []
    txBaud := baud
    held := none
    errors := 0 }

/-- 10 R198. -/
def Attention.reset : Attention :=
  { pendingKinds := 0#11
    mask := 0x6FF#11
    load := 0#4
    modulator := 0#4
    overrun := 0#4
    displaced := 0
    placement := 0
    timedSkipped := 0#4
    link := 0#2 }

/-- The lines found at the release of PORN that `State.reset` stands for: cue contacts open, no
modulator ready. DESIGN CHOICE, unsafe, log entry 7. -/
def idleLines : Lines := ⟨0xF#4, 0x0#4⟩

/-- The part right after power-on, PORN released and tick 0 begun. -/
def State.reset : State :=
  { pending := []
    due := []
    pornLow := false
    cuePins := idleLines.cue
    mrdyPins := idleLines.mrdy
    table := Table.reset
    map := LocationMap.reset
    store := Store.reset
    streams := Four.all (Stream.reset false)
    announce := Four.all Announce.reset
    time := SiteTime.reset
    monitor := Monitor.reset
    ports := ⟨PortState.reset 2, PortState.reset 2⟩
    attention := Attention.reset }

end Sys2Proof.Machine
end

