-- ==== Sys2Proof/Machine/Ops.lean ====
section
/-! DEFINITION. The named operations every family shares: reading and writing the parts of State,
raising attention, forming responses, the outcomes of held submits, and what happens to a notice's
airing records and runs. -/

namespace Sys2Proof.Machine

/-! ### Sets of four -/

/-- The set holding `n` alone (09 9.8: member `n` at bit `n`). -/
def chBit (n : Ch) : FourSet := 1#4 <<< n.val

/-- `n` is in the set. -/
def chMem (set : FourSet) (n : Ch) : Bool := set.getLsbD n.val

/-- The set with `n` added. -/
def chInsert (set : FourSet) (n : Ch) : FourSet := set ||| chBit n

/-- The set with `n` taken out. -/
def chErase (set : FourSet) (n : Ch) : FourSet := set &&& ~~~ chBit n

/-- The set of the numbers for which `f` holds. -/
def chSet (f : Ch → Bool) : FourSet :=
  channels.foldl (fun set n => if f n then chInsert set n else set) 0#4

/-- The number named by a byte, if it is 0..3 (00 3.5). -/
def chOf? (b : Byte) : Option Ch := if h : b.toNat < 4 then some ⟨b.toNat, h⟩ else none

/-! ### Reading and writing State -/

def State.stream (s : State) (n : Ch) : Stream := s.streams.get n

def State.setStream (s : State) (n : Ch) (x : Stream) : State :=
  { s with streams := s.streams.set n x }

def State.prog (s : State) (p : Ch) : Programme := s.store.progs.get p

def State.setProg (s : State) (p : Ch) (x : Programme) : State :=
  { s with store := { s.store with progs := s.store.progs.set p x } }

def State.ann (s : State) (p : Ch) : Announce := s.announce.get p

def State.setAnn (s : State) (p : Ch) (x : Announce) : State :=
  { s with announce := s.announce.set p x }

def State.port (s : State) (p : Port) : PortState := s.ports.get p

def State.setPort (s : State) (p : Port) (x : PortState) : State :=
  { s with ports := s.ports.set p x }

def State.setTime (s : State) (x : SiteTime) : State := { s with time := x }

def State.setMonitor (s : State) (x : Monitor) : State := { s with monitor := x }

def State.setTable (s : State) (x : Table) : State := { s with table := x }

/-- The tick count now. -/
def State.now (s : State) : Nat := s.time.tickCount

/-- The record of slot `i`, or none when the slot is FREE (01 R1). -/
def State.notice (s : State) (i : Nat) : Option Notice := s.table.slots.getD i none

/-- Slot `i` given a new content. A number that is no slot changes nothing. -/
def State.setSlot (s : State) (i : Nat) (x : Option Notice) : State :=
  s.setTable { s.table with slots := s.table.slots.set i x }

/-- The slot holds a notice of this number. -/
def holdsNumber (number : Nat) (x : Option Notice) : Bool :=
  match x with
  | some nt => nt.number == number
  | none => false

/-- The slot in which `number` stands, if any (01 R1). -/
def State.findSlot (s : State) (number : Nat) : Option Nat :=
  s.table.slots.findIdx? (holdsNumber number)

/-- The lowest-numbered FREE slot (01 R1). -/
def State.freeSlot? (s : State) : Option Nat := s.table.slots.findIdx? Option.isNone

/-- The numbers of the slots. -/
def slotNumbers : List Nat := List.range Config.slots

/-- `f` done at every slot in ascending order. -/
def forSlots (f : Nat → State → State) (s : State) : State :=
  slotNumbers.foldl (fun t i => f i t) s

/-- `f` done at every stream or programme in ascending order. -/
def forChannels (f : Ch → State → State) (s : State) : State := f 3 (f 2 (f 1 (f 0 s)))

/-- `f` done at both ports, the site port first. -/
def forPorts (f : Port → State → State) (s : State) : State := f .traffic (f .site s)

/-! ### Attention (10 R198, R199) -/

/-- An event raised at the attention unit, with its detail (chapter 10, the table of kinds). -/
inductive AttnEvent
  | load (stream : Ch)
  | modulator (stream : Ch)
  | overrun (prog : Ch)
  | displaced (number : Nat)
  | placement (count : Nat)
  | timedSkipped (prog : Ch)
  | monitor
  | silent
  | mark
  | markLost
  | link (port : Port)
deriving DecidableEq, Repr

/-- The number of an event's kind (09 section 9.8). -/
def AttnEvent.kind : AttnEvent → Nat
  | .load _ => 0
  | .modulator _ => 1
  | .overrun _ => 2
  | .displaced _ => 3
  | .placement _ => 4
  | .timedSkipped _ => 5
  | .monitor => 6
  | .silent => 7
  | .mark => 8
  | .markLost => 9
  | .link _ => 10

/-- The kind set holding one kind (09 section 9.8). -/
def kindBit (k : Nat) : BitVec 11 := 1#11 <<< k

/-- The port set holding one port. -/
def portBit (p : Port) : BitVec 2 :=
  match p with
  | .site => 1#2
  | .traffic => 2#2

/-- The detail of an event merged into its kind's (10 R199). -/
def Attention.mergeDetail (a : Attention) (e : AttnEvent) : Attention :=
  match e with
  | .load n => { a with load := chInsert a.load n }
  | .modulator n => { a with modulator := chInsert a.modulator n }
  | .overrun p => { a with overrun := chInsert a.overrun p }
  | .displaced k => { a with displaced := k }
  | .placement k => { a with placement := k }
  | .timedSkipped p => { a with timedSkipped := chInsert a.timedSkipped p }
  | .link p => { a with link := a.link ||| portBit p }
  | .monitor | .silent | .mark | .markLost => a

/-- Raising an attention event (10 R199). -/
def State.raise (s : State) (e : AttnEvent) : State :=
  { s with attention :=
      { (s.attention.mergeDetail e) with
          pendingKinds := s.attention.pendingKinds ||| kindBit e.kind } }

/-! ### Responses (09 R184) -/

/-- No flag set. -/
def RFlags.none : RFlags := ⟨false, false, false, false⟩

/-- A response put in a port's transmit queue. A response that finds the queue empty begins to be
sent, at the port's rate. -/
def State.send (s : State) (p : Port) (r : Response) : State :=
  let x := s.port p
  s.setPort p { x with
    queue := x.queue ++ [r]
    txBaud := if x.queue.isEmpty then x.baud else x.txBaud }

/-! ### Held submits (01 section 1.6) -/

/-- A set of four as the byte it is sent as (09 9.8). -/
def fourByte (set : FourSet) : Byte := set.setWidth 8

/-- The outcome of the submit held on `p`: its response is formed and the port returns to IDLE
(01 R31 to R33, 09 R189). A port that is IDLE is left as it is. -/
def State.finishHeld (s : State) (p : Port) (st : Status) : State :=
  match (s.port p).held with
  | none => s
  | some h =>
    (s.setPort p { s.port p with held := none }).send p
      { code := 0x10#8
        status := st
        flags := h.flags
        results := h.results ++ [fourByte h.satisfied]
        next := none }

/-- The submit held on `p`, if it waits on the notice in slot `i`, answered SUPERSEDED (01 R32). -/
def supersedeAt (i : Nat) (p : Port) (s : State) : State :=
  match (s.port p).held with
  | some h => if h.slot = i then s.finishHeld p .superseded else s
  | none => s

/-- Every submit held on the notice in slot `i` answered SUPERSEDED (01 R32). -/
def State.supersede (s : State) (i : Nat) : State := forPorts (supersedeAt i) s

/-- The held request of `p` with a new content; with nothing remaining it is answered at once,
CONFIRMED if a stream was satisfied and CONFIRM_LATE if none was (01 R31). -/
def State.settleHeld (s : State) (p : Port) (h : Held) : State :=
  let t := s.setPort p { s.port p with held := some h }
  if h.remaining = 0#4 then
    t.finishHeld p (if h.satisfied = 0#4 then .confirmLate else .confirmed)
  else t

/-- Stream `n` leaves the remaining set of the submit held on `p` for slot `i`, not satisfied
(01 R30). -/
def leaveAt (i : Nat) (n : Ch) (p : Port) (s : State) : State :=
  match (s.port p).held with
  | some h =>
    if h.slot = i ∧ chMem h.remaining n then
      s.settleHeld p { h with remaining := chErase h.remaining n }
    else s
  | none => s

/-- Stream `n` no longer airs the notice in slot `i` (01 R30). -/
def State.leaveRemaining (s : State) (i : Nat) (n : Ch) : State := forPorts (leaveAt i n) s

/-- The record satisfies its stream: a completed run, and on the heard stream a HEAD heard
(01 R30). -/
def Held.satisfiedBy (h : Held) (n : Ch) (r : Record) : Bool :=
  r.airings ≥ 1 && (h.heardStream ≠ some n || r.heard ≥ 1)

/-- The test of the submit held on `p` after a count of record `r` on stream `n` changed (01 R30). -/
def testHeldAt (i : Nat) (n : Ch) (r : Record) (p : Port) (s : State) : State :=
  match (s.port p).held with
  | some h =>
    if h.slot = i ∧ chMem h.remaining n ∧ h.satisfiedBy n r then
      s.settleHeld p
        { h with remaining := chErase h.remaining n, satisfied := chInsert h.satisfied n }
    else s
  | none => s

/-- Every held submit on slot `i` tested against record `r` of stream `n` (01 R30). -/
def State.testHeld (s : State) (i : Nat) (n : Ch) (r : Record) : State :=
  forPorts (testHeldAt i n r) s

/-! ### Airing records and runs -/

/-- A fresh record: airings 0, heard 0, no last run start, due now (01 R5). -/
def Record.fresh (now : Nat) : Record := ⟨.airing, now, 0, 0, none⟩

/-- The record is in AIRING mode. -/
def Record.isAiring (r : Record) : Bool :=
  match r.mode with
  | .airing => true
  | .withdrawal _ => false

/-- An AIRING record put into WITHDRAWAL mode with `w` cells, due now; a WITHDRAWAL record kept
(03 R54, 01 R9). -/
def Record.withdraw (w now : Nat) (r : Record) : Record :=
  match r.mode with
  | .airing => { r with mode := .withdrawal w, due := now }
  | .withdrawal _ => r

/-- The record a stream holds for a notice. -/
def Notice.record (nt : Notice) (n : Ch) : Option Record := nt.records.get n

/-- The notice with the record of one stream replaced. -/
def Notice.withRecord (nt : Notice) (n : Ch) (r : Option Record) : Notice :=
  { nt with records := nt.records.set n r }

/-- The notice holds no record at all. -/
def Notice.noRecords (nt : Notice) : Bool := nt.records.toList.all Option.isNone

/-- Stream `n` holds an AIRING record for the notice. -/
def Notice.airsOn (nt : Notice) (n : Ch) : Bool :=
  match nt.record n with
  | some r => r.isAiring
  | none => false

/-- The notice is LIVE. -/
def Notice.isLive (nt : Notice) : Bool :=
  match nt.state with
  | .live => true
  | _ => false

/-- The withdraw start of a WITHDRAWING notice. -/
def Notice.withdrawStart (nt : Notice) : Option Nat :=
  match nt.state with
  | .withdrawing w => some w
  | _ => none

/-- The carrying condition but for the stream's state: LIVE, carries-traffic set, coverage meeting
the area set (02 R45). -/
def State.wouldCarry (s : State) (n : Ch) (nt : Notice) : Bool :=
  nt.isLive && (s.prog n).carries && ((s.prog n).coverage &&& nt.areas) ≠ 0#16

/-- The carrying condition (02 R45). -/
def State.carries (s : State) (n : Ch) (nt : Notice) : Bool :=
  s.wouldCarry n nt && (s.stream n).state ≠ .stopped

/-- A run of the notice in slot `i` on stream `n` is cut (03 R62). -/
def State.cutRun (s : State) (n : Ch) (i : Nat) : State :=
  match (s.stream n).run with
  | some r => if r.slot = i then s.setStream n { s.stream n with run := none } else s
  | none => s

/-- Every run of the notice in slot `i` is cut (03 R62). -/
def State.cutRuns (s : State) (i : Nat) : State := forChannels (fun n t => t.cutRun n i) s

/-- A notice freed at once, with no withdrawal cells (01 R12). -/
def State.freeAtOnce (s : State) (i : Nat) : State :=
  match s.notice i with
  | none => s
  | some _ => ((s.supersede i).cutRuns i).setSlot i none

/-- A LIVE notice begins withdrawal: WITHDRAWING, or FREE when it has no record (01 R9). -/
def State.beginWithdrawal (s : State) (i : Nat) : State :=
  match s.notice i with
  | none => s
  | some nt =>
    let t := (s.supersede i).cutRuns i
    if nt.noRecords then t.setSlot i none
    else
      t.setSlot i (some { nt with
        state := .withdrawing s.now
        records := Four.tab fun n =>
          (nt.record n).map (Record.withdraw s.table.withdrawCells s.now) })

/-- The record of stream `n` for slot `i` is removed; a WITHDRAWING notice that loses its last
record becomes FREE (01 R10). -/
def State.removeRecord (s : State) (n : Ch) (i : Nat) : State :=
  match s.notice i with
  | none => s
  | some nt =>
    let nt' := nt.withRecord n none
    if nt'.withdrawStart.isSome && nt'.noRecords then s.setSlot i none
    else s.setSlot i (some nt')

/-- The record of a LIVE notice on stream `n` made to agree with the carrying condition after a change
of area set or coverage (02 R44, R46): an AIRING record no longer carried enters WITHDRAWAL mode, and
a stream that comes to carry the notice gets a fresh record. -/
def State.reconcile (s : State) (i : Nat) (n : Ch) : State :=
  match s.notice i with
  | none => s
  | some nt =>
    if s.carries n nt then
      if nt.airsOn n then s
      else s.setSlot i (some (nt.withRecord n (some (Record.fresh s.now))))
    else if nt.airsOn n then
      ((s.setSlot i (some (nt.withRecord n
          ((nt.record n).map (Record.withdraw s.table.withdrawCells s.now))))).cutRun n i).leaveRemaining i n
    else s

/-- A PENDING or updated notice that is LIVE gets a fresh record on each stream that carries it
(01 R6, R20). -/
def State.freshRecords (s : State) (nt : Notice) : Four (Option Record) :=
  Four.tab fun n => if s.carries n nt then some (Record.fresh s.now) else none

/-- The streams that hold an AIRING record for the notice: the carried-stream set (01 R22). -/
def Notice.carriedSet (nt : Notice) : FourSet := chSet nt.airsOn

/-- The notices a stream holds records for: slot, notice and record, in slot order. -/
def State.streamRecords (s : State) (n : Ch) : List (Nat × Notice × Record) :=
  slotNumbers.filterMap fun i =>
    match s.notice i with
    | some nt => (nt.record n).map fun r => (i, nt, r)
    | none => none

end Sys2Proof.Machine
end

