-- ==== Sys2Proof/Machine/Operands.lean ====
section
/-! DEFINITION. How values stand on the wire: bytes most significant first, the layouts of the request
bodies (09 sections 9.8 and 9.9) read and written, the codes of named values (09 R197), and the CRC
of cells and frames (04 R77, 09 R182). -/

namespace Sys2Proof.Machine

/-! ### The CRC -/

/-- One bit taken into the CRC register (04 R77). -/
def crcStep (reg : BitVec 16) (b : Bool) : BitVec 16 :=
  if xor reg.msb b then (reg <<< 1) ^^^ 0x1021#16 else reg <<< 1

/-- The CRC of a sequence of bits, starting from 0xFFFF (04 R77). -/
def crcBits (bits : List Bool) : BitVec 16 := bits.foldl crcStep 0xFFFF#16

/-- The bits of a vector, most significant first. -/
def msbBits {w : Nat} (v : BitVec w) : List Bool := (List.range w).map fun i => v.getMsbD i

/-- The number whose binary digits are `bits`, most significant first. -/
def bitsNat (bits : List Bool) : Nat := bits.foldl (fun n b => 2 * n + b.toNat) 0

/-- The check of a frame: the CRC over the length byte and the body (09 R182). -/
def frameCheck (body : List Byte) : BitVec 16 :=
  crcBits ((BitVec.ofNat 8 body.length :: body).flatMap msbBits)

/-! ### Values sent -/

/-- `n` in `k` bytes, most significant first (09 section 9.8). -/
def beBytes (k n : Nat) : List Byte :=
  match k with
  | 0 => []
  | k + 1 => BitVec.ofNat 8 (n / 256 ^ k) :: beBytes k n

/-- A signed number in `k` bytes, in two's complement (09 section 9.8). -/
def intBytes (k : Nat) (z : Int) : List Byte := beBytes k (z % (256 ^ k : Nat)).toNat

/-- A two-valued field (09 R197). -/
def flagByte (b : Bool) : Byte := if b then 1#8 else 0#8

/-- A value that may be absent: a presence byte, then its bytes, 0 when absent (09 R197). -/
def optBytes (width : Nat) (x : Option (List Byte)) : List Byte :=
  match x with
  | some bytes => 1#8 :: bytes
  | none => 0#8 :: List.replicate width 0#8

/-- A short or long name: its length and its characters, length 0 when there is none (09 R197). -/
def nameBytes (x : Option (List Byte)) : List Byte :=
  match x with
  | some cs => BitVec.ofNat 8 cs.length :: cs
  | none => [0#8]

/-- The two bytes of a 16-bit parameter and the four of a 32-bit one. -/
def split2 (v : BitVec 16) : List Byte := [v.extractLsb' 8 8, v.extractLsb' 0 8]
def split4 (v : BitVec 32) : List Byte :=
  [v.extractLsb' 24 8, v.extractLsb' 16 8, v.extractLsb' 8 8, v.extractLsb' 0 8]

/-! ### Codes of named values -/

/-- Class codes (01 R2). -/
def Urgency.rank : Urgency → Nat
  | .urgent => 0
  | .high => 1
  | .normal => 2
  | .background => 3

/-- The class a code names (01 R2). -/
def urgencyOf? (n : Nat) : Option Urgency :=
  match n with
  | 0 => some .urgent
  | 1 => some .high
  | 2 => some .normal
  | 3 => some .background
  | _ => none

/-- The place of a class's parameters. -/
def Urgency.ix : Urgency → Ch
  | .urgent => 0
  | .high => 1
  | .normal => 2
  | .background => 3

/-- Notice state codes; FREE is 0 (09 section 9.9). -/
def NoticeState.code : NoticeState → Nat
  | .pending => 1
  | .live => 2
  | .withdrawing _ => 3

/-- The state code of a slot (09 section 9.9). -/
def slotCode (x : Option Notice) : Nat :=
  match x with
  | none => 0
  | some nt => nt.state.code

/-- Duty codes (04 R88). -/
def Duty.code : Duty → Nat
  | .status => 0
  | .name => 1
  | .longName => 2
  | .refer => 3
  | .openSlot => 4

/-- The duty a code names (04 R88). -/
def dutyOf? (n : Nat) : Option Duty :=
  match n with
  | 0 => some .status
  | 1 => some .name
  | 2 => some .longName
  | 3 => some .refer
  | 4 => some .openSlot
  | _ => none

/-- Stream state codes, in the order of 04 R90 (09 R197). -/
def StreamState.code : StreamState → Nat
  | .running => 0
  | .paused => 1
  | .stopping => 2
  | .stopped => 3

/-- Cue source codes (06 R136). -/
def CueSource.code : CueSource → Nat
  | .line => 0
  | .link => 1
  | .either => 2

/-- The cue source a code names (06 R136). -/
def cueSourceOf? (n : Nat) : Option CueSource :=
  match n with
  | 0 => some .line
  | 1 => some .link
  | 2 => some .either
  | _ => none

/-- Announcement state codes, in the order of 06 R118 (09 R197). -/
def AnnState.code : AnnState → Nat
  | .quiet => 0
  | .leading => 1
  | .onAir => 2
  | .hanging => 3
  | .barred => 4

/-- Mark watch codes, in the order of 07 R141 (09 R197). -/
def WatchState.code : WatchState → Nat
  | .off => 0
  | .watching => 1
  | .lost => 2

/-- Monitor state codes, in the order of 08 R158 (09 R197). -/
def MonState.code : MonState → Nat
  | .off => 0
  | .searching => 1
  | .locked => 2

/-- Port numbers (09 R177). -/
def portNum : Port → Nat
  | .site => 0
  | .traffic => 1

/-- The port a byte names (09 R192). -/
def portOf? (n : Nat) : Option Port :=
  match n with
  | 0 => some .site
  | 1 => some .traffic
  | _ => none

/-- A referral target, 0xFF for none (05 R101). -/
def targetByte (t : Option Ch) : Byte :=
  match t with
  | some y => BitVec.ofNat 8 y.val
  | none => 0xFF#8

/-! ### Request bodies written -/

/-- The code of a request (09 section 9.8). -/
def requestCode : Request → Byte
  | .ping => 0x01#8
  | .readAttention => 0x02#8
  | .setAttentionMask _ => 0x03#8
  | .setLink _ _ => 0x04#8
  | .abandon => 0x05#8
  | .restart _ => 0x06#8
  | .submit _ => 0x10#8
  | .withdraw _ => 0x11#8
  | .withdrawAll => 0x12#8
  | .purge _ => 0x13#8
  | .queryNotice _ => 0x14#8
  | .listNotices _ => 0x15#8
  | .setClass _ _ _ => 0x16#8
  | .setNoticeLimits _ _ _ => 0x17#8
  | .setRange _ _ _ _ _ => 0x20#8
  | .readRange _ => 0x21#8
  | .setDefaultAreas _ => 0x22#8
  | .setProgramme _ _ _ _ _ => 0x30#8
  | .setName _ _ _ _ => 0x31#8
  | .selectName _ _ => 0x32#8
  | .setTimedChange _ _ _ _ _ => 0x33#8
  | .clearTimedChange _ => 0x34#8
  | .setPlan _ _ => 0x35#8
  | .startStream _ => 0x36#8
  | .stopStream _ => 0x37#8
  | .readStream _ => 0x38#8
  | .readProgramme _ => 0x39#8
  | .setCue _ _ _ _ _ => 0x40#8
  | .cueOn _ => 0x41#8
  | .cueOff _ => 0x42#8
  | .readAnnouncement _ => 0x43#8
  | .setTime _ => 0x50#8
  | .stepTime _ => 0x51#8
  | .setTrim _ => 0x52#8
  | .trimFor _ _ => 0x53#8
  | .readTime => 0x54#8
  | .readMark => 0x55#8
  | .setOffset _ => 0x56#8
  | .setMarkWatch _ => 0x57#8
  | .setMonitor _ _ _ => 0x60#8
  | .readMonitor => 0x61#8

/-- The presence byte of a SUBMIT (09 section 9.9). -/
def submitPresence (a : SubmitArgs) : Byte :=
  a.spare ++ BitVec.ofBool a.text.isSome ++ BitVec.ofBool a.advice.isSome ++
    BitVec.ofBool a.endsAt.isSome ++ BitVec.ofBool a.startsAt.isSome ++ BitVec.ofBool a.areas.isSome

/-- The parameters of a SUBMIT after its request code (09 section 9.9). -/
def submitBytes (a : SubmitArgs) : List Byte :=
  split2 a.number ++ [a.version, a.urgency] ++ split2 a.event ++ split2 a.location ++
    [a.extent ++ a.direction, submitPresence a] ++
    (match a.areas with | some v => split2 v | none => []) ++
    (match a.startsAt with | some v => split4 v | none => []) ++
    (match a.endsAt with | some v => split4 v | none => []) ++
    (match a.advice with | some (c, h) => split2 c ++ [h] | none => []) ++
    (match a.text with | some t => BitVec.ofNat 8 t.length :: t | none => []) ++
    [a.confirm]

/-- The parameters of a request after its code (09 section 9.8). -/
def requestParams : Request → List Byte
  | .setAttentionMask mask => split2 mask
  | .setLink port baud => [port, baud]
  | .restart scope => [scope]
  | .submit a => submitBytes a
  | .withdraw number => split2 number
  | .purge number => split2 number
  | .queryNotice number => split2 number
  | .listNotices start => [start]
  | .setClass cls base settle => [cls] ++ split2 base ++ [settle]
  | .setNoticeLimits w lifetime confirm => [w] ++ split4 lifetime ++ split2 confirm
  | .setRange entry enabled first last area =>
    [entry, enabled] ++ split2 first ++ split2 last ++ [area]
  | .readRange entry => [entry]
  | .setDefaultAreas areas => split2 areas
  | .setProgramme prog code coverage carries target =>
    [prog] ++ split2 code ++ split2 coverage ++ [carries, target]
  | .setName prog variant short long =>
    [prog, variant, BitVec.ofNat 8 short.length] ++ short ++ [BitVec.ofNat 8 long.length] ++ long
  | .selectName prog variant => [prog, variant]
  | .setTimedChange entry prog variant target period =>
    [entry, prog, variant] ++ split4 target ++ split4 period
  | .clearTimedChange entry => [entry]
  | .setPlan stream duties => stream :: duties
  | .startStream stream => [stream]
  | .stopStream stream => [stream]
  | .readStream stream => [stream]
  | .readProgramme prog => [prog]
  | .setCue prog source lead hangover maxSecs => [prog, source, lead, hangover] ++ split2 maxSecs
  | .cueOn prog => [prog]
  | .cueOff prog => [prog]
  | .readAnnouncement prog => [prog]
  | .setTime secs => split4 secs
  | .stepTime delta => split4 delta
  | .setTrim trim => split4 trim
  | .trimFor trim duration => split4 trim ++ split4 duration
  | .setOffset offset => [offset]
  | .setMarkWatch enable => [enable]
  | .setMonitor enable watched tolerance => [enable, watched, tolerance]
  | .ping | .readAttention | .abandon | .withdrawAll | .readTime | .readMark | .readMonitor => []

/-- The body of a request (09 section 9.2). -/
def requestBody (r : Request) : List Byte := requestCode r :: requestParams r

/-! ### Request bodies read -/

/-- Two bytes taken off the front. -/
def take2 (bs : List Byte) : Option (BitVec 16 × List Byte) :=
  match bs with
  | a :: b :: rest => some (a ++ b, rest)
  | _ => none

/-- Four bytes taken off the front. -/
def take4 (bs : List Byte) : Option (BitVec 32 × List Byte) :=
  match bs with
  | a :: b :: c :: d :: rest => some (a ++ b ++ c ++ d, rest)
  | _ => none

/-- An advice code and a duration hint taken off the front. -/
def takeAdvice (bs : List Byte) : Option ((BitVec 16 × Byte) × List Byte) :=
  match bs with
  | a :: b :: c :: rest => some ((a ++ b, c), rest)
  | _ => none

/-- A length byte and that many bytes taken off the front; a text of length 0 has no valid form
(01 R14). -/
def takeText (bs : List Byte) : Option (List Byte × List Byte) :=
  match bs with
  | t :: rest =>
    if t.toNat = 0 ∨ rest.length < t.toNat then none
    else some (rest.take t.toNat, rest.drop t.toNat)
  | [] => none

/-- An optional field: taken off the front when its presence bit is set. -/
def takeIf {α : Type} (present : Bool) (take : List Byte → Option (α × List Byte))
    (bs : List Byte) : Option (Option α × List Byte) :=
  if present then (take bs).map fun x => (some x.1, x.2) else some (none, bs)

/-- The parameters of a SUBMIT read from the bytes after its code, when the length is the one the
presence byte and the text length byte require (09 R187). -/
def parseSubmit (bs : List Byte) : Option SubmitArgs :=
  match bs with
  | n1 :: n0 :: version :: cls :: e1 :: e0 :: l1 :: l0 :: x :: pr :: rest =>
    (takeIf (pr.getLsbD 0) take2 rest).bind fun areas =>
    (takeIf (pr.getLsbD 1) take4 areas.2).bind fun starts =>
    (takeIf (pr.getLsbD 2) take4 starts.2).bind fun ends =>
    (takeIf (pr.getLsbD 3) takeAdvice ends.2).bind fun advice =>
    (takeIf (pr.getLsbD 4) takeText advice.2).bind fun text =>
    match text.2 with
    | [confirm] =>
      some
        { number := n1 ++ n0
          version := version
          urgency := cls
          event := e1 ++ e0
          location := l1 ++ l0
          extent := x.extractLsb' 4 4
          direction := x.extractLsb' 0 4
          spare := pr.extractLsb' 5 3
          areas := areas.1
          startsAt := starts.1
          endsAt := ends.1
          advice := advice.1
          text := text.1
          confirm := confirm }
    | _ => none
  | _ => none

/-- The parameters of a SET NAME read from the bytes after its code (09 R187). -/
def parseSetName (bs : List Byte) : Option Request :=
  match bs with
  | prog :: variant :: s :: rest =>
    match rest.drop s.toNat with
    | l :: long =>
      if rest.length = s.toNat + 1 + l.toNat then
        some (.setName prog variant (rest.take s.toNat) long)
      else none
    | [] => none
  | _ => none

/-- The request that a code and the bytes after it spell, when the length fits (09 R187 and section
9.8). `none` also for an unknown code, which the dispatcher has answered before (09 R185). -/
def parseRequest (code : Byte) (bs : List Byte) : Option Request :=
  match code.toNat, bs with
  | 0x01, [] => some .ping
  | 0x02, [] => some .readAttention
  | 0x03, [a, b] => some (.setAttentionMask (a ++ b))
  | 0x04, [a, b] => some (.setLink a b)
  | 0x05, [] => some .abandon
  | 0x06, [a] => some (.restart a)
  | 0x10, bs => (parseSubmit bs).map .submit
  | 0x11, [a, b] => some (.withdraw (a ++ b))
  | 0x12, [] => some .withdrawAll
  | 0x13, [a, b] => some (.purge (a ++ b))
  | 0x14, [a, b] => some (.queryNotice (a ++ b))
  | 0x15, [a] => some (.listNotices a)
  | 0x16, [c, a, b, s] => some (.setClass c (a ++ b) s)
  | 0x17, [w, a, b, c, d, e, f] => some (.setNoticeLimits w (a ++ b ++ c ++ d) (e ++ f))
  | 0x20, [e, n, a, b, c, d, r] => some (.setRange e n (a ++ b) (c ++ d) r)
  | 0x21, [a] => some (.readRange a)
  | 0x22, [a, b] => some (.setDefaultAreas (a ++ b))
  | 0x30, [p, a, b, c, d, t, y] => some (.setProgramme p (a ++ b) (c ++ d) t y)
  | 0x31, bs => parseSetName bs
  | 0x32, [a, b] => some (.selectName a b)
  | 0x33, [e, p, v, a, b, c, d, f, g, h, i] =>
    some (.setTimedChange e p v (a ++ b ++ c ++ d) (f ++ g ++ h ++ i))
  | 0x34, [a] => some (.clearTimedChange a)
  | 0x35, n :: duties => if duties.length = 20 then some (.setPlan n duties) else none
  | 0x36, [a] => some (.startStream a)
  | 0x37, [a] => some (.stopStream a)
  | 0x38, [a] => some (.readStream a)
  | 0x39, [a] => some (.readProgramme a)
  | 0x40, [p, c, l, h, a, b] => some (.setCue p c l h (a ++ b))
  | 0x41, [a] => some (.cueOn a)
  | 0x42, [a] => some (.cueOff a)
  | 0x43, [a] => some (.readAnnouncement a)
  | 0x50, [a, b, c, d] => some (.setTime (a ++ b ++ c ++ d))
  | 0x51, [a, b, c, d] => some (.stepTime (a ++ b ++ c ++ d))
  | 0x52, [a, b, c, d] => some (.setTrim (a ++ b ++ c ++ d))
  | 0x53, [a, b, c, d, e, f, g, h] => some (.trimFor (a ++ b ++ c ++ d) (e ++ f ++ g ++ h))
  | 0x54, [] => some .readTime
  | 0x55, [] => some .readMark
  | 0x56, [a] => some (.setOffset a)
  | 0x57, [a] => some (.setMarkWatch a)
  | 0x60, [a, b, c] => some (.setMonitor a b c)
  | 0x61, [] => some .readMonitor
  | _, _ => none

end Sys2Proof.Machine
end

