-- ==== Sys2Proof/Machine/Flags.lean ====
section
/-! DEFINITION. Statuses, response flags and the computations that set them: clamping (00 3.6), the
adjustment of text and names (01 R14, 05 R104), the reply of a block to a request, the announcement
flag (06 R131), the referral condition (06 R132) and the ATTN line (10 R200). -/

namespace Sys2Proof.Machine

/-- Status codes (09 section 9.6). -/
def Status.code : Status → Byte
  | .ok => 0x00#8
  | .unchanged => 0x01#8
  | .displaced => 0x02#8
  | .confirmed => 0x04#8
  | .badCheck => 0x80#8
  | .unknownRequest => 0x81#8
  | .badLength => 0x82#8
  | .outOfRange => 0x83#8
  | .notPermitted => 0x84#8
  | .notOwner => 0x85#8
  | .notFound => 0x86#8
  | .full => 0x87#8
  | .stale => 0x88#8
  | .unplaced => 0x89#8
  | .busy => 0x8A#8
  | .planInvalid => 0x8B#8
  | .emptyVariant => 0x8C#8
  | .inUse => 0x8D#8
  | .notTraffic => 0x8E#8
  | .notReady => 0x8F#8
  | .alreadyWithdrawing => 0x90#8
  | .rangeInverted => 0x91#8
  | .notHeld => 0x92#8
  | .selfReference => 0x93#8
  | .confirmLate => 0xA0#8
  | .superseded => 0xA1#8
  | .abandoned => 0xA2#8

/-- The flags byte (09 R196 and section 9.9). -/
def RFlags.byte (f : RFlags) : Byte :=
  0#4 ++ BitVec.ofBool f.uncarried ++ BitVec.ofBool f.replaced ++ BitVec.ofBool f.truncated ++
    BitVec.ofBool f.adjusted

/-- The body of a response: echoed code, status, flags, results (09 R184). -/
def Response.body (r : Response) : List Byte := r.code :: r.status.code :: r.flags.byte :: r.results

/-- A response frame as it goes out (09 R184): lead, length, body, check high byte first. -/
def Response.frame (r : Response) : List Byte :=
  Config.responseLead :: BitVec.ofNat 8 r.body.length :: (r.body ++ split2 (frameCheck r.body))

/-! ### Replies -/

/-- What a block answers to a request: a response to form, or nothing when a submit is held. -/
structure Reply where
  status : Status
  flags : RFlags
  results : List Byte
  next : Option After
deriving DecidableEq, Repr

/-- A refusal: no flags, no results (09 R185). -/
def Reply.refuse (st : Status) : Reply := ⟨st, RFlags.none, [], none⟩

/-- A success with results and no flags. -/
def Reply.ok (results : List Byte) : Reply := ⟨.ok, RFlags.none, results, none⟩

/-- A request for the state already in force (09 section 9.6). -/
def Reply.unchanged (results : List Byte) : Reply := ⟨.unchanged, RFlags.none, results, none⟩

/-- A success whose ADJUSTED flag is as given (09 R196). -/
def Reply.adjusted (flag : Bool) (results : List Byte) : Reply :=
  ⟨.ok, { RFlags.none with adjusted := flag }, results, none⟩

/-- The state and the reply after a request. -/
abbrev Answer := State × Option Reply

/-- A request refused: the state is left as it was (09 R185). -/
def refuse (st : Status) (s : State) : Answer := (s, some (Reply.refuse st))

/-! ### Clamping -/

/-- A value outside its range replaced by the nearer end (00 3.6). -/
def clamp (lo hi n : Nat) : Nat := max lo (min hi n)

/-- The same for a signed value. -/
def clampInt (lo hi z : Int) : Int := max lo (min hi z)

/-! ### Text and names -/

/-- A character of text: 0x20..0x7E (00 3.4). -/
def printable (b : Byte) : Bool := 0x20 ≤ b.toNat && b.toNat ≤ 0x7E

/-- A byte that is no character becomes 0x3F (01 R14, 05 R104). -/
def replaceByte (b : Byte) : Byte := if printable b then b else 0x3F#8

/-- A text or name cut to its limit, its other bytes replaced; and whether it was cut, and whether
a byte that was kept was replaced. -/
def adjustName (limit : Nat) (cs : List Byte) : List Byte × Bool × Bool :=
  let kept := cs.take limit
  (kept.map replaceByte, decide (limit < cs.length), kept.any fun b => !printable b)

/-- A short name padded on the right with spaces to 8 characters (05 R104). -/
def padShort (cs : List Byte) : List Byte := cs ++ List.replicate (8 - cs.length) 0x20#8

/-- Notice text: each byte outside 0x20..0x7E is replaced, whether kept or not, and the text is cut
to 30 characters (01 R14). -/
def adjustText (cs : List Byte) : List Byte × Bool × Bool :=
  ((cs.map replaceByte).take 30, decide (30 < cs.length), cs.any fun b => !printable b)

/-! ### Conditions read by several blocks -/

/-- The announcement flag of a programme (06 R131). -/
def Announce.flag (a : Announce) : Bool :=
  match a.state with
  | .onAir | .hanging => true
  | .quiet | .leading | .barred => false

/-- A referral is active on programme `x` (06 R132). -/
def State.referralActive (s : State) (x : Ch) : Bool :=
  match (s.prog x).target with
  | some y => (s.ann y).flag || (s.ann x).closing > 0
  | none => false

/-- The current variant of a programme, if it is not empty. -/
def Programme.currentNames (g : Programme) : Option Names := g.variants.get g.current

/-- ATTN is driven low: a kind is pending and enabled, and PORN is not held low (10 R200). -/
def State.attnLow (s : State) : Bool :=
  !s.pornLow && (s.attention.pendingKinds &&& s.attention.mask) ≠ 0#11

end Sys2Proof.Machine
end

