-- ==== Sys2Proof/Machine/Cells.lean ====
section
/-! DEFINITION. The 96-bit cell: the coded header, the payload of every kind, and the cell formed of
them (04 R75 to R83; layouts of 09 section 9.9). -/

namespace Sys2Proof.Machine

/-- The kinds of cell (04 R76). -/
inductive Kind
  | fill
  | status
  | time
  | name
  | longName
  | refer
  | head
  | place
  | advice
  | text
  | withdraw
deriving DecidableEq, Repr

/-- The code of a kind (04 R76). -/
def Kind.code : Kind → BitVec 4
  | .fill => 0x0#4
  | .status => 0x1#4
  | .time => 0x2#4
  | .name => 0x3#4
  | .longName => 0x4#4
  | .refer => 0x5#4
  | .head => 0x6#4
  | .place => 0x7#4
  | .advice => 0x8#4
  | .text => 0x9#4
  | .withdraw => 0xA#4

/-- The header of a kind code: p1, p2, k0, p3, k1, k2, k3, p4 in the order on air (04 R76). -/
def headerOf (k : BitVec 4) : Byte :=
  let k0 := k.getLsbD 0
  let k1 := k.getLsbD 1
  let k2 := k.getLsbD 2
  let k3 := k.getLsbD 3
  let p1 := xor (xor k0 k1) k3
  let p2 := xor (xor k0 k2) k3
  let p3 := xor (xor k1 k2) k3
  let p4 := xor (xor (xor p1 p2) (xor k0 p3)) (xor (xor k1 k2) k3)
  BitVec.ofBool p1 ++ BitVec.ofBool p2 ++ BitVec.ofBool k0 ++ BitVec.ofBool p3 ++
    BitVec.ofBool k1 ++ BitVec.ofBool k2 ++ BitVec.ofBool k3 ++ BitVec.ofBool p4

/-- A cell of a programme code, a kind and a payload (04 R75, R77). -/
def formCell (code : BitVec 16) (k : Kind) (payload : BitVec 48) : BitVec 96 :=
  let covered : BitVec 72 := headerOf k.code ++ code ++ payload
  Config.sync ++ covered ++ crcBits (msbBits covered)

/-- Character `i` of a name or text, a space beyond its end (04 R81, 03 R59). -/
def charAt (cs : List Byte) (i : Nat) : Byte := cs.getD i 0x20#8

/-- Four characters from position `i`. -/
def chars4 (cs : List Byte) (i : Nat) : BitVec 32 :=
  charAt cs i ++ charAt cs (i + 1) ++ charAt cs (i + 2) ++ charAt cs (i + 3)

/-- Three characters from position `i`. -/
def chars3 (cs : List Byte) (i : Nat) : BitVec 24 :=
  charAt cs i ++ charAt cs (i + 1) ++ charAt cs (i + 2)

/-! ### Payloads (09 section 9.9; the fields of 04 R79 to R83) -/

/-- STATUS (04 R79). -/
def statusPayload (carries flag referral timeSet : Bool) (variant : Ch) (coverage : AreaSet)
    (carried : Nat) : BitVec 48 :=
  BitVec.ofBool carries ++ BitVec.ofBool flag ++ BitVec.ofBool referral ++ BitVec.ofBool timeSet ++
    BitVec.ofNat 2 variant.val ++ 0#2 ++ coverage ++ BitVec.ofNat 8 carried ++ 0#16

/-- TIME of site seconds `s` with local offset `off` (04 R80). -/
def timePayload (s : Nat) (off : Int) : BitVec 48 :=
  BitVec.ofNat 16 (s / 86400) ++ BitVec.ofNat 11 (s % 86400 / 60) ++ BitVec.ofBool (off < 0) ++
    BitVec.ofNat 5 off.natAbs ++ 0#15

/-- NAME: a segment of a short name (04 R81). -/
def namePayload (segment : Nat) (short : List Byte) : BitVec 48 :=
  BitVec.ofNat 1 segment ++ 0#7 ++ chars4 short (4 * segment) ++ 0#8

/-- The segments of a long name: its length divided by 4 and rounded up (04 R81). -/
def longSegments (long : List Byte) : Nat := ceilDiv long.length 4

/-- LONGNAME: a segment of a long name (04 R81). -/
def longNamePayload (segment : Nat) (long : List Byte) : BitVec 48 :=
  BitVec.ofNat 3 segment ++ BitVec.ofNat 3 (longSegments long) ++ 0#2 ++
    chars4 long (4 * segment) ++ 0#8

/-- REFER (04 R82). -/
def referPayload (code : BitVec 16) (flag carries : Bool) : BitVec 48 :=
  code ++ BitVec.ofBool flag ++ BitVec.ofBool carries ++ 0#30

/-- The segments of a text: its length divided by 3 and rounded up (03 R59). -/
def textSegments (text : Option (List Byte)) : Nat :=
  match text with
  | some t => ceilDiv t.length 3
  | none => 0

/-- The run length of a notice (01 R3). -/
def Notice.runLength (nt : Notice) : Nat :=
  2 + (if nt.advice.isSome then 1 else 0) + textSegments nt.text

/-- HEAD (03 R59, 04 R83). -/
def headPayload (nt : Notice) : BitVec 48 :=
  BitVec.ofNat 16 nt.number ++ BitVec.ofNat 4 nt.version ++ BitVec.ofNat 2 nt.urgency.rank ++
    BitVec.ofNat 4 (nt.runLength - 1) ++ BitVec.ofNat 12 nt.event ++ BitVec.ofNat 3 nt.extent ++
    BitVec.ofNat 1 nt.direction ++ 0#6

/-- PLACE (04 R83, 02 R50). -/
def placePayload (nt : Notice) : BitVec 48 :=
  BitVec.ofNat 16 nt.number ++ BitVec.ofNat 16 nt.location ++ nt.areas

/-- ADVICE (04 R83). -/
def advicePayload (number code hint : Nat) : BitVec 48 :=
  BitVec.ofNat 16 number ++ BitVec.ofNat 12 code ++ 0#4 ++ BitVec.ofNat 8 hint ++ 0#8

/-- TEXT: a segment of a notice's text (04 R83). -/
def textPayload (number segment : Nat) (text : List Byte) : BitVec 48 :=
  BitVec.ofNat 16 number ++ BitVec.ofNat 4 segment ++ 0#4 ++ chars3 text (3 * segment)

/-- WITHDRAW (03 R65). -/
def withdrawPayload (nt : Notice) : BitVec 48 :=
  BitVec.ofNat 16 nt.number ++ BitVec.ofNat 4 nt.version ++ 0#28

/-- The kind and payload of cell `k` of a run, counted from 0: HEAD, PLACE, ADVICE when the notice
has advice, then the TEXT segments (03 R59). -/
def runCell (nt : Notice) (k : Nat) : Kind × BitVec 48 :=
  match k with
  | 0 => (.head, headPayload nt)
  | 1 => (.place, placePayload nt)
  | k + 2 =>
    match nt.advice, k with
    | some (code, hint), 0 => (.advice, advicePayload nt.number code hint)
    | some _, j + 1 => (.text, textPayload nt.number j (nt.text.getD []))
    | none, j => (.text, textPayload nt.number j (nt.text.getD []))

end Sys2Proof.Machine
end

