-- ==== Sys2Proof/Machine/Schedule.lean ====
section
/-! DEFINITION. When notices are aired: intervals (03 R67 to R69), the load figure, backlog and
lateness (03 R71 to R74), and the OPEN-slot arbiter with its runs and withdrawal cells (03 R55 to
R65). -/

namespace Sys2Proof.Machine

/-! ### Intervals -/

/-- The doubling count of a record with `a` airings and settle count `settle` (03 R68). -/
def doublings (settle a : Nat) : Nat := if settle = 0 then 0 else min 3 (a / settle)

/-- The interval in seconds (03 R68). -/
def interval (c : ClassParams) (a : Nat) : Nat :=
  min Config.maxInterval (c.base * 2 ^ doublings c.settle a)

/-- The parameters of a class now in force. -/
def State.classOf (s : State) (u : Urgency) : ClassParams := s.table.classes.get u.ix

/-! ### Load, backlog, lateness -/

/-- The AIRING records of a stream. -/
def State.airingRecords (s : State) (n : Ch) : List (Nat × Notice × Record) :=
  (s.streamRecords n).filter fun x => x.2.2.isAiring

/-- The WITHDRAWAL records of a stream. -/
def State.withdrawalRecords (s : State) (n : Ch) : List (Nat × Notice × Record) :=
  (s.streamRecords n).filter fun x => !x.2.2.isAiring

/-- A record's demand in cells per 1,000 seconds (03 R71). -/
def State.demand (s : State) (nt : Notice) (r : Record) : Nat :=
  ceilDiv (nt.runLength * 1000) (interval (s.classOf nt.urgency) r.airings)

/-- The number of OPEN duties of a plan (04 R84). -/
def openDuties (plan : List Duty) : Nat := plan.count .openSlot

/-- The load figure of a stream, in per-mille (03 R71). -/
def State.load (s : State) (n : Ch) : Nat :=
  min 9999
    (((s.airingRecords n).map fun x => s.demand x.2.1 x.2.2).sum / openDuties (s.stream n).plan)

/-- The stream has the notice of slot `i` in its run in progress. -/
def State.inRun (s : State) (n : Ch) (i : Nat) : Bool :=
  match (s.stream n).run with
  | some r => r.slot == i
  | none => false

/-- The records that make up the backlog: AIRING, due, not in the run in progress (03 R74). A record is
counted from the moment at which its due is not greater than the tick count, also between two
boundaries, before the boundary from which the arbiter sees it (03 R52). DESIGN CHOICE: R74 leaves this
open; log entry 29. -/
def State.backlogRecords (s : State) (n : Ch) : List (Nat × Notice × Record) :=
  (s.airingRecords n).filter fun x => decide (x.2.2.due ≤ s.now) && !s.inRun n x.1

/-- The backlog (03 R74). -/
def State.backlog (s : State) (n : Ch) : Nat := (s.backlogRecords n).length

/-- The worst lateness in ticks (03 R74). -/
def State.worstLateness (s : State) (n : Ch) : Nat :=
  min Config.maxCount (((s.backlogRecords n).map fun x => s.now - x.2.2.due).foldl max 0)

/-! ### The arbiter's choice (03 R56) -/

/-- The first of a list under a strict order; an earlier entry is kept among equals. -/
def leastBy {α : Type} (lt : α → α → Bool) (xs : List α) : Option α :=
  xs.foldl (fun best x =>
    match best with
    | none => some x
    | some b => if lt x b then some x else some b) none

/-- Due WITHDRAWAL records: earliest due, then lower notice number (03 R56). -/
def withdrawalBefore (x y : Nat × Notice × Record) : Bool :=
  x.2.2.due < y.2.2.due || (x.2.2.due == y.2.2.due && x.2.1.number < y.2.1.number)

/-- Due AIRING records: earliest due, then more urgent class, then lower notice number (03 R56). -/
def airingBefore (x y : Nat × Notice × Record) : Bool :=
  x.2.2.due < y.2.2.due ||
    (x.2.2.due == y.2.2.due &&
      (x.2.1.urgency.rank < y.2.1.urgency.rank ||
        (x.2.1.urgency.rank == y.2.1.urgency.rank && x.2.1.number < y.2.1.number)))

/-- The due WITHDRAWAL record that is served next. -/
def State.nextWithdrawal (s : State) (n : Ch) : Option (Nat × Notice × Record) :=
  leastBy withdrawalBefore ((s.withdrawalRecords n).filter fun x => x.2.2.due ≤ s.now)

/-- The due AIRING record that is served next. -/
def State.nextAiring (s : State) (n : Ch) : Option (Nat × Notice × Record) :=
  leastBy airingBefore ((s.airingRecords n).filter fun x => x.2.2.due ≤ s.now)

/-! ### Runs -/

/-- The cell of kind `k` and payload `v` put on stream `n`'s output for this tick (04 R75, R78). -/
def State.emit (s : State) (n : Ch) (k : Kind) (v : BitVec 48) : State :=
  s.setStream n { s.stream n with cell := some (formCell (s.prog n).code k v) }

/-- The record after a completed run (03 R61). -/
def Record.complete (c : ClassParams) (head : Nat) (r : Record) : Record :=
  { r with
    airings := satAdd Config.maxCount r.airings 1
    lastRunStart := some head
    due := head + interval c (satAdd Config.maxCount r.airings 1) * Config.ticksPerSecond }

/-- A run's last cell has been sent: the record is updated, the run cleared, and held submits are
tested (03 R61). -/
def State.completeRun (s : State) (n : Ch) (i head : Nat) : State :=
  let t := s.setStream n { s.stream n with run := none }
  match t.notice i with
  | none => t
  | some nt =>
    match nt.record n with
    | none => t
    | some r =>
      let r' := r.complete (s.classOf nt.urgency) head
      (t.setSlot i (some (nt.withRecord n (some r')))).testHeld i n r'

/-- The next cell of the run in progress sent, and the run completed if it was the last
(03 R59 to R61). -/
def State.sendRunCell (s : State) (n : Ch) (run : Run) : State :=
  match s.notice run.slot with
  | none => s.emit n .fill 0#48
  | some nt =>
    let cell := runCell nt run.sent
    let t := s.emit n cell.1 cell.2
    if run.sent + 1 < nt.runLength then
      t.setStream n { t.stream n with run := some { run with sent := run.sent + 1 } }
    else t.completeRun n run.slot run.head

/-- A WITHDRAW cell sent for the record of slot `i`: it counts down and is removed at 0 (03 R65). -/
def State.sendWithdraw (s : State) (n : Ch) (i : Nat) (nt : Notice) (r : Record) : State :=
  let t := s.emit n .withdraw (withdrawPayload nt)
  match r.mode with
  | .airing => t
  | .withdrawal left =>
    if left ≤ 1 then t.removeRecord n i
    else
      t.setSlot i (some (nt.withRecord n
        (some { r with mode := .withdrawal (left - 1), due := s.now + Config.withdrawSpacing })))

/-- The HEAD cell of a new run of the notice in slot `i` (03 R60). -/
def State.sendHead (s : State) (n : Ch) (i : Nat) (nt : Notice) : State :=
  let t := s.emit n .head (headPayload nt)
  t.setStream n { t.stream n with run := some ⟨nt.number, i, 1, s.now⟩ }

/-- The arbiter fills an OPEN-arbitrated slot (03 R56). -/
def State.arbitrate (s : State) (n : Ch) : State :=
  match (s.stream n).run with
  | some run => s.sendRunCell n run
  | none =>
    match s.nextWithdrawal n with
    | some (i, nt, r) => s.sendWithdraw n i nt r
    | none =>
      match s.nextAiring n with
      | some (i, nt, _) => s.sendHead n i nt
      | none => s.emit n .fill 0#48

end Sys2Proof.Machine
end

