-- ==== Sys2Proof/Machine/Areas.lean ====
section
/-! DEFINITION. The location map: derivation (02 R39), the re-derivation pass (02 R41 to R44), its
requests (02 R35 to R38), and the re-evaluation of one stream after a change of its programme's
coverage or carries-traffic flag (02 R46). -/

namespace Sys2Proof.Machine

/-! ### Derivation -/

/-- The set of one area. -/
def areaBit (a : Nat) : AreaSet := 1#16 <<< a

/-- The entry is enabled and contains the code (02 R39). -/
def RangeEntry.contains (e : RangeEntry) (code : Nat) : Bool :=
  e.enabled && e.first ≤ code && code ≤ e.last

/-- The derived area set of a location code (02 R39). -/
def LocationMap.derive (m : LocationMap) (code : Nat) : AreaSet :=
  let union := m.ranges.foldl
    (fun set e => if e.contains code then set ||| areaBit e.area else set) 0#16
  if union = 0#16 then m.defaultAreas else union

/-! ### The re-derivation pass -/

/-- The notice's area set came from the location map. -/
def Notice.isDerived (nt : Notice) : Bool := nt.origin = .derived

/-- What the pass makes of a DERIVED notice's area set and stranded mark (02 R41). -/
def Notice.rederive (m : LocationMap) (nt : Notice) : Notice :=
  let set := m.derive nt.location
  if set = 0#16 then { nt with stranded := true }
  else { nt with areas := set, stranded := false }

/-- The derivation of a DERIVED notice is empty against this map (02 R41). -/
def Notice.losesPlace (m : LocationMap) (nt : Notice) : Bool :=
  nt.isDerived && m.derive nt.location = 0#16

/-- The derivation of a DERIVED notice gives another set than the stored one (02 R41). -/
def Notice.movesPlace (m : LocationMap) (nt : Notice) : Bool :=
  nt.isDerived && m.derive nt.location ≠ 0#16 && m.derive nt.location ≠ nt.areas

/-- The pass at one slot: the notice derived again, and the records of a LIVE notice whose area set was
replaced re-evaluated (02 R41, R44). -/
def rederiveSlot (i : Nat) (s : State) : State :=
  match s.notice i with
  | none => s
  | some nt =>
    if nt.isDerived then
      let t := s.setSlot i (some (nt.rederive s.map))
      if nt.isLive && nt.movesPlace s.map then forChannels (fun n u => u.reconcile i n) t else t
    else s

/-- The occupied notices for which `f` holds, counted. -/
def State.countNotices (s : State) (f : Notice → Bool) : Nat :=
  (s.table.slots.filter fun x =>
    match x with
    | some nt => f nt
    | none => false).length

/-- The three counts of a pass (02 R41): DERIVED notices examined, area sets replaced, notices
stranded at its end. -/
structure PassCounts where
  examined : Nat
  replaced : Nat
  stranded : Nat
deriving DecidableEq, Repr

/-- The re-derivation pass against the map now in force, with PLACEMENT raised when a derivation
was empty (02 R41, R43). -/
def State.rederivePass (s : State) : State × PassCounts :=
  let t := forSlots rederiveSlot s
  let stranded := t.countNotices fun nt => nt.stranded
  let counts : PassCounts :=
    ⟨s.countNotices Notice.isDerived, s.countNotices (Notice.movesPlace s.map), stranded⟩
  if s.countNotices (Notice.losesPlace s.map) > 0 then (t.raise (.placement stranded), counts)
  else (t, counts)

/-- The counts as results, a byte each (09 R197). -/
def PassCounts.bytes (c : PassCounts) : List Byte :=
  beBytes 1 c.examined ++ beBytes 1 c.replaced ++ beBytes 1 c.stranded

/-! ### The requests of the map -/

/-- A range entry as results: enabled, first, last, area (02 R34, R36). -/
def RangeEntry.bytes (e : RangeEntry) : List Byte :=
  [flagByte e.enabled] ++ beBytes 2 e.first ++ beBytes 2 e.last ++ beBytes 1 e.area

/-- The location map with entry `i` overwritten. -/
def State.setRange (s : State) (i : Nat) (e : RangeEntry) : State :=
  { s with map := { s.map with ranges := s.map.ranges.set i e } }

/-- SET RANGE (02 R35, R36). -/
def handleSetRange (entry enabled : Byte) (first last : BitVec 16) (area : Byte) (s : State) :
    Answer :=
  if entry.toNat > 31 then refuse .outOfRange s
  else if enabled.toNat > 1 then refuse .outOfRange s
  else if area.toNat > 15 then refuse .outOfRange s
  else if first.toNat > last.toNat then refuse .rangeInverted s
  else
    let e : RangeEntry := ⟨enabled.toNat = 1, first.toNat, last.toNat, area.toNat⟩
    if s.map.ranges[entry.toNat]? = some e then
      (s, some (Reply.ok (e.bytes ++ (PassCounts.mk 0 0 0).bytes)))
    else
      let r := (s.setRange entry.toNat e).rederivePass
      (r.1, some (Reply.ok (e.bytes ++ r.2.bytes)))

/-- READ RANGE (02 R37). -/
def handleReadRange (entry : Byte) (s : State) : Answer :=
  match s.map.ranges[entry.toNat]? with
  | none => refuse .outOfRange s
  | some e => (s, some (Reply.ok (e.bytes ++ split2 s.map.defaultAreas)))

/-- SET DEFAULT AREAS (02 R38). -/
def handleSetDefaultAreas (areas : BitVec 16) (s : State) : Answer :=
  if s.map.defaultAreas = areas then
    (s, some (Reply.ok (split2 areas ++ (PassCounts.mk 0 0 0).bytes)))
  else
    let r := { s with map := { s.map with defaultAreas := areas } }.rederivePass
    (r.1, some (Reply.ok (split2 areas ++ r.2.bytes)))

/-! ### Re-evaluation after SET PROGRAMME -/

/-- One LIVE notice against one stream (02 R46). -/
def reevaluateSlot (n : Ch) (i : Nat) (s : State) : State :=
  match s.notice i with
  | some nt => if nt.isLive then s.reconcile i n else s
  | none => s

/-- The stream re-evaluated against every LIVE notice (02 R46). -/
def State.reevaluate (s : State) (n : Ch) : State := forSlots (reevaluateSlot n) s

/-- How many fresh records the re-evaluation makes on the stream (05 R102). -/
def State.freshCount (s : State) (n : Ch) : Nat :=
  s.countNotices fun nt => s.carries n nt && !nt.airsOn n

/-- How many records the re-evaluation puts into WITHDRAWAL mode (05 R102). -/
def State.droppedCount (s : State) (n : Ch) : Nat :=
  s.countNotices fun nt => nt.isLive && nt.airsOn n && !s.carries n nt

end Sys2Proof.Machine
end

