-- ==== Sys2Proof/Machine/Notices.lean ====
section
/-! DEFINITION. The notice table: its tests at second boundaries and limits (01 R6 to R11, R31), SUBMIT
with its checks, updates, displacement and holds (01 R14 to R22, R29), and the requests that
withdraw, purge, read and list notices (01 R23 to R28, 03 R70). -/

namespace Sys2Proof.Machine

/-! ### Tests on site seconds (01 R6, R7, R8) -/

/-- A PENDING notice whose start has been reached, or whose end has (01 R6). -/
def Notice.startReached (nt : Notice) (now : Nat) : Bool :=
  nt.state = .pending &&
    (nt.endsAt ≤ now ||
      match nt.startsAt with
      | some b => b ≤ now
      | none => true)

/-- A LIVE notice whose end has been reached (01 R7). -/
def Notice.endReached (nt : Notice) (now : Nat) : Bool := nt.isLive && nt.endsAt ≤ now

/-- The PENDING notice in slot `i` becomes FREE if its end has been reached, and LIVE with fresh
records otherwise (01 R6). -/
def State.startNotice (s : State) (i : Nat) : State :=
  match s.notice i with
  | none => s
  | some nt =>
    if nt.endsAt ≤ s.time.seconds then s.setSlot i none
    else
      let nt' := { nt with state := .live }
      s.setSlot i (some { nt' with records := s.freshRecords nt' })

/-- The test of slot `i` against the site seconds (01 R6, R7). -/
def testNotice (i : Nat) (s : State) : State :=
  match s.notice i with
  | none => s
  | some nt =>
    if nt.startReached s.time.seconds then s.startNotice i
    else if nt.endReached s.time.seconds then s.beginWithdrawal i
    else s

/-- The notice table takes a time change as a second boundary (01 R8). -/
def State.testNotices (s : State) : State := forSlots testNotice s

/-! ### Limits on the tick count -/

/-- The withdraw limit of the notice in slot `i` has been reached (01 R11). -/
def State.withdrawLimitReached (s : State) (i : Nat) : Bool :=
  match s.notice i with
  | some nt =>
    match nt.withdrawStart with
    | some w => w + Config.withdrawLimit ≤ s.now
    | none => false
  | none => false

/-- The withdraw limit tested: the records are discarded and the notice is FREE (01 R11). -/
def testWithdrawLimit (i : Nat) (s : State) : State :=
  if s.withdrawLimitReached i then (s.cutRuns i).setSlot i none else s

/-- The limit tick of the submit held on `p` has been reached (01 R31). -/
def State.confirmLimitReached (s : State) (p : Port) : Bool :=
  match (s.port p).held with
  | some h => h.limit ≤ s.now
  | none => false

/-- The confirm limit tested: the held submit is answered CONFIRM_LATE (01 R31). -/
def testConfirmLimit (p : Port) (s : State) : State :=
  if s.confirmLimitReached p then s.finishHeld p .confirmLate else s

/-! ### SUBMIT: checks -/

/-- The range checks of a SUBMIT body fail (01 R14). -/
def submitOutOfRange (a : SubmitArgs) : Bool :=
  a.spare ≠ 0#3 || a.number = 0#16 || 15 < a.version.toNat || 3 < a.urgency.toNat ||
    a.event = 0#16 || 4095 < a.event.toNat || 7 < a.extent.toNat || 1 < a.direction.toNat ||
    a.areas = some 0#16 ||
    (match a.advice with
     | some (c, _) => c = 0#16 || 4095 < c.toNat
     | none => false) ||
    2 < a.confirm.toNat

/-- The end of a notice that gives none, from the default lifetime (01 R16). -/
def computedEnd (now lifetime : Nat) (startsAt : Option Nat) : Nat :=
  min Config.maxSeconds
    ((match startsAt with
      | some b => max b now
      | none => now) + lifetime)

/-- The end is not later than the start (01 R16). -/
def endsBeforeStart (startsAt : Option Nat) (endsAt : Nat) : Bool :=
  match startsAt with
  | some b => endsAt ≤ b
  | none => false

/-- The end of a SUBMIT's notice, or none when the SUBMIT is STALE (01 R16). -/
def resolveEnd (now lifetime : Nat) (startsAt endsAt : Option Nat) : Option Nat :=
  match endsAt with
  | some e => if e ≤ now || endsBeforeStart startsAt e then none else some e
  | none =>
    let e := computedEnd now lifetime startsAt
    if endsBeforeStart startsAt e then none else some e

/-- The area set of a SUBMIT and its origin, or none when it is UNPLACED (01 R17, 02 R40). -/
def resolveAreas (m : LocationMap) (a : SubmitArgs) : Option (AreaSet × Origin) :=
  match a.areas with
  | some set => some (set, .explicit)
  | none =>
    let set := m.derive a.location.toNat
    if set = 0#16 then none else some (set, .derived)

/-- The state the start rule gives (01 R18, R20). -/
def startState (now : Nat) (startsAt : Option Nat) : NoticeState :=
  match startsAt with
  | some b => if now < b then .pending else .live
  | none => .live

/-- The notice a SUBMIT describes, once its end and areas are fixed, without airing records
(01 R2, R18, R20). -/
def submitNotice (a : SubmitArgs) (owner : Port) (now endsAt : Nat) (areas : AreaSet)
    (origin : Origin) (urgency : Urgency) : Notice :=
  let startsAt := a.startsAt.map BitVec.toNat
  { number := a.number.toNat
    version := a.version.toNat
    urgency := urgency
    event := a.event.toNat
    location := a.location.toNat
    extent := a.extent.toNat
    direction := a.direction.toNat
    areas := areas
    origin := origin
    stranded := false
    startsAt := startsAt
    endsAt := endsAt
    advice := a.advice.map fun x => (x.1.toNat, x.2.toNat)
    text := a.text.map fun t => (adjustText t).1
    owner := owner
    acceptedAt := now
    state := startState now startsAt
    records := Four.all none }

/-- The adjustment flags of a SUBMIT's text (01 R14). -/
def submitFlags (a : SubmitArgs) : RFlags :=
  match a.text with
  | some t => { RFlags.none with truncated := (adjustText t).2.1, replaced := (adjustText t).2.2 }
  | none => RFlags.none

/-! ### SUBMIT: placing the notice -/

/-- One stream's record after an update that leaves the notice LIVE (01 R19). -/
def updatedRecord (s : State) (nt : Notice) (n : Ch) (old : Option Record) : Option Record :=
  if s.carries n nt then some (Record.fresh s.now)
  else old.map (Record.withdraw s.table.withdrawCells s.now)

/-- The notice in slot `i` updated: content replaced, held submits superseded, runs cut, records
re-evaluated (01 R18, R19). `nt` is the new content with the old owner. -/
def State.updateNotice (s : State) (i : Nat) (old nt : Notice) : State :=
  ((s.supersede i).cutRuns i).setSlot i (some { nt with
    records :=
      if nt.isLive then Four.tab fun n => updatedRecord s nt n (old.record n) else Four.all none })

/-- A new notice put in slot `i` (01 R20). -/
def State.placeNotice (s : State) (i : Nat) (nt : Notice) : State :=
  s.setSlot i (some { nt with records := s.freshRecords nt })

/-- A notice that a new one of class `u` may displace (01 R21). -/
def displaceable (u : Urgency) (nt : Notice) : Bool :=
  nt.withdrawStart.isNone && u.rank < nt.urgency.rank

/-- The notices a new one of class `u` may displace, in slot order. -/
def State.candidates (s : State) (u : Urgency) : List (Nat × Notice) :=
  slotNumbers.filterMap fun i =>
    match s.notice i with
    | some nt => if displaceable u nt then some (i, nt) else none
    | none => none

/-- The order of victims: least urgent class, then earliest end; the lower slot among equals
(01 R21). -/
def victimBefore (x y : Nat × Notice) : Bool :=
  y.2.urgency.rank < x.2.urgency.rank ||
    (x.2.urgency.rank == y.2.urgency.rank && x.2.endsAt < y.2.endsAt)

/-- The notice that a new one of class `u` displaces (01 R21). -/
def State.victim (s : State) (u : Urgency) : Option (Nat × Notice) :=
  leastBy victimBefore (s.candidates u)

/-- The results of SUBMIT for the notice in slot `i`: slot, state, run length, carried set,
displaced number (01 R22, 09 section 9.9). -/
def submitResults (i : Nat) (nt : Notice) (displaced : Nat) : List Byte :=
  beBytes 1 i ++ beBytes 1 nt.state.code ++ beBytes 1 nt.runLength ++ [fourByte nt.carriedSet] ++
    beBytes 2 displaced

/-- The streams a held submit waits for: RUNNING or PAUSED with an AIRING record (01 R29). -/
def State.targetSet (s : State) (nt : Notice) : FourSet :=
  chSet fun n =>
    nt.airsOn n && ((s.stream n).state = .running || (s.stream n).state = .paused)

/-- The heard stream of a submit held at confirm level HEARD (01 R29). -/
def State.heardStream (s : State) (confirm : Nat) (target : FourSet) : Option Ch :=
  if confirm = 2 ∧ s.monitor.state ≠ .off ∧ chMem target s.monitor.watched then
    some s.monitor.watched
  else none

/-- The end of an accepted SUBMIT: its response, or the hold of its port (01 R22, R29, 09 R188). -/
def State.acceptSubmit (s : State) (p : Port) (i : Nat) (st : Status) (flags : RFlags)
    (displaced confirm : Nat) : Answer :=
  match s.notice i with
  | none => (s, none)
  | some nt =>
    let target := s.targetSet nt
    let results := submitResults i nt displaced
    if confirm = 0 ∨ target = 0#4 then
      (s, some ⟨st, { flags with uncarried := target = 0#4 }, results, none⟩)
    else
      (s.setPort p { s.port p with
        held := some
          { number := nt.number
            slot := i
            remaining := target
            satisfied := 0#4
            heardStream := s.heardStream confirm target
            limit := s.now + s.table.confirmSecs * Config.ticksPerSecond
            results := results
            flags := flags } }, none)

/-- A SUBMIT of a number that stands in slot `i` (01 R15 to R19). -/
def submitExisting (p : Port) (a : SubmitArgs) (u : Urgency) (i : Nat) (old : Notice) (s : State) :
    Answer :=
  if p = .traffic ∧ old.owner = .site then refuse .notOwner s
  else if old.version = a.version.toNat then
    (s, some (Reply.unchanged (submitResults i old 0)))
  else
    match resolveEnd s.time.seconds s.table.lifetime (a.startsAt.map BitVec.toNat)
        (a.endsAt.map BitVec.toNat) with
    | none => refuse .stale s
    | some e =>
      match resolveAreas s.map a with
      | none => refuse .unplaced s
      | some (set, origin) =>
        (s.updateNotice i old (submitNotice a old.owner s.time.seconds e set origin u)).acceptSubmit
          p i .ok (submitFlags a) 0 a.confirm.toNat

/-- A SUBMIT of a number in no occupied slot (01 R16, R17, R20, R21). -/
def submitNew (p : Port) (a : SubmitArgs) (u : Urgency) (s : State) : Answer :=
  match resolveEnd s.time.seconds s.table.lifetime (a.startsAt.map BitVec.toNat)
      (a.endsAt.map BitVec.toNat) with
  | none => refuse .stale s
  | some e =>
    match resolveAreas s.map a with
    | none => refuse .unplaced s
    | some (set, origin) =>
      let nt := submitNotice a p s.time.seconds e set origin u
      match s.freeSlot? with
      | some i =>
        (s.placeNotice i nt).acceptSubmit p i .ok (submitFlags a) 0 a.confirm.toNat
      | none =>
        match s.victim u with
        | none => refuse .full s
        | some (i, v) =>
          (((s.freeAtOnce i).placeNotice i nt).raise (.displaced v.number)).acceptSubmit p i
            .displaced (submitFlags a) v.number a.confirm.toNat

/-- SUBMIT, after the length test of the dispatcher (01 R14 to R22). -/
def handleSubmit (p : Port) (a : SubmitArgs) (s : State) : Answer :=
  if submitOutOfRange a then refuse .outOfRange s
  else
    match urgencyOf? a.urgency.toNat with
    | none => refuse .outOfRange s
    | some u =>
      match s.findSlot a.number.toNat with
      | none => submitNew p a u s
      | some i =>
        match s.notice i with
        | some old => submitExisting p a u i old s
        | none => submitNew p a u s

/-! ### Withdrawing, purging, reading -/

/-- WITHDRAW (01 R23). -/
def handleWithdraw (p : Port) (number : BitVec 16) (s : State) : Answer :=
  if number = 0#16 then refuse .outOfRange s
  else
    match s.findSlot number.toNat with
    | none => refuse .notFound s
    | some i =>
      match s.notice i with
      | none => refuse .notFound s
      | some nt =>
        if p = .traffic ∧ nt.owner = .site then refuse .notOwner s
        else
          match nt.state with
          | .withdrawing _ => refuse .alreadyWithdrawing s
          | .pending =>
            let t := (s.supersede i).setSlot i none
            (t, some (Reply.ok (beBytes 1 (slotCode (t.notice i)))))
          | .live =>
            let t := s.beginWithdrawal i
            (t, some (Reply.ok (beBytes 1 (slotCode (t.notice i)))))

/-- The notice is one a WITHDRAW ALL of port `p` acts on (01 R24). -/
def withinOwnership (p : Port) (nt : Notice) : Bool := p = .site || nt.owner = .traffic

/-- WITHDRAW ALL at one slot (01 R24). -/
def withdrawAllSlot (p : Port) (i : Nat) (s : State) : State :=
  match s.notice i with
  | none => s
  | some nt =>
    if withinOwnership p nt then
      match nt.state with
      | .pending => (s.supersede i).setSlot i none
      | .live => s.beginWithdrawal i
      | .withdrawing _ => s
    else s

/-- WITHDRAW ALL (01 R24). -/
def handleWithdrawAll (p : Port) (s : State) : Answer :=
  (forSlots (withdrawAllSlot p) s,
   some (Reply.ok
    (beBytes 1 (s.countNotices fun nt => withinOwnership p nt && nt.state = .pending) ++
     beBytes 1 (s.countNotices fun nt => withinOwnership p nt && nt.isLive))))

/-- PURGE (01 R25). -/
def handlePurge (number : BitVec 16) (s : State) : Answer :=
  if number = 0#16 then refuse .outOfRange s
  else
    match s.findSlot number.toNat with
    | none => refuse .notFound s
    | some i => (s.freeAtOnce i, some (Reply.ok (beBytes 1 (slotCode (s.notice i)))))

/-- The mode code of a record (09 section 9.9). -/
def Mode.code : Mode → Nat
  | .airing => 0
  | .withdrawal _ => 1

/-- The withdraw cells left, 0 in AIRING mode. -/
def Mode.left : Mode → Nat
  | .airing => 0
  | .withdrawal k => k

/-- A stream entry of QUERY NOTICE (09 section 9.9). -/
def streamEntry (s : State) (i : Nat) (n : Ch) (r : Option Record) : List Byte :=
  match r with
  | none => List.replicate 20 0#8
  | some r =>
    [1#8] ++ beBytes 1 r.mode.code ++ beBytes 6 r.due ++ beBytes 2 r.airings ++ beBytes 2 r.heard ++
      beBytes 6 (r.lastRunStart.getD 0) ++ beBytes 1 r.mode.left ++ [flagByte (s.inRun n i)]

/-- The presence byte of QUERY NOTICE: start, advice and text at the bits of SUBMIT's
(09 section 9.9). DEDUCED, log entry 12. -/
def Notice.presence (nt : Notice) : Byte :=
  0#3 ++ BitVec.ofBool nt.text.isSome ++ BitVec.ofBool nt.advice.isSome ++ 0#1 ++
    BitVec.ofBool nt.startsAt.isSome ++ 0#1

/-- Origin codes (09 section 9.9). -/
def Origin.code : Origin → Nat
  | .explicit => 0
  | .derived => 1

/-- The results of QUERY NOTICE (01 R26, 09 section 9.9). The one byte of extent and direction has extent
in its high four bits and direction in its low four, as in the body of SUBMIT; the results' table does
not say which is where. DEDUCED, log entry 12. -/
def queryResults (s : State) (i : Nat) (nt : Notice) : List Byte :=
  beBytes 1 i ++ beBytes 2 nt.number ++ beBytes 1 nt.version ++ beBytes 1 nt.urgency.rank ++
    beBytes 2 nt.event ++ beBytes 2 nt.location ++ beBytes 1 (nt.extent * 16 + nt.direction) ++
    [nt.presence] ++ split2 nt.areas ++ beBytes 1 nt.origin.code ++ [flagByte nt.stranded] ++
    beBytes 4 (nt.startsAt.getD 0) ++ beBytes 4 nt.endsAt ++ beBytes 2 (nt.advice.getD (0, 0)).1 ++
    beBytes 1 (nt.advice.getD (0, 0)).2 ++ beBytes 1 (portNum nt.owner) ++ beBytes 4 nt.acceptedAt ++
    beBytes 1 nt.state.code ++ beBytes 6 (nt.withdrawStart.getD 0) ++ beBytes 1 nt.runLength ++
    nameBytes nt.text ++
    channels.flatMap fun n => streamEntry s i n (nt.record n)

/-- QUERY NOTICE (01 R26). -/
def handleQueryNotice (number : BitVec 16) (s : State) : Answer :=
  if number = 0#16 then refuse .outOfRange s
  else
    match s.findSlot number.toNat with
    | none => refuse .notFound s
    | some i =>
      match s.notice i with
      | none => refuse .notFound s
      | some nt => (s, some (Reply.ok (queryResults s i nt)))

/-- The occupied slots at or above `start`, in ascending order (01 R27). -/
def State.occupiedFrom (s : State) (start : Nat) : List (Nat × Notice) :=
  slotNumbers.filterMap fun i =>
    if i < start then none else (s.notice i).map fun nt => (i, nt)

/-- An entry of LIST NOTICES (09 section 9.9). -/
def listEntry (x : Nat × Notice) : List Byte :=
  beBytes 1 x.1 ++ beBytes 2 x.2.number ++ beBytes 1 x.2.state.code ++ beBytes 1 x.2.urgency.rank ++
    beBytes 1 x.2.version

/-- The next index of a listing (01 R27). -/
def nextIndex (found : List (Nat × Notice)) : Nat :=
  if found.length > 24 then
    match (found.take 24).getLast? with
    | some x => x.1 + 1
    | none => Config.slots
  else Config.slots

/-- LIST NOTICES (01 R27). -/
def handleListNotices (start : Byte) (s : State) : Answer :=
  if start.toNat > 95 then refuse .outOfRange s
  else
    let found := s.occupiedFrom start.toNat
    (s, some (Reply.ok
      (beBytes 1 (s.countNotices fun _ => true) ++ beBytes 1 (min 24 found.length) ++
        beBytes 1 (nextIndex found) ++ (found.take 24).flatMap listEntry)))

/-! ### Parameters of the table -/

/-- The base and settle count of a class as results (03 R70). -/
def ClassParams.bytes (c : ClassParams) : List Byte := beBytes 2 c.base ++ beBytes 1 c.settle

/-- SET CLASS (03 R70). -/
def handleSetClass (cls : Byte) (base : BitVec 16) (settle : Byte) (s : State) : Answer :=
  match urgencyOf? cls.toNat with
  | none => refuse .outOfRange s
  | some u =>
    let c : ClassParams := ⟨clamp 2 3600 base.toNat, clamp 0 15 settle.toNat⟩
    let t := s.setTable { s.table with classes := s.table.classes.set u.ix c }
    (t, some (Reply.adjusted (c.base ≠ base.toNat || c.settle ≠ settle.toNat)
      (t.table.classes.toList.flatMap ClassParams.bytes)))

/-- SET NOTICE LIMITS (01 R28). -/
def handleSetNoticeLimits (w : Byte) (lifetime : BitVec 32) (confirm : BitVec 16) (s : State) :
    Answer :=
  let w' := clamp 1 8 w.toNat
  let l' := clamp 60 86400 lifetime.toNat
  let c' := clamp 5 300 confirm.toNat
  (s.setTable { s.table with withdrawCells := w', lifetime := l', confirmSecs := c' },
   some (Reply.adjusted (w' ≠ w.toNat || l' ≠ lifetime.toNat || c' ≠ confirm.toNat)
    (beBytes 1 w' ++ beBytes 4 l' ++ beBytes 2 c')))

end Sys2Proof.Machine
end

