-- ==== Sys2Proof/Machine/Announcements.lean ====
section
/-! DEFINITION. Announcement control: the cue level (06 R119 to R121), the announcement states (06 R122
to R130), the flag and the closing counters (06 R131 to R135), and its requests (06 R136 to R140). -/

namespace Sys2Proof.Machine

/-! ### The flag and the closing counters -/

/-- The closing counter of every programme that refers to `y` set to `k` (06 R133). -/
def State.setClosing (s : State) (y : Ch) (k : Nat) : State :=
  forChannels (fun x t =>
    if (t.prog x).target = some y then t.setAnn x { t.ann x with closing := k } else t) s

/-- Programme `p` given a new announcement record, and a rise or fall of its flag taken by the
referral rules (06 R131, R133). -/
def State.putAnn (s : State) (p : Ch) (a : Announce) : State :=
  let t := s.setAnn p a
  if a.flag && !(s.ann p).flag then t.setClosing p 0
  else if (s.ann p).flag && !a.flag then t.setClosing p 3
  else t

/-! ### The states -/

/-- The bulletin start recorded at an entry to ON_AIR (06 R123). -/
def State.bulletinNow (s : State) : Bulletin := ⟨s.time.seconds, s.time.tickNumber, s.time.tickCount⟩

/-- The record after an entry to ON_AIR from QUIET or LEADING (06 R123). -/
def Announce.enterOnAir (a : Announce) (b : Bulletin) : Announce :=
  { a with
    state := .onAir
    leadCtr := 0
    bulletin := some b
    bulletins := satAdd Config.maxCount a.bulletins 1 }

/-- The record after a rise of the cue level (06 R122, R125). -/
def Announce.rise (a : Announce) (b : Bulletin) : Announce :=
  match a.state with
  | .quiet =>
    if a.lead = 0 then a.enterOnAir b else { a with state := .leading, leadCtr := a.lead }
  | .hanging => { a with state := .onAir, hangCtr := 0 }
  | .leading | .onAir | .barred => a

/-- The record after a fall of the cue level (06 R123, R124, R127). -/
def Announce.fall (a : Announce) : Announce :=
  match a.state with
  | .leading => { a with state := .quiet, leadCtr := 0 }
  | .onAir =>
    if a.hangover = 0 then { a with state := .quiet }
    else { a with state := .hanging, hangCtr := a.hangover }
  | .barred => { a with state := .quiet }
  | .quiet | .hanging => a

/-- The cue level as its terms now stand (06 R120). -/
def Announce.cueTerm (a : Announce) (carries : Bool) : Bool :=
  carries &&
    match a.source with
    | .line => a.lineLevel
    | .link => a.linkCue
    | .either => a.lineLevel || a.linkCue

/-- The record after its cue level has been recomputed, a rise or fall acted on (06 R120). -/
def Announce.recompute (a : Announce) (carries : Bool) (b : Bulletin) : Announce :=
  let level := a.cueTerm carries
  if level = a.cueLevel then a
  else if level then Announce.rise { a with cueLevel := true } b
  else Announce.fall { a with cueLevel := false }

/-- The maximum-duration limit has been reached (06 R126). -/
def Announce.limitReached (a : Announce) (now : Nat) : Bool :=
  a.flag &&
    match a.bulletin with
    | some b => a.maxSecs * Config.ticksPerSecond ≤ now - b.count
    | none => false

/-- The record after the maximum-duration limit (06 R126). -/
def Announce.overrun (a : Announce) : Announce :=
  { a with
    state := if a.state = .onAir then .barred else .quiet
    hangCtr := 0
    overruns := satAdd Config.maxCount a.overruns 1 }

/-- The maximum-duration limit acted on for programme `p` (06 R126). -/
def State.overrunAt (s : State) (p : Ch) : State :=
  (s.putAnn p (s.ann p).overrun).raise (.overrun p)

/-! ### A tick boundary (06 R129) -/

/-- The cue line of a programme as found, active low (06 R119). -/
def State.cueFound (s : State) (p : Ch) : Bool := !s.cuePins.getLsbD p.val

/-- Step 1 on the record: the line sampled, and an accepted level taken into the cue level
(06 R119, R120). -/
def Announce.sampleLine (a : Announce) (found carries : Bool) (b : Bulletin) : Announce :=
  if found = a.lineSample ∧ found ≠ a.lineLevel then
    Announce.recompute { a with lineLevel := found, lineSample := found } carries b
  else { a with lineSample := found }

/-- Step 2 on the record: the lead or hangover counter counted down, and a counter that reaches 0
acted on (06 R123, R125). -/
def Announce.countDown (a : Announce) (b : Bulletin) : Announce :=
  match a.state with
  | .leading =>
    if a.leadCtr ≤ 1 then a.enterOnAir b else { a with leadCtr := a.leadCtr - 1 }
  | .hanging =>
    if a.hangCtr ≤ 1 then { a with state := .quiet, hangCtr := 0 }
    else { a with hangCtr := a.hangCtr - 1 }
  | .quiet | .onAir | .barred => a

/-- The record after steps 1 and 2; a counter that step 1 set is not counted down at the same
boundary (06 R129). -/
def Announce.boundary (a : Announce) (found carries : Bool) (b : Bulletin) : Announce :=
  let a1 := a.sampleLine found carries b
  if a1.state = a.state then a1.countDown b else a1

/-- Announcement control's work for programme `p` at a tick boundary (06 R129). -/
def announceWork (p : Ch) (s : State) : State :=
  let t := s.putAnn p
    ((s.ann p).boundary (s.cueFound p) (s.prog p).carries s.bulletinNow)
  if (t.ann p).limitReached t.now then t.overrunAt p else t

/-! ### Carries-traffic and referral target (06 R121, R128, R135) -/

/-- The record forced to QUIET by the clearing of carries-traffic (06 R128). -/
def Announce.forceQuiet (a : Announce) : Announce :=
  { a with state := .quiet, leadCtr := 0, hangCtr := 0, linkCue := false, cueLevel := false }

/-- What announcement control does at a change of programme `p`'s carries-traffic flag
(06 R121, R128). -/
def State.carriesChanged (s : State) (p : Ch) (carries : Bool) : State :=
  if carries then s.setAnn p { s.ann p with cueLevel := (s.ann p).cueTerm true }
  else s.putAnn p (s.ann p).forceQuiet

/-! ### Requests -/

/-- The results of SET CUE (06 R136). -/
def Announce.cueBytes (a : Announce) : List Byte :=
  beBytes 1 a.source.code ++ beBytes 1 a.lead ++ beBytes 1 a.hangover ++ beBytes 2 a.maxSecs

/-- The values of a SET CUE written into a record (06 R136). -/
def Announce.withCue (a : Announce) (source : CueSource) (lead hangover maxSecs : Nat) : Announce :=
  { a with source := source, lead := lead, hangover := hangover, maxSecs := maxSecs }

/-- SET CUE taken by the record of `p`: the values written, a change of source recomputing the cue
level, then a changed maximum tested (06 R137). -/
def State.applyCue (s : State) (p : Ch) (source : CueSource) (lead hangover maxSecs : Nat) : State :=
  let old := s.ann p
  let a := old.withCue source lead hangover maxSecs
  let t := s.putAnn p
    (if old.source = source then a else a.recompute (s.prog p).carries s.bulletinNow)
  if old.maxSecs ≠ maxSecs ∧ (t.ann p).limitReached t.now then t.overrunAt p else t

/-- SET CUE (06 R136, R137). -/
def handleSetCue (prog source lead hangover : Byte) (maxSecs : BitVec 16) (s : State) : Answer :=
  match chOf? prog, cueSourceOf? source.toNat with
  | some p, some src =>
    let l := clamp 0 40 lead.toNat
    let h := clamp 0 200 hangover.toNat
    let m := clamp 10 1800 maxSecs.toNat
    let t := s.applyCue p src l h m
    (t, some (Reply.adjusted (l ≠ lead.toNat || h ≠ hangover.toNat || m ≠ maxSecs.toNat)
      ((t.ann p).cueBytes ++ beBytes 1 (t.ann p).state.code ++ [flagByte (t.ann p).cueLevel])))
  | _, _ => refuse .outOfRange s

/-- The results of CUE ON and CUE OFF (06 R138, R139). -/
def Announce.levelBytes (a : Announce) : List Byte :=
  [flagByte a.linkCue, flagByte a.cueLevel] ++ beBytes 1 a.state.code

/-- The link cue of programme `p` set or cleared and its cue level recomputed (06 R138, R139). -/
def State.applyLinkCue (s : State) (p : Ch) (on : Bool) : State :=
  s.putAnn p
    (Announce.recompute { s.ann p with linkCue := on } (s.prog p).carries s.bulletinNow)

/-- CUE ON and CUE OFF (06 R138, R139). -/
def handleLinkCue (prog : Byte) (on : Bool) (s : State) : Answer :=
  match chOf? prog with
  | none => refuse .outOfRange s
  | some p =>
    if (s.prog p).carries then
      if (s.ann p).linkCue = on then (s, some (Reply.unchanged (s.ann p).levelBytes))
      else
        let t := s.applyLinkCue p on
        (t, some (Reply.ok (t.ann p).levelBytes))
    else refuse .notTraffic s

/-- The elapsed ticks of READ ANNOUNCEMENT (06 R140). -/
def Announce.elapsed (a : Announce) (now : Nat) : Nat :=
  match a.state, a.bulletin with
  | .onAir, some b | .hanging, some b | .barred, some b => min Config.maxCount (now - b.count)
  | _, _ => 0

/-- A bulletin start as results (06 R140, 09 R197). -/
def Bulletin.bytes (b : Bulletin) : List Byte :=
  beBytes 4 b.seconds ++ beBytes 1 b.tick ++ beBytes 6 b.count

/-- The announcement flag of a referral target, clear when there is none (06 R140). -/
def State.targetFlag (s : State) (x : Ch) : Bool :=
  match (s.prog x).target with
  | some y => (s.ann y).flag
  | none => false

/-- READ ANNOUNCEMENT (06 R140). -/
def handleReadAnnouncement (prog : Byte) (s : State) : Answer :=
  match chOf? prog with
  | none => refuse .outOfRange s
  | some p =>
    let a := s.ann p
    (s, some (Reply.ok
      (beBytes 1 a.state.code ++ [flagByte a.flag] ++ a.cueBytes ++
        [flagByte a.lineSample, flagByte a.lineLevel, flagByte a.linkCue, flagByte a.cueLevel] ++
        [flagByte (s.prog p).carries] ++ beBytes 1 a.leadCtr ++ beBytes 1 a.hangCtr ++
        optBytes 11 (a.bulletin.map Bulletin.bytes) ++ beBytes 2 (a.elapsed s.now) ++
        beBytes 2 a.bulletins ++ beBytes 2 a.overruns ++ [targetByte (s.prog p).target] ++
        [flagByte (s.referralActive p)] ++ beBytes 1 a.closing ++ [flagByte (s.targetFlag p)] ++
        beBytes 6 s.now)))

end Sys2Proof.Machine
end

