-- ==== Sys2Proof/Machine/Programmes.lean ====
section
/-! DEFINITION. The programme store: SET PROGRAMME (05 R101, R102), name variants (05 R103 to R109),
timed name changes (05 R110 to R116) and READ PROGRAMME (05 R117). -/

namespace Sys2Proof.Machine

/-! ### SET PROGRAMME -/

/-- The referral target a byte names: a programme, or none for 0xFF (05 R101). -/
def targetOf? (b : Byte) : Option (Option Ch) :=
  if b = 0xFF#8 then some none else (chOf? b).map some

/-- Another programme has this code (05 R101). -/
def State.codeTaken (s : State) (p : Ch) (code : BitVec 16) : Bool :=
  channels.any fun q => q ≠ p && (s.prog q).code = code

/-- The stream of `p` sends cells or is about to start (05 R101). -/
def State.streamInUse (s : State) (p : Ch) : Bool :=
  (s.stream p).state ≠ .stopped || (s.stream p).startPending

/-- An accepted SET PROGRAMME: the record written and each change handed on (05 R102). -/
def State.applyProgramme (s : State) (p : Ch) (code : BitVec 16) (coverage : AreaSet)
    (carries : Bool) (target : Option Ch) : State :=
  let old := s.prog p
  let t := s.setProg p
    { old with code := code, coverage := coverage, carries := carries, target := target }
  let t := if old.coverage = coverage ∧ old.carries = carries then t else t.reevaluate p
  let t := if old.carries = carries then t else t.carriesChanged p carries
  if old.target = target then t else t.setAnn p { t.ann p with closing := 0 }

/-- The two counts of SET PROGRAMME's response: fresh records, and records put into WITHDRAWAL mode
(05 R102). -/
def State.programmeCounts (s : State) (p : Ch) (coverage : AreaSet) (carries : Bool) : Nat × Nat :=
  let t := s.setProg p { s.prog p with coverage := coverage, carries := carries }
  if (s.prog p).coverage = coverage ∧ (s.prog p).carries = carries then (0, 0)
  else (t.freshCount p, t.droppedCount p)

/-- SET PROGRAMME (05 R101, R102). -/
def handleSetProgramme (prog : Byte) (code coverage : BitVec 16) (carries target : Byte)
    (s : State) : Answer :=
  match chOf? prog with
  | none => refuse .outOfRange s
  | some p =>
    if carries.toNat > 1 then refuse .outOfRange s
    else
      match targetOf? target with
      | none => refuse .outOfRange s
      | some y =>
        if y = some p then refuse .selfReference s
        else if code = 0#16 ∧ s.streamInUse p then refuse .inUse s
        else if code ≠ 0#16 ∧ s.codeTaken p code then refuse .inUse s
        else
          let on : Bool := carries.toNat = 1
          let counts := s.programmeCounts p coverage on
          (s.applyProgramme p code coverage on y,
           some (Reply.ok (split2 code ++ split2 coverage ++ [flagByte on, targetByte y] ++
            beBytes 1 counts.1 ++ beBytes 1 counts.2)))

/-! ### Names -/

/-- A name event: the segment counters of the programme's stream return to 0 (04 R87). -/
def State.nameEvent (s : State) (p : Ch) : State :=
  s.setStream p { s.stream p with nameCtr := 0, longCtr := 0 }

/-- Variant `v` made current, with its name event (05 R108, R113). -/
def State.makeCurrent (s : State) (p v : Ch) : State :=
  (s.setProg p { s.prog p with current := v }).nameEvent p

/-- All four variants are empty (05 R103). -/
def Programme.noNames (g : Programme) : Bool := g.variants.toList.all Option.isNone

/-- The names a SET NAME stores, after adjustment (05 R104). -/
def adjustedNames (short long : List Byte) : Names :=
  { short := padShort (adjustName 8 short).1
    long := if long = [] then none else some (adjustName 24 long).1 }

/-- The flags of a SET NAME (05 R104). -/
def nameFlags (short long : List Byte) : RFlags :=
  { RFlags.none with
    truncated := (adjustName 8 short).2.1 || (adjustName 24 long).2.1
    replaced := (adjustName 8 short).2.2 || (adjustName 24 long).2.2 }

/-- A variant written (05 R106). -/
def State.writeVariant (s : State) (p v : Ch) (names : Names) : State :=
  let old := s.prog p
  let t := s.setProg p { old with variants := old.variants.set v (some names) }
  if old.noNames then t.makeCurrent p v
  else if v = old.current then t.nameEvent p
  else t

/-- The segments of an optional long name, 0 when absent (05 R106). -/
def optSegments (long : Option (List Byte)) : Nat :=
  match long with
  | some l => longSegments l
  | none => 0

/-- SET NAME with a short name (05 R106). -/
def setNameWrite (p v : Ch) (short long : List Byte) (s : State) : Answer :=
  let names := adjustedNames short long
  let t := s.writeVariant p v names
  (t, some ⟨.ok, nameFlags short long,
    nameBytes (some names.short) ++ nameBytes names.long ++ beBytes 1 (optSegments names.long) ++
      beBytes 1 (t.prog p).current.val, none⟩)

/-- SET NAME with no short name: the variant cleared (05 R107). -/
def setNameClear (p v : Ch) (s : State) : Answer :=
  let g := s.prog p
  if v = g.current then refuse .inUse s
  else if g.variants.get v = none then (s, some (Reply.unchanged []))
  else (s.setProg p { g with variants := g.variants.set v none }, some (Reply.ok []))

/-- SET NAME, after the length test of the dispatcher (05 R105 to R107). -/
def handleSetName (prog variant : Byte) (short long : List Byte) (s : State) : Answer :=
  match chOf? prog, chOf? variant with
  | some p, some v => if short = [] then setNameClear p v s else setNameWrite p v short long s
  | _, _ => refuse .outOfRange s

/-- SELECT NAME (05 R108). -/
def handleSelectName (prog variant : Byte) (s : State) : Answer :=
  match chOf? prog, chOf? variant with
  | some p, some v =>
    match (s.prog p).variants.get v with
    | none => refuse .emptyVariant s
    | some names =>
      (s.makeCurrent p v, some (Reply.ok (beBytes 1 v.val ++ nameBytes (some names.short))))
  | _, _ => refuse .outOfRange s

/-! ### Timed changes -/

/-- The entry fires: in use, its target not later than now (05 R112). -/
def TimedEntry.fires (e : TimedEntry) (now : Nat) : Bool := e.inUse && e.target ≤ now

/-- The entry after firing: a one-shot or one whose next target would be too late is cleared, a
repeating one advances past now (05 R112). -/
def TimedEntry.advance (e : TimedEntry) (now : Nat) : TimedEntry :=
  if e.period = 0 then { e with inUse := false }
  else
    let next := e.target + ((now - e.target) / e.period + 1) * e.period
    if next > Config.maxSeconds then { e with inUse := false } else { e with target := next }

/-- The entries of programme `p` that fire (05 R112). -/
def State.firing (s : State) (p : Ch) : List TimedEntry :=
  s.store.timed.filter fun e => e.prog = p && e.fires s.time.seconds

/-- The variant an entry names is empty. -/
def State.namesEmpty (s : State) (e : TimedEntry) : Bool :=
  ((s.prog e.prog).variants.get e.variant).isNone

/-- The variant set for programme `p` by the entries that fire: that of the highest-numbered one
with a non-empty variant (05 R113). -/
def State.firedVariant (s : State) (p : Ch) : Option Ch :=
  (((s.firing p).filter fun e => !s.namesEmpty e).getLast?).map fun e => e.variant

/-- The timed changes of programme `p` tested against the site seconds (05 R112, R113). -/
def timedWork (p : Ch) (s : State) : State :=
  let now := s.time.seconds
  let t := { s with store := { s.store with
    timed := s.store.timed.map fun e => if e.prog = p && e.fires now then e.advance now else e } }
  let t := if (s.firing p).any s.namesEmpty then t.raise (.timedSkipped p) else t
  match s.firedVariant p with
  | some v => t.makeCurrent p v
  | none => t

/-- The programme store takes a second boundary or a time change (05 R112, R115). -/
def State.testTimed (s : State) : State := forChannels timedWork s

/-- A timed-change entry as results (05 R110, R111). -/
def TimedEntry.bytes (e : TimedEntry) : List Byte :=
  [flagByte e.inUse] ++ beBytes 1 e.prog.val ++ beBytes 1 e.variant.val ++ beBytes 4 e.target ++
    beBytes 4 e.period

/-- Entry `i` overwritten. -/
def State.setTimed (s : State) (i : Nat) (e : TimedEntry) : State :=
  { s with store := { s.store with timed := s.store.timed.set i e } }

/-- SET TIMED CHANGE (05 R111). -/
def handleSetTimedChange (entry prog variant : Byte) (target period : BitVec 32) (s : State) :
    Answer :=
  if entry.toNat > 7 then refuse .outOfRange s
  else
    match chOf? prog, chOf? variant with
    | some p, some v =>
      let q := if period = 0#32 then 0 else clamp 60 604800 period.toNat
      let e : TimedEntry := ⟨true, p, v, target.toNat, q⟩
      (s.setTimed entry.toNat e, some (Reply.adjusted (q ≠ period.toNat) e.bytes))
    | _, _ => refuse .outOfRange s

/-- CLEAR TIMED CHANGE (05 R116). -/
def handleClearTimedChange (entry : Byte) (s : State) : Answer :=
  match s.store.timed[entry.toNat]? with
  | none => refuse .outOfRange s
  | some e =>
    if e.inUse then (s.setTimed entry.toNat { e with inUse := false }, some (Reply.ok []))
    else (s, some (Reply.unchanged []))

/-! ### READ PROGRAMME -/

/-- The names of a variant as results (05 R117, 09 R197). -/
def variantBytes (v : Option Names) : List Byte :=
  nameBytes (v.map fun x => x.short) ++ nameBytes (v.bind fun x => x.long)

/-- The entries in use for programme `p`: number and entry, ascending (05 R117). -/
def State.timedFor (s : State) (p : Ch) : List (Nat × TimedEntry) :=
  (s.store.timed.zipIdx.filter fun x => x.1.inUse && x.1.prog = p).map fun x => (x.2, x.1)

/-- An entry of READ PROGRAMME's list (05 R117). -/
def timedListEntry (x : Nat × TimedEntry) : List Byte :=
  beBytes 1 x.1 ++ beBytes 1 x.2.variant.val ++ beBytes 4 x.2.target ++ beBytes 4 x.2.period

/-- READ PROGRAMME (05 R117). -/
def handleReadProgramme (prog : Byte) (s : State) : Answer :=
  match chOf? prog with
  | none => refuse .outOfRange s
  | some p =>
    let g := s.prog p
    (s, some (Reply.ok
      (split2 g.code ++ split2 g.coverage ++ [flagByte g.carries, targetByte g.target] ++
        beBytes 1 g.current.val ++ g.variants.toList.flatMap variantBytes ++
        beBytes 1 (s.store.timed.filter fun e => !e.inUse).length ++
        beBytes 1 (s.timedFor p).length ++ (s.timedFor p).flatMap timedListEntry)))

end Sys2Proof.Machine
end

