-- ==== Sys2Proof/Machine/Streams.lean ====
section
/-! DEFINITION. The stream engines: slot plans (04 R84, R88, R89), stream states (04 R90 to R95), the
work of one tick boundary (04 R96) with its duty cells (04 R85 to R87), the outputs (04 R97, R98) and
READ STREAM (04 R99). -/

namespace Sys2Proof.Machine

/-! ### Slot plans -/

/-- A valid plan: twenty duties, at least one STATUS, at least one NAME, 4 to 17 OPEN (04 R84). -/
def planValid (plan : List Duty) : Bool :=
  plan.length == 20 && 1 ≤ plan.count .status && 1 ≤ plan.count .name && 4 ≤ openDuties plan &&
    openDuties plan ≤ 17

/-- A pending plan becomes the current plan (04 R89). -/
def State.takePlan (s : State) (n : Ch) : State :=
  match (s.stream n).pendingPlan with
  | some plan => s.setStream n { s.stream n with plan := plan, pendingPlan := none }
  | none => s

/-- The overcommit test (03 R73). -/
def State.testOvercommit (s : State) (n : Ch) : State :=
  let load := s.load n
  if load > 1000 then
    if (s.stream n).overcommit then s
    else (s.setStream n { s.stream n with overcommit := true }).raise (.load n)
  else if load ≤ 900 then s.setStream n { s.stream n with overcommit := false }
  else s

/-! ### States -/

/-- A stream that enters STOPPED loses its record of slot `i` (04 R94). -/
def discardRecord (n : Ch) (i : Nat) (s : State) : State :=
  match s.notice i with
  | none => s
  | some nt =>
    match nt.record n with
    | none => s
    | some _ => (s.removeRecord n i).leaveRemaining i n

/-- A STOPPING stream enters STOPPED and discards all its records (04 R94). -/
def State.enterStopped (s : State) (n : Ch) : State :=
  forSlots (discardRecord n) (s.setStream n { s.stream n with state := .stopped, run := none })

/-- A stream that starts gets a fresh record for the LIVE notice in slot `i` if its programme
carries it (04 R92). -/
def startRecord (n : Ch) (i : Nat) (s : State) : State :=
  match s.notice i with
  | none => s
  | some nt =>
    if s.wouldCarry n nt then s.setSlot i (some (nt.withRecord n (some (Record.fresh s.now)))) else s

/-- A pending start is taken (04 R92). -/
def State.takeStart (s : State) (n : Ch) : State :=
  forSlots (startRecord n)
    (s.setStream n
      { s.stream n with startPending := false, nameCtr := 0, longCtr := 0, state := .running })

/-- The modulator-ready line of stream `n` as found. -/
def State.lineFound (s : State) (n : Ch) : Bool := s.mrdyPins.getLsbD n.val

/-- The stored modulator level brought up to date, a change raising MODULATOR (04 R95). -/
def State.storeLevel (s : State) (n : Ch) : State :=
  if s.lineFound n = (s.stream n).modLevel then s
  else (s.setStream n { s.stream n with modLevel := s.lineFound n }).raise (.modulator n)

/-- The state that the level found makes of a stream (04 R95). -/
def StreamState.onLevel (st : StreamState) (ready : Bool) : StreamState :=
  match st with
  | .running => if ready then .running else .paused
  | .paused => if ready then .running else .paused
  | .stopping => .stopping
  | .stopped => .stopped

/-- The modulator-ready line sampled and acted on; a stream that enters PAUSED cuts its run
(04 R95, 03 R63). -/
def State.sampleModulator (s : State) (n : Ch) : State :=
  let t := s.storeLevel n
  let x := t.stream n
  let st := x.state.onLevel (t.lineFound n)
  t.setStream n { x with state := st, run := if st = .paused then none else x.run }

/-! ### The cell of a boundary -/

/-- The duty of the tick in progress (04 R85). -/
def State.duty (s : State) (n : Ch) : Duty := (s.stream n).plan.getD s.time.tickNumber .openSlot

/-- A STATUS duty sends a TIME cell (04 R86). -/
def State.timeCellDue (s : State) : Bool :=
  s.time.tickNumber = 0 && s.time.isSet && s.time.seconds % 60 = 0

/-- The STATUS or TIME cell of a STATUS duty (04 R79, R80, R86). -/
def State.sendStatus (s : State) (n : Ch) : State :=
  if s.timeCellDue then s.emit n .time (timePayload s.time.seconds s.time.offset)
  else
    s.emit n .status
      (statusPayload (s.prog n).carries (s.ann n).flag (s.referralActive n) s.time.isSet
        (s.prog n).current (s.prog n).coverage (s.airingRecords n).length)

/-- The current short name; empty when the current variant is, which a stream that sends cells
never has (05 R103; log entry 21). -/
def Programme.shortName (g : Programme) : List Byte :=
  match g.currentNames with
  | some x => x.short
  | none => []

/-- The current long name, if there is one. -/
def Programme.longName (g : Programme) : Option (List Byte) := g.currentNames.bind fun x => x.long

/-- The NAME cell of a NAME duty; the counter changes to the other segment (04 R81, R87). -/
def State.sendName (s : State) (n : Ch) : State :=
  let t := s.emit n .name (namePayload (s.stream n).nameCtr (s.prog n).shortName)
  t.setStream n { t.stream n with nameCtr := 1 - (s.stream n).nameCtr }

/-- The LONGNAME cell of a LONGNAME duty; the counter goes on, or returns to 0 after the last
segment (04 R81, R87). -/
def State.sendLongName (s : State) (n : Ch) (long : List Byte) : State :=
  let c := (s.stream n).longCtr
  let t := s.emit n .longName (longNamePayload c long)
  t.setStream n { t.stream n with longCtr := if c + 1 < longSegments long then c + 1 else 0 }

/-- A REFER cell reported to announcement control: one that carried the flag clear decreases the
closing counter (06 R134). -/
def State.reportRefer (s : State) (x : Ch) (flag : Bool) : State :=
  if flag then s
  else s.setAnn x { s.ann x with closing := (s.ann x).closing - 1 }

/-- The REFER cell of a REFER duty on `x`'s stream, referring to `y` (04 R82). -/
def State.sendRefer (s : State) (x y : Ch) : State :=
  (s.emit x .refer (referPayload (s.prog y).code (s.ann y).flag (s.prog y).carries)).reportRefer x
    (s.ann y).flag

/-- The cell of this boundary chosen by the duty, formed and sent (04 R85). -/
def State.sendCell (s : State) (n : Ch) : State :=
  match s.duty n with
  | .status => s.sendStatus n
  | .name => s.sendName n
  | .longName =>
    match (s.prog n).longName with
    | some long => s.sendLongName n long
    | none => s.arbitrate n
  | .refer =>
    match (s.prog n).target with
    | some y => if s.referralActive n then s.sendRefer n y else s.arbitrate n
    | none => s.arbitrate n
  | .openSlot => s.arbitrate n

/-! ### The work of one tick boundary (04 R96) -/

/-- Step 1. -/
def stopStep (n : Ch) (s : State) : State :=
  if (s.stream n).state = .stopping then s.enterStopped n else s

/-- Step 2. -/
def startStep (n : Ch) (s : State) : State :=
  if (s.stream n).startPending ∧ (s.stream n).state = .stopped then s.takeStart n else s

/-- Step 3, at tick number 0 (04 R89). -/
def planStep (n : Ch) (s : State) : State :=
  if s.time.tickNumber = 0 then (s.takePlan n).testOvercommit n else s

/-- Step 5: the cell of a RUNNING stream; any other stream's output is low (04 R98). -/
def cellStep (n : Ch) (s : State) : State :=
  if (s.stream n).state = .running then s.sendCell n
  else s.setStream n { s.stream n with cell := none }

/-- A stream engine's work at a tick boundary, in the order of 04 R96. -/
def streamWork (n : Ch) (s : State) : State :=
  cellStep n ((planStep n (startStep n (stopStep n s))).sampleModulator n)

/-! ### Outputs -/

/-- The bit period in progress, 0..95 (04 R97). -/
def State.bitIndex (s : State) : Nat := min 95 (s.time.phase / Config.bitPeriod)

/-- The data output of stream `n` (04 R98). -/
def State.dataOut (s : State) (n : Ch) : Bool :=
  if s.pornLow then false
  else
    match (s.stream n).cell with
    | some c => c.getMsbD s.bitIndex
    | none => false

/-- The bit clocks, which run together: low for the first 3,200 cycles of a bit period (04 R97). -/
def State.bitClock (s : State) : Bool :=
  !s.pornLow && Config.bitHalf ≤ s.time.phase - s.bitIndex * Config.bitPeriod

/-! ### Requests -/

/-- Ticks until the next tick number 0 (04 R88). -/
def State.ticksToSecond (s : State) : Nat := Config.ticksPerSecond - s.time.tickNumber

/-- The duties that codes name, if every code names one (04 R88). -/
def dutiesOf? (codes : List Byte) : Option (List Duty) := codes.mapM fun c => dutyOf? c.toNat

/-- SET PLAN, after the length test of the dispatcher (04 R88). -/
def handleSetPlan (stream : Byte) (codes : List Byte) (s : State) : Answer :=
  match chOf? stream with
  | none => refuse .outOfRange s
  | some n =>
    match dutiesOf? codes with
    | none => refuse .outOfRange s
    | some plan =>
      if planValid plan then
        (s.setStream n { s.stream n with pendingPlan := some plan },
         some (Reply.ok (beBytes 1 (openDuties plan) ++ beBytes 1 s.ticksToSecond)))
      else refuse .planInvalid s

/-- The results of START STREAM and STOP STREAM (04 R91, R93). -/
def Stream.stateBytes (x : Stream) : List Byte := beBytes 1 x.state.code ++ [flagByte x.startPending]

/-- START STREAM (04 R91). -/
def handleStartStream (stream : Byte) (s : State) : Answer :=
  match chOf? stream with
  | none => refuse .outOfRange s
  | some n =>
    let x := s.stream n
    let x' := { x with startPending := true }
    match x.state with
    | .running | .paused => (s, some (Reply.unchanged x.stateBytes))
    | .stopping =>
      if x.startPending then (s, some (Reply.unchanged x.stateBytes))
      else (s.setStream n x', some (Reply.ok x'.stateBytes))
    | .stopped =>
      if (s.prog n).code = 0#16 ∨ (s.prog n).currentNames = none then refuse .notReady s
      else if x.startPending then (s, some (Reply.unchanged x.stateBytes))
      else (s.setStream n x', some (Reply.ok x'.stateBytes))

/-- STOP STREAM (04 R93). -/
def handleStopStream (stream : Byte) (s : State) : Answer :=
  match chOf? stream with
  | none => refuse .outOfRange s
  | some n =>
    let x := s.stream n
    match x.state with
    | .running | .paused =>
      let x' := { x with state := .stopping, run := none }
      (s.setStream n x', some (Reply.ok x'.stateBytes))
    | .stopping | .stopped =>
      if x.startPending then
        let x' := { x with startPending := false }
        (s.setStream n x', some (Reply.ok x'.stateBytes))
      else (s, some (Reply.unchanged x.stateBytes))

/-- A slot plan as results: twenty duty codes (09 R197). -/
def planBytes (plan : List Duty) : List Byte := plan.map fun d => BitVec.ofNat 8 d.code

/-- The run in progress as results: number, slot, run length, cells sent, HEAD tick count
(04 R99). -/
def runBytes (s : State) (r : Run) : List Byte :=
  beBytes 2 r.number ++ beBytes 1 r.slot ++
    beBytes 1 (match s.notice r.slot with
      | some nt => nt.runLength
      | none => 0) ++
    beBytes 1 r.sent ++ beBytes 6 r.head

/-- READ STREAM (04 R99). -/
def handleReadStream (stream : Byte) (s : State) : Answer :=
  match chOf? stream with
  | none => refuse .outOfRange s
  | some n =>
    let x := s.stream n
    (s, some (Reply.ok
      (x.stateBytes ++ [flagByte x.modLevel] ++ planBytes x.plan ++
        optBytes 20 (x.pendingPlan.map planBytes) ++ beBytes 1 (openDuties x.plan) ++
        beBytes 2 (s.load n) ++ [flagByte x.overcommit] ++ beBytes 1 (s.backlog n) ++
        beBytes 2 (s.worstLateness n) ++ beBytes 1 (s.airingRecords n).length ++
        beBytes 1 (s.withdrawalRecords n).length ++ optBytes 11 (x.run.map (runBytes s)) ++
        beBytes 1 x.nameCtr ++ beBytes 1 x.longCtr ++ beBytes 6 s.now ++
        beBytes 1 s.time.tickNumber)))

end Sys2Proof.Machine
end

