-- ==== Sys2Proof/Machine/SiteTime.lean ====
section
/-! DEFINITION. Site time: the tick generator and trims (07 R142 to R146), the count of site seconds
(07 R147), the local offset (07 R152), the second mark and its watch (07 R153 to R156), READ TIME (07
R157). Time changes are in Machine/Boundary.lean. -/

namespace Sys2Proof.Machine

/-! ### Ticks and trims -/

/-- The temporary trim, if one is present. One whose duration has reached 0 is absent from that boundary
on, whether or not its field has been emptied yet (07 R144; log entry 30). -/
def SiteTime.trimNow (x : SiteTime) : Option (Int × Nat) :=
  match x.temporary with
  | some (trim, left + 1) => some (trim, left + 1)
  | some (_, 0) | none => none

/-- The effective trim at the next boundary (07 R144). -/
def SiteTime.effectiveTrim (x : SiteTime) : Int :=
  match x.trimNow with
  | some (trim, _) => trim
  | none => x.standing

/-- The residue after the effective trim has been added (07 R143 step 1). -/
def SiteTime.raised (x : SiteTime) : Int := x.residue + x.effectiveTrim * Config.nominalTick

/-- The shortening k of a tick, truncated toward zero (07 R143 step 2). -/
def SiteTime.shortening (x : SiteTime) : Int := Int.tdiv x.raised Config.residueUnit

/-- The length of the tick that begins computed, and the residue kept (07 R143). -/
def SiteTime.computeLength (x : SiteTime) : SiteTime :=
  { x with
    tickLength := (Config.nominalTick - x.shortening).toNat
    residue := x.raised - x.shortening * Config.residueUnit }

/-- The remaining duration of a temporary trim decreased by the tick that begins (07 R144). -/
def SiteTime.useTrim (x : SiteTime) : SiteTime :=
  match x.temporary with
  | some (trim, left) => { x with temporary := some (trim, left - 1) }
  | none => x

/-- The temporary trim has run out (07 R144). -/
def SiteTime.trimSpent (x : SiteTime) : Bool :=
  match x.temporary with
  | some (_, left) => left = 0
  | none => false

/-- The field of a temporary trim that has run out is emptied (07 R144). -/
def SiteTime.dropTrim (x : SiteTime) : SiteTime :=
  if x.trimSpent then { x with temporary := none } else x

/-- A tick boundary taken by the tick generator: tick count, tick number, phase, length, and the
duration of a temporary trim (07 R142 to R144). -/
def SiteTime.nextTick (x : SiteTime) : SiteTime :=
  SiteTime.useTrim (SiteTime.computeLength
    { x with
      tickCount := x.tickCount + 1
      tickNumber := if x.tickNumber ≥ 19 then 0 else x.tickNumber + 1
      phase := 0 })

/-- Site seconds increased at a second boundary; they stay at their largest value (07 R147). -/
def SiteTime.nextSecond (x : SiteTime) : SiteTime :=
  { x with seconds := satAdd Config.maxSeconds x.seconds 1 }

/-! ### The second mark -/

/-- A rising edge on SMARK taken by site time (07 R153, R155). -/
def SiteTime.edge (x : SiteTime) : SiteTime :=
  { x with
    capture := some ⟨x.seconds, x.tickNumber, x.tickCount, x.phase⟩
    fresh := true
    edges := satAdd 255 x.edges 1
    watch := if x.watch = .lost then .watching else x.watch
    watchCtr := 0 }

/-- A rising edge on SMARK (07 R153). -/
def State.markEdge (s : State) : State := (s.setTime s.time.edge).raise .mark

/-- The mark watch's count at a tick boundary (07 R155). -/
def watchWork (s : State) : State :=
  match s.time.watch with
  | .watching =>
    if s.time.watchCtr + 1 ≥ Config.watchLimit then
      (s.setTime { s.time with watch := .lost, watchCtr := Config.watchLimit }).raise .markLost
    else s.setTime { s.time with watchCtr := s.time.watchCtr + 1 }
  | .off | .lost => s

/-! ### Trim requests -/

/-- A temporary trim as results: trim and remaining duration (07 R145, 09 R197). -/
def trimBytes (x : Int × Nat) : List Byte := intBytes 2 x.1 ++ beBytes 2 x.2

/-- SET TRIM (07 R145). -/
def handleSetTrim (trim : BitVec 32) (s : State) : Answer :=
  let v := clampInt (-Config.maxTrim) Config.maxTrim trim.toInt
  let x := { s.time with standing := v }
  (s.setTime x, some (Reply.adjusted (v ≠ trim.toInt)
    (intBytes 2 v ++ optBytes 4 (x.trimNow.map trimBytes) ++ intBytes 2 x.effectiveTrim)))

/-- TRIM FOR (07 R146). -/
def handleTrimFor (trim duration : BitVec 32) (s : State) : Answer :=
  let v := clampInt (-Config.maxTrim) Config.maxTrim trim.toInt
  let d := clamp 1 65535 duration.toNat
  (s.setTime { s.time with temporary := some (v, d) },
   some (Reply.adjusted (v ≠ trim.toInt || d ≠ duration.toNat)
    (intBytes 2 s.time.standing ++ trimBytes (v, d) ++ beBytes 6 (s.now + 1))))

/-! ### Offset, mark, watch, reading -/

/-- SET OFFSET (07 R152). -/
def handleSetOffset (offset : Byte) (s : State) : Answer :=
  let v := offset.toInt
  if v < -24 ∨ 24 < v then refuse .outOfRange s
  else (s.setTime { s.time with offset := v }, some (Reply.ok (intBytes 1 v)))

/-- A mark capture as results (07 R153, 09 R197). -/
def Capture.bytes (c : Capture) : List Byte :=
  beBytes 4 c.seconds ++ beBytes 1 c.tick ++ beBytes 6 c.count ++ beBytes 4 c.cycles

/-- READ MARK (07 R154). -/
def handleReadMark (s : State) : Answer :=
  (s.setTime { s.time with fresh := false, edges := 0 },
   some (Reply.ok
    (optBytes 15 (s.time.capture.map Capture.bytes) ++ [flagByte s.time.fresh] ++
      beBytes 1 s.time.edges ++ beBytes 1 s.time.watch.code)))

/-- The results of SET MARK WATCH (07 R156). -/
def SiteTime.watchBytes (x : SiteTime) : List Byte := beBytes 1 x.watch.code ++ beBytes 1 x.watchCtr

/-- SET MARK WATCH (07 R156). -/
def handleSetMarkWatch (enable : Byte) (s : State) : Answer :=
  if enable.toNat > 1 then refuse .outOfRange s
  else if decide (enable.toNat = 1) = decide (s.time.watch ≠ .off) then
    (s, some (Reply.unchanged s.time.watchBytes))
  else
    let x := { s.time with
      watch := if enable.toNat = 1 then .watching else .off
      watchCtr := 0 }
    (s.setTime x, some (Reply.ok x.watchBytes))

/-- READ TIME (07 R157). -/
def handleReadTime (s : State) : Answer :=
  let x := s.time
  (s, some (Reply.ok
    (beBytes 4 x.seconds ++ [flagByte x.isSet] ++ beBytes 1 x.tickNumber ++ beBytes 6 x.tickCount ++
      beBytes 4 x.phase ++ beBytes 4 x.tickLength ++ intBytes 2 x.standing ++
      optBytes 4 (x.trimNow.map trimBytes) ++ intBytes 2 x.effectiveTrim ++
      intBytes 4 x.residue ++ intBytes 1 x.offset ++ x.watchBytes ++ [flagByte x.fresh])))

end Sys2Proof.Machine
end

