-- ==== Sys2Proof/Machine/Monitor.lean ====
section
/-! DEFINITION. The off-air monitor: the hunt and the locked framing (08 R159 to R163), the judgement of
a candidate (08 R164 to R167), what an own cell is compared with (08 R168 to R171), silence (08 R172),
tallies (08 R173) and its requests (08 R174, R175). -/

namespace Sys2Proof.Machine

/-! ### Sync and header -/

/-- Eight bits match the sync within the tolerance (08 R160). -/
def syncMatches (tolerance : Nat) (bits : List Bool) : Bool :=
  ((bits.zip (msbBits Config.sync)).filter fun x => x.1 ≠ x.2).length ≤ tolerance

/-- The outcome of decoding a header: the header as decoded and whether it was corrected, or none
for two errors (08 R164). -/
def decodeHeader (h : Byte) : Option (Byte × Bool) :=
  let b := fun i => h.getMsbD i
  let s1 := xor (xor (b 0) (b 2)) (xor (b 4) (b 6))
  let s2 := xor (xor (b 1) (b 2)) (xor (b 5) (b 6))
  let s3 := xor (xor (b 3) (b 4)) (xor (b 5) (b 6))
  let odd := xor (xor (xor (b 0) (b 1)) (xor (b 2) (b 3))) (xor (xor (b 4) (b 5)) (xor (b 6) (b 7)))
  let syndrome := 4 * s3.toNat + 2 * s2.toNat + s1.toNat
  if odd then
    if syndrome = 0 then some (h ^^^ 1#8, true) else some (h ^^^ (0x80#8 >>> (syndrome - 1)), true)
  else if syndrome = 0 then some (h, false)
  else none

/-- The kind code in a header: k3 k2 k1 k0 (08 R164). -/
def headerKind (h : Byte) : BitVec 4 :=
  BitVec.ofBool (h.getMsbD 6) ++ BitVec.ofBool (h.getMsbD 5) ++ BitVec.ofBool (h.getMsbD 4) ++
    BitVec.ofBool (h.getMsbD 2)

/-- The parts of an 88-bit candidate: header, code, payload, check (08 section 8.3). -/
def candHeader (c : List Bool) : Byte := BitVec.ofNat 8 (bitsNat (c.take 8))
def candCode (c : List Bool) : BitVec 16 := BitVec.ofNat 16 (bitsNat ((c.drop 8).take 16))
def candPayload (c : List Bool) : BitVec 48 := BitVec.ofNat 48 (bitsNat ((c.drop 24).take 48))
def candCheck (c : List Bool) : BitVec 16 := BitVec.ofNat 16 (bitsNat ((c.drop 72).take 16))

/-- What a candidate is judged to be (08 R164 to R166). `corrected` says that its header was. -/
inductive Verdict
  | headerFault
  | checkFault (corrected : Bool)
  | foreign (corrected : Bool)
  | own (corrected : Bool) (kind : BitVec 4) (payload : BitVec 48)
deriving DecidableEq, Repr

/-- The judgement of a candidate against the watched programme's code (08 R164 to R166). -/
def judge (watchedCode : BitVec 16) (c : List Bool) : Verdict :=
  match decodeHeader (candHeader c) with
  | none => .headerFault
  | some (h, corrected) =>
    let covered : BitVec 72 := h ++ candCode c ++ candPayload c
    if crcBits (msbBits covered) ≠ candCheck c then .checkFault corrected
    else if watchedCode ≠ 0#16 ∧ candCode c = watchedCode then
      .own corrected (headerKind h) (candPayload c)
    else .foreign corrected

/-- The header of the candidate was corrected (08 R164). -/
def Verdict.wasCorrected : Verdict → Bool
  | .headerFault => false
  | .checkFault c => c
  | .foreign c => c
  | .own c _ _ => c

/-- The candidate is a valid own cell. -/
def Verdict.isOwn : Verdict → Bool
  | .own _ _ _ => true
  | .headerFault | .checkFault _ | .foreign _ => false

/-! ### Tallies -/

/-- One more in a tally (08 R173). -/
def tallyUp (k : Nat) : Nat := satAdd Config.maxCount k 1

/-- The tally of the verdict itself, one of four, and the corrected-headers tally (08 section 8.3). -/
def Tallies.countVerdict (t : Tallies) (v : Verdict) : Tallies :=
  let t := if v.wasCorrected then { t with corrected := tallyUp t.corrected } else t
  match v with
  | .headerFault => { t with headerFaults := tallyUp t.headerFaults }
  | .checkFault _ => { t with checkFaults := tallyUp t.checkFaults }
  | .foreign _ => { t with foreign := tallyUp t.foreign }
  | .own _ _ _ => { t with own := tallyUp t.own }

/-- The holding tallies changed by `f`. -/
def State.tally (s : State) (f : Tallies → Tallies) : State :=
  s.setMonitor { s.monitor with holding := f s.monitor.holding }

/-! ### Comparisons of own cells -/

/-- The number and version of a HEAD payload (09 section 9.9). -/
def headNumber (v : BitVec 48) : Nat := (v.extractLsb' 32 16).toNat
def headVersion (v : BitVec 48) : Nat := (v.extractLsb' 28 4).toNat

/-- An own HEAD cell matched against the notice table (08 R168). -/
def State.hearHead (s : State) (v : BitVec 48) : State :=
  let n := s.monitor.watched
  match s.findSlot (headNumber v) with
  | none => s.tally fun t => { t with unknown := tallyUp t.unknown }
  | some i =>
    match s.notice i with
    | none => s.tally fun t => { t with unknown := tallyUp t.unknown }
    | some nt =>
      match nt.record n with
      | some r =>
        if nt.version = headVersion v ∧ r.isAiring then
          let r' := { r with heard := satAdd Config.maxCount r.heard 1 }
          ((s.tally fun t => { t with matched := tallyUp t.matched }).setSlot i
            (some (nt.withRecord n (some r')))).testHeld i n r'
        else s.tally fun t => { t with stale := tallyUp t.stale }
      | none => s.tally fun t => { t with stale := tallyUp t.stale }

/-- An own STATUS cell compared with the watched programme's announcement flag (08 R170). -/
def State.compareStatus (s : State) (v : BitVec 48) : State :=
  if v.getMsbD 1 = (s.ann s.monitor.watched).flag then s
  else s.tally fun t => { t with statusMismatch := tallyUp t.statusMismatch }

/-- The four characters of a NAME payload are those of the segment of the current short name it
names (08 R171). The segment field is one bit wide (09 section 9.9). -/
def nameMatches (names : Option Names) (v : BitVec 48) : Bool :=
  match names with
  | some x => v.extractLsb' 8 32 = chars4 x.short (4 * (v.getMsbD 0).toNat)
  | none => false

/-- An own NAME cell compared with the current short name (08 R171). -/
def State.compareName (s : State) (v : BitVec 48) : State :=
  if nameMatches (s.prog s.monitor.watched).currentNames v then s
  else s.tally fun t => { t with nameMismatch := tallyUp t.nameMismatch }

/-- An own cell acted on by its kind; the other kinds are counted and not matched (08 R166). -/
def State.actOnOwn (s : State) (kind : BitVec 4) (v : BitVec 48) : State :=
  if kind = Kind.head.code then s.hearHead v
  else if kind = Kind.status.code then s.compareStatus v
  else if kind = Kind.name.code then s.compareName v
  else s

/-! ### Lock -/

/-- The monitor ready for the next window: nothing collected, aligned (08 R161). -/
def Monitor.freshWindow (m : Monitor) : Monitor :=
  { m with window := [], aligned := true, candidate := none, missed := none }

/-- The run-up after a candidate judged in SEARCHING; LOCKED at 3 (08 R162). -/
def Monitor.runUpAfter (m : Monitor) (own : Bool) : Monitor :=
  let k := if own then (if m.aligned ∧ 0 < m.runUp then m.runUp + 1 else 1) else 0
  if k ≥ 3 then { m with state := .locked, runUp := 0, faults := 0 } else { m with runUp := k }

/-- A consecutive fault in LOCKED; the lock is lost at 6 (08 R167). -/
def State.lockFault (s : State) : State :=
  let m := s.monitor
  if m.faults + 1 ≥ 6 then
    (s.setMonitor { m with state := .searching, faults := 0, runUp := 0 }).raise .monitor
  else s.setMonitor { m with faults := m.faults + 1 }

/-- The lock's own step after a candidate (08 R162, R167). -/
def State.lockStep (s : State) (own : Bool) : State :=
  match s.monitor.state with
  | .searching => s.setMonitor (s.monitor.runUpAfter own)
  | .locked => if own then s.setMonitor { s.monitor with faults := 0 } else s.lockFault
  | .off => s

/-- The monitor's silence ended by an own cell (08 R172). -/
def Monitor.heardOwn (m : Monitor) : Monitor := { m with silence := 0, silent := false }

/-- The effects of a verdict on tallies, silence and the comparisons (08 R164 to R171). -/
def State.actOnVerdict (s : State) (v : Verdict) : State :=
  let t := s.tally fun t => t.countVerdict v
  match v with
  | .own _ kind payload => (t.setMonitor t.monitor.heardOwn).actOnOwn kind payload
  | .headerFault | .checkFault _ | .foreign _ => t

/-- A complete candidate judged (08 R161 to R167). -/
def State.judgeCandidate (s : State) (c : List Bool) : State :=
  let v := judge (s.prog s.monitor.watched).code c
  let t := (s.actOnVerdict v).lockStep v.isOwn
  t.setMonitor t.monitor.freshWindow

/-- A frame of a LOCKED monitor whose sync missed has ended (08 R163, R167). -/
def State.syncMiss (s : State) : State :=
  let t := s.lockStep false
  t.setMonitor t.monitor.freshWindow

/-- The candidate is complete: 88 bits (08 R161). -/
def Monitor.candidateReady (m : Monitor) : Option (List Bool) :=
  match m.candidate with
  | some c => if c.length ≥ 88 then some c else none
  | none => none

/-- The frame of a missed sync is complete: 88 bits dropped (08 R163). -/
def Monitor.missReady (m : Monitor) : Bool :=
  match m.missed with
  | some k => k ≥ 88
  | none => false

/-- A complete candidate is judged and a complete missed frame counted (08 R161, R163). -/
def State.finishFrame (s : State) : State :=
  match s.monitor.candidateReady with
  | some c => s.judgeCandidate c
  | none => if s.monitor.missReady then s.syncMiss else s

/-! ### Bits -/

/-- A full window tested: a match begins a candidate; otherwise SEARCHING slides by one bit and
LOCKED drops the frame (08 R161, R163). -/
def Monitor.testWindow (m : Monitor) : Monitor :=
  if m.window.length < 8 then m
  else if syncMatches m.tolerance m.window then { m with window := [], candidate := some [] }
  else
    match m.state with
    | .locked => { m with window := [], missed := some 0 }
    | .searching | .off => { m with window := m.window.drop 1, aligned := false }

/-- A received bit taken in SEARCHING or LOCKED (08 R161, R163). -/
def Monitor.takeBit (m : Monitor) (b : Bool) : Monitor :=
  match m.candidate with
  | some c => { m with candidate := some (c ++ [b]) }
  | none =>
    match m.missed with
    | some k => { m with missed := some (k + 1) }
    | none => Monitor.testWindow { m with window := m.window ++ [b] }

/-- A received bit (08 R159). A frame completed before and left to its own command is finished
first; one that this bit completes is finished at once unless it is `later` (log entry 10). -/
def State.receiveBit (s : State) (b later : Bool) : State :=
  if s.monitor.state = .off then s
  else
    let t := s.finishFrame
    let u := t.setMonitor (t.monitor.takeBit b)
    if later then u else u.finishFrame

/-! ### Silence and minutes -/

/-- The silence counter at a tick boundary (08 R172). -/
def silenceWork (s : State) : State :=
  let m := s.monitor
  if m.state = .off then s
  else if m.silence + 1 < Config.silenceLimit then s.setMonitor { m with silence := m.silence + 1 }
  else if m.silent then s
  else (s.setMonitor { m with silence := Config.silenceLimit, silent := true }).raise .silent

/-- The monitor's minute boundary: the holding tallies moved (08 R173). -/
def minuteWork (s : State) : State :=
  let m := s.monitor
  s.setMonitor { m with
    last := m.holding
    span := some ⟨m.holdingStart, s.now, s.time.seconds⟩
    holding := Tallies.zero
    holdingStart := s.now }

/-! ### Requests -/

/-- The enable flag, set exactly when the state is not OFF (08 R158). -/
def Monitor.enabled (m : Monitor) : Bool := m.state ≠ .off

/-- The results of SET MONITOR (08 R174). -/
def Monitor.setBytes (m : Monitor) : List Byte :=
  [flagByte m.enabled] ++ beBytes 1 m.watched.val ++ beBytes 1 m.tolerance ++ beBytes 1 m.state.code

/-- The monitor started afresh with new settings (08 R174). -/
def Monitor.afresh (m : Monitor) (enable : Bool) (watched : Ch) (tolerance now : Nat) : Monitor :=
  { Monitor.freshWindow m with
    state := if enable then .searching else .off
    watched := watched
    tolerance := tolerance
    runUp := 0
    faults := 0
    silence := 0
    silent := false
    holding := Tallies.zero
    holdingStart := now }

/-- SET MONITOR (08 R174). -/
def handleSetMonitor (enable watched tolerance : Byte) (s : State) : Answer :=
  match chOf? watched with
  | none => refuse .outOfRange s
  | some w =>
    if enable.toNat > 1 then refuse .outOfRange s
    else
      let on : Bool := enable.toNat = 1
      let tol := clamp 0 1 tolerance.toNat
      let flag : Bool := tol ≠ tolerance.toNat
      let m := s.monitor
      if m.enabled = on ∧ m.watched = w ∧ m.tolerance = tol then
        (s, some ⟨.unchanged, { RFlags.none with adjusted := flag }, m.setBytes, none⟩)
      else
        let m' := m.afresh on w tol s.now
        (s.setMonitor m', some (Reply.adjusted flag m'.setBytes))

/-- The ten tallies as results (08 R175). -/
def Tallies.bytes (t : Tallies) : List Byte :=
  [t.own, t.corrected, t.headerFaults, t.checkFaults, t.foreign, t.matched, t.stale, t.unknown,
    t.statusMismatch, t.nameMismatch].flatMap (beBytes 2)

/-- The last-minute span as results (08 R175). -/
def Span.bytes (x : Span) : List Byte := beBytes 6 x.start ++ beBytes 6 x.stop ++ beBytes 4 x.seconds

/-- READ MONITOR (08 R175). -/
def handleReadMonitor (s : State) : Answer :=
  let m := s.monitor
  (s, some (Reply.ok
    (beBytes 1 m.state.code ++ [flagByte m.enabled] ++ beBytes 1 m.watched.val ++
      split2 (s.prog m.watched).code ++ beBytes 1 m.tolerance ++ beBytes 1 m.runUp ++
      beBytes 1 m.faults ++ beBytes 1 m.silence ++ [flagByte m.silent] ++ m.last.bytes ++
      optBytes 16 (m.span.map Span.bytes) ++ beBytes 6 m.holdingStart ++ beBytes 6 s.now)))

end Sys2Proof.Machine
end

