-- ==== Sys2Proof/Machine/AttentionUnit.lean ====
section
/-! DEFINITION. The attention unit's requests: READ ATTENTION (10 R201) and SET ATTENTION MASK (10
R202). Raising an event is in Machine/Ops.lean, the line ATTN in Machine/Flags.lean. -/

namespace Sys2Proof.Machine

/-- A kind set as results: two bytes, bits 11 to 15 zero (09 section 9.8). -/
def kindBytes (k : BitVec 11) : List Byte := split2 (k.setWidth 16)

/-- The pending set emptied, with every detail; the mask kept (10 R201). -/
def Attention.cleared (a : Attention) : Attention :=
  { a with
    pendingKinds := 0#11
    load := 0#4
    modulator := 0#4
    overrun := 0#4
    displaced := 0
    placement := 0
    timedSkipped := 0#4
    link := 0#2 }

/-- The results of READ ATTENTION (10 R201). -/
def Attention.bytes (a : Attention) : List Byte :=
  kindBytes a.pendingKinds ++ kindBytes a.mask ++
    [fourByte a.load, fourByte a.modulator, fourByte a.overrun] ++
    beBytes 2 a.displaced ++ beBytes 1 a.placement ++
    [fourByte a.timedSkipped, a.link.setWidth 8]

/-- READ ATTENTION (10 R201). -/
def handleReadAttention (s : State) : Answer :=
  ({ s with attention := s.attention.cleared }, some (Reply.ok s.attention.bytes))

/-- The results of SET ATTENTION MASK: the mask as stored and the pending set (10 R202). -/
def Attention.maskBytes (a : Attention) : List Byte := kindBytes a.mask ++ kindBytes a.pendingKinds

/-- SET ATTENTION MASK; bits 11 to 15 of the value are ignored (10 R202). -/
def handleSetAttentionMask (mask : BitVec 16) (s : State) : Answer :=
  let m := mask.setWidth 11
  if s.attention.mask = m then (s, some (Reply.unchanged s.attention.maskBytes))
  else
    let a := { s.attention with mask := m }
    ({ s with attention := a }, some (Reply.ok a.maskBytes))

end Sys2Proof.Machine
end

