-- ==== Sys2Proof/Machine/Receiver.lean ====
section
/-! DEFINITION. The receivers of the two ports: frame assembly (09 R179), discards and stray bytes
(09 R180) and the silence timers (09 R181). -/

namespace Sys2Proof.Machine

/-- A discard on port `p`: what is held of a frame is thrown away, the tally increases and LINK is
raised (09 R180). -/
def State.discard (s : State) (p : Port) : State :=
  let x := s.port p
  (s.setPort p { x with asm := .hunt, timer := 0, errors := satAdd Config.maxCount x.errors 1 }).raise
    (.link p)

/-- A stray byte on port `p`: the first since the last lead is a discard, the others are dropped
(09 R180). -/
def State.strayByte (s : State) (p : Port) : State :=
  if (s.port p).stray then s else (s.setPort p { s.port p with stray := true }).discard p

/-- What one byte makes of an assembly (09 R179). -/
inductive Taken
  | goOn (asm : Assembly)
  | stray
  | discard
  | complete (frame : Frame)
deriving DecidableEq, Repr

/-- A byte taken by an assembly (09 R179). -/
def Assembly.take (asm : Assembly) (b : Byte) : Taken :=
  match asm with
  | .hunt => if b = Config.requestLead then .goOn .length else .stray
  | .length => if 1 ≤ b.toNat ∧ b.toNat ≤ 250 then .goOn (.body b.toNat []) else .discard
  | .body left got =>
    if left ≤ 1 then .goOn (.check (got ++ [b]) none) else .goOn (.body (left - 1) (got ++ [b]))
  | .check bs none => .goOn (.check bs (some b))
  | .check bs (some high) => .complete ⟨bs, high ++ b⟩

/-- The port after a byte that its assembly goes on with: the timer restarted, and the stray mark
cleared by a lead (09 R179). -/
def PortState.goOn (x : PortState) (asm : Assembly) : PortState :=
  { x with asm := asm, timer := 0, stray := if x.asm = .hunt then false else x.stray }

/-- A byte received on port `p`, and the frame it completes, if any (09 R179). -/
def State.takeByte (s : State) (p : Port) (b : Byte) : State × Option Frame :=
  match (s.port p).asm.take b with
  | .goOn asm => (s.setPort p ((s.port p).goOn asm), none)
  | .stray => (s.strayByte p, none)
  | .discard => (s.discard p, none)
  | .complete f => (s.setPort p { s.port p with asm := .hunt, timer := 0 }, some f)

/-- A framing error on port `p`: a discard inside a frame, a stray byte outside (09 R178, R180). -/
def State.framingError (s : State) (p : Port) : State :=
  if (s.port p).asm = .hunt then s.strayByte p else s.discard p

/-- The end of port `p`'s silence timer: the frame in assembly is discarded (09 R181). -/
def State.silenceEnd (s : State) (p : Port) : State :=
  if (s.port p).asm = .hunt then s else s.discard p

/-- `cycles` reference cycles counted by port `p`'s silence timer, which does not run in HUNT
(09 R181). -/
def timerRun (cycles : Nat) (p : Port) (s : State) : State :=
  if (s.port p).asm = .hunt then s
  else if (s.port p).timer + cycles ≥ Config.linkSilence then s.discard p
  else s.setPort p { s.port p with timer := (s.port p).timer + cycles }

end Sys2Proof.Machine
end

