-- ==== Sys2Proof/Machine/Boundary.lean ====
section
/-! DEFINITION. The passing of time: the works of a tick boundary and of a second boundary (07 R142,
R147), works left to their own commands (log entries 2 to 4), time changes (07 R148 to R150), the
reference cycle of an idle step (log entry 1), and the beginnings of tick 0 at power-on and RESTART ALL
(07 R142, 09 R194). -/

namespace Sys2Proof.Machine

/-! ### Works -/

/-- One block's work taken. -/
def State.take (s : State) (w : Work) : State :=
  match w with
  | .trimExpiry => s.setTime s.time.dropTrim
  | .noticeTest i => testNotice i s
  | .timedFire => s.testTimed
  | .minute => minuteWork s
  | .stream n => streamWork n s
  | .announce p => announceWork p s
  | .withdrawLimit i => testWithdrawLimit i s
  | .confirmLimit p => testConfirmLimit p s
  | .silence => silenceWork s
  | .markWatch => watchWork s

/-- Works taken in the order listed. -/
def State.takeAll (s : State) (ws : List Work) : State := ws.foldl State.take s

/-- The works that were left to their own commands, taken now. -/
def State.flushDue (s : State) : State := { s.takeAll s.due with due := [] }

/-- The works of a second boundary but for the stream engines' (07 R147): every slot and every entry is
tested, as it stands when its test is taken (01 R6, R7; 05 R112, R114). -/
def State.secondWorks (s : State) : List Work :=
  slotNumbers.map Work.noticeTest ++ [Work.timedFire] ++
    (if s.time.seconds % 60 = 0 then [Work.minute] else [])

/-- The works of the stream engines and of announcement control (07 R142). -/
def engineWorks : List Work := channels.map Work.stream ++ channels.map Work.announce

/-- The works of a tick boundary (07 R142, R144, R147), in the order in which the rules list the
blocks. DESIGN CHOICE, log entry 2. -/
def State.boundaryWorks (s : State) (second : Bool) : List Work :=
  (if s.time.trimSpent then [Work.trimExpiry] else []) ++
    (if second then s.secondWorks else []) ++ engineWorks ++
    (slotNumbers.filter s.withdrawLimitReached).map Work.withdrawLimit ++
    ([Port.site, Port.traffic].filter s.confirmLimitReached).map Work.confirmLimit ++
    [Work.silence, Work.markWatch]

/-! ### Tick boundaries -/

/-- The pins found at a boundary stored. -/
def State.withLines (s : State) (lines : Lines) : State :=
  { s with cuePins := lines.cue, mrdyPins := lines.mrdy }

/-- The cycles left of the tick in progress, counted by the silence timers (07 R142, 09 R181). -/
def State.finishTick (s : State) : State :=
  forPorts (timerRun (s.time.tickLength - s.time.phase)) s

/-- Site time takes the boundary (07 R142 to R144, R147). -/
def SiteTime.boundary (x : SiteTime) : SiteTime :=
  if x.tickNumber ≥ 19 then x.nextTick.nextSecond else x.nextTick

/-- The boundary's works taken, but for those in `later`, which are left to their own commands. -/
def State.works (s : State) (second : Bool) (later : List Work) : State :=
  let ws := s.boundaryWorks second
  { s.takeAll (ws.filter fun w => !later.contains w) with
    due := ws.filter fun w => later.contains w }

/-- A tick boundary, which is a second boundary when the tick number passes from 19 to 0
(07 R142, R147). -/
def State.tickBoundary (s : State) (lines : Lines) (later : List Work) : State :=
  let t := (s.flushDue.finishTick).withLines lines
  (t.setTime t.time.boundary).works (decide (t.time.tickNumber ≥ 19)) later

/-- One cycle of the reference with no command waiting; none is counted while PORN is held low
(07 R142; log entry 1). -/
def State.referenceCycle (s : State) : State :=
  if s.pornLow then s
  else if s.time.phase + 1 ≥ s.time.tickLength then s.tickBoundary ⟨s.cuePins, s.mrdyPins⟩ []
  else
    let t := forPorts (timerRun 1) s.flushDue
    t.setTime { t.time with phase := s.time.phase + 1 }

/-! ### Time changes -/

/-- A work, outstanding in a tick of number `tick`, by which a block takes a second boundary and can
read site seconds: the notice table, the programme store and the monitor are handed them, the stream
engines and announcement control read them for themselves at tick number 0 (07 R147, R150; 04 R86, R89;
06 R123). -/
def readsSeconds (tick : Nat) : Work → Bool
  | .noticeTest _ | .timedFire | .minute => true
  | .stream _ | .announce _ => tick = 0
  | .trimExpiry | .withdrawLimit _ | .confirmLimit _ | .silence | .markWatch => false

/-- The works by which the blocks take the last second boundary and its site seconds, if they were left
to their own commands, taken now: the blocks take a second boundary and a time change in the order in
which site time takes them (07 R148, R149; log entry 3). -/
def State.flushSeconds (s : State) : State :=
  let tick := s.time.tickNumber
  { s.takeAll (s.due.filter (readsSeconds tick)) with
    due := s.due.filter fun w => !readsSeconds tick w }

/-- Site time given new contents by a request, and the time change handed to the notice table and the
programme store (07 R150), after the second boundary that came before it. -/
def State.timeChange (s : State) (f : SiteTime → SiteTime) : State :=
  let t := s.flushSeconds
  (t.setTime (f t.time)).testNotices.testTimed

/-- The results of SET TIME and STEP TIME (07 R148, R149). -/
def SiteTime.secondBytes (x : SiteTime) : List Byte :=
  beBytes 4 x.seconds ++ [flagByte x.isSet] ++ beBytes 1 x.tickNumber ++ beBytes 6 x.tickCount

/-- SET TIME (07 R148). -/
def handleSetTime (secs : BitVec 32) (s : State) : Answer :=
  let t := s.timeChange fun x => { x with seconds := secs.toNat, isSet := true }
  (t, some (Reply.ok t.time.secondBytes))

/-- STEP TIME (07 R149). -/
def handleStepTime (delta : BitVec 32) (s : State) : Answer :=
  let d := delta.toInt
  let secs := (s.time.seconds : Int) + d
  if d < -1000000 ∨ 1000000 < d then refuse .outOfRange s
  else if secs < 0 ∨ (Config.maxSeconds : Int) < secs then refuse .outOfRange s
  else
    let t := s.timeChange fun x => { x with seconds := secs.toNat }
    (t, some (Reply.ok t.time.secondBytes))

/-! ### The beginnings of tick 0 (07 R142) -/

/-- Tick 0 begun: a tick boundary that is no second boundary. -/
def State.beginTickZero (s : State) : State := s.works false []

/-- The release of PORN: every block at its power-on state, the modulator levels as found (04 R90,
R95), and tick 0 begun (07 R142). The queue of commands is the environment's and is kept. -/
def State.powerOn (s : State) (lines : Lines) : State :=
  let r := ({ State.reset with pending := s.pending } : State).withLines lines
  State.beginTickZero { r with
    streams := Four.tab fun n => Stream.reset (r.lineFound n) }

/-- A port after RESTART ALL: the baud code is kept, and the response being sent goes on (09 R177,
R194). -/
def PortState.restarted (x : PortState) : PortState :=
  { PortState.reset x.baud with queue := x.queue.take 1, txBaud := x.txBaud }

/-- RESTART ALL performed (09 R194): every block at its state after RESTART ALL, the modulator
levels, the baud codes and a response being sent kept, and tick 0 begun. Works of the last boundary still
outstanding are dropped: their blocks take the restart before that boundary, and a modulator-ready line it
found changed raises MODULATOR after the restart (10 R203). DESIGN CHOICE, log entry 33. -/
def State.restartAll (s : State) (lines : Lines) : State :=
  State.beginTickZero (({ State.reset with
    pending := s.pending
    pornLow := s.pornLow
    streams := Four.tab fun n => Stream.reset (s.stream n).modLevel
    ports := ⟨s.ports.site.restarted, s.ports.traffic.restarted⟩ } : State).withLines lines)

/-- RESTART TABLE performed: every occupied slot freed at once (01 R12, R13). -/
def State.restartTable (s : State) : State := forSlots (fun i t => t.freeAtOnce i) s

/-! ### Single events of a boundary (log entry 4) -/

/-- A work taken by its own command, and no longer outstanding. -/
def State.takeWork (s : State) (w : Work) : State :=
  let t := s.take w
  { t with due := s.due.filter fun v => v ≠ w }

/-- The work is outstanding. -/
def State.outstanding (s : State) (w : Work) : Bool := s.due.contains w

/-- The outstanding test of slot `i` at a second boundary finds a PENDING notice whose start or end is
reached (01 R6). -/
def State.startDue (s : State) (i : Nat) : Bool :=
  match s.notice i with
  | some nt => s.outstanding (.noticeTest i) && nt.startReached s.time.seconds
  | none => false

/-- The outstanding test of slot `i` at a second boundary finds a LIVE notice whose end is reached
(01 R7). -/
def State.endDue (s : State) (i : Nat) : Bool :=
  match s.notice i with
  | some nt => s.outstanding (.noticeTest i) && nt.endReached s.time.seconds
  | none => false

/-- The store's outstanding test of a second boundary finds the entry in use and its target reached
(05 R112). An entry written with a target already past waits for such a test (05 R111). -/
def State.entryFires (s : State) (entry : Nat) : Bool :=
  s.outstanding .timedFire && s.store.timed[entry]?.any fun e => e.fires s.time.seconds

/-- Stream `n`'s outstanding work takes a pending start (04 R92, R96). -/
def State.startDueOn (s : State) (n : Ch) : Bool :=
  s.outstanding (.stream n) && (s.stream n).startPending &&
    ((s.stream n).state = .stopped || (s.stream n).state = .stopping)

/-- Stream `n`'s outstanding work enters STOPPED (04 R94). -/
def State.stopDueOn (s : State) (n : Ch) : Bool :=
  s.outstanding (.stream n) && (s.stream n).state = .stopping

/-- Stream `n`'s outstanding work puts a pending plan in effect (04 R89). -/
def State.planDueOn (s : State) (n : Ch) : Bool :=
  s.outstanding (.stream n) && s.time.tickNumber = 0 && (s.stream n).pendingPlan.isSome

/-- The state as stream `n` finds it when it chooses its cell (04 R96). -/
def State.beforeCell (s : State) (n : Ch) : State :=
  (planStep n (startStep n (stopStep n s))).sampleModulator n

/-- Stream `n`'s outstanding work sends the last cell of its run (03 R61). -/
def State.completionDueOn (s : State) (n : Ch) : Bool :=
  s.outstanding (.stream n) && ((s.beforeCell n).stream n).run.isSome &&
    ((streamWork n s).stream n).run.isNone

/-- Programme `p`'s record as announcement control's work finds it when it counts (06 R129). -/
def State.sampled (s : State) (p : Ch) : Announce :=
  (s.ann p).sampleLine (s.cueFound p) (s.prog p).carries s.bulletinNow

/-- The outstanding work of programme `p` takes the lead counter to 0 (06 R123). -/
def State.leadDueOn (s : State) (p : Ch) : Bool :=
  s.outstanding (.announce p) && (s.ann p).state = .leading && (s.sampled p).state = .leading &&
    (s.ann p).leadCtr ≤ 1

/-- The outstanding work of programme `p` takes the hangover counter to 0 (06 R125). -/
def State.hangoverDueOn (s : State) (p : Ch) : Bool :=
  s.outstanding (.announce p) && (s.ann p).state = .hanging && (s.sampled p).state = .hanging &&
    (s.ann p).hangCtr ≤ 1

/-- The outstanding work of programme `p` finds the maximum duration reached (06 R126, R129). -/
def State.maximumDueOn (s : State) (p : Ch) : Bool :=
  s.outstanding (.announce p) &&
    ((s.ann p).boundary (s.cueFound p) (s.prog p).carries s.bulletinNow).limitReached s.now

/-- The outstanding work of the mark watch takes its counter to 60 (07 R155). -/
def State.watchDue (s : State) : Bool :=
  s.outstanding .markWatch && s.time.watch = .watching && s.time.watchCtr + 1 ≥ Config.watchLimit

/-- The outstanding work of the silence counter takes it to 100 outside a silence (08 R172). -/
def State.silenceDue (s : State) : Bool :=
  s.outstanding .silence && s.monitor.state ≠ .off && !s.monitor.silent &&
    s.monitor.silence + 1 ≥ Config.silenceLimit

end Sys2Proof.Machine
end

