-- ==== Sys2Proof/Machine/Links.lean ====
section
/-! DEFINITION. The dispatcher of a port (09 R182 to R187), the requests that act on the ports and the
part (09 R190 to R193), the transmitter (09 R184, R192 to R194), and the arrival of frames (09 R183). -/

namespace Sys2Proof.Machine

/-! ### Requests that act on the ports -/

/-- ABANDON (09 R190, 01 R33). -/
def handleAbandon (p : Port) (s : State) : Answer :=
  match (s.port p).held with
  | none => refuse .notHeld s
  | some _ => (s.finishHeld p .abandoned, some (Reply.ok []))

/-- PING (09 R191). -/
def handlePing (p : Port) (s : State) : Answer :=
  (s, some (Reply.ok
    (beBytes 2 Config.identity ++ beBytes 1 Config.revision ++ beBytes 1 (portNum p) ++
      beBytes 1 s.ports.site.baud ++ beBytes 1 s.ports.traffic.baud ++
      beBytes 2 s.ports.site.errors ++ beBytes 2 s.ports.traffic.errors)))

/-- SET LINK; the baud code is replaced when the response has been sent (09 R192). -/
def handleSetLink (port baud : Byte) (s : State) : Answer :=
  match portOf? port.toNat with
  | none => refuse .outOfRange s
  | some q =>
    if 3 < baud.toNat then refuse .outOfRange s
    else if (s.port q).baud = baud.toNat then (s, some (Reply.unchanged [port, baud]))
    else (s, some ⟨.ok, RFlags.none, [port, baud], some (.setBaud q baud.toNat)⟩)

/-- RESTART; it is performed when the response has been sent (09 R193). -/
def handleRestart (scope : Byte) (s : State) : Answer :=
  match scope.toNat with
  | 0 => (s, some ⟨.ok, RFlags.none, [scope], some .restartTable⟩)
  | 1 => (s, some ⟨.ok, RFlags.none, [scope], some .restartAll⟩)
  | _ => refuse .outOfRange s

/-! ### The dispatcher -/

/-- A request handed to the block that owns it. -/
def handle (p : Port) (r : Request) (s : State) : Answer :=
  match r with
  | .ping => handlePing p s
  | .readAttention => handleReadAttention s
  | .setAttentionMask mask => handleSetAttentionMask mask s
  | .setLink port baud => handleSetLink port baud s
  | .abandon => handleAbandon p s
  | .restart scope => handleRestart scope s
  | .submit a => handleSubmit p a s
  | .withdraw number => handleWithdraw p number s
  | .withdrawAll => handleWithdrawAll p s
  | .purge number => handlePurge number s
  | .queryNotice number => handleQueryNotice number s
  | .listNotices start => handleListNotices start s
  | .setClass cls base settle => handleSetClass cls base settle s
  | .setNoticeLimits w lifetime confirm => handleSetNoticeLimits w lifetime confirm s
  | .setRange entry enabled first last area => handleSetRange entry enabled first last area s
  | .readRange entry => handleReadRange entry s
  | .setDefaultAreas areas => handleSetDefaultAreas areas s
  | .setProgramme prog code coverage carries target =>
    handleSetProgramme prog code coverage carries target s
  | .setName prog variant short long => handleSetName prog variant short long s
  | .selectName prog variant => handleSelectName prog variant s
  | .setTimedChange entry prog variant target period =>
    handleSetTimedChange entry prog variant target period s
  | .clearTimedChange entry => handleClearTimedChange entry s
  | .setPlan stream duties => handleSetPlan stream duties s
  | .startStream stream => handleStartStream stream s
  | .stopStream stream => handleStopStream stream s
  | .readStream stream => handleReadStream stream s
  | .readProgramme prog => handleReadProgramme prog s
  | .setCue prog source lead hangover maxSecs => handleSetCue prog source lead hangover maxSecs s
  | .cueOn prog => handleLinkCue prog true s
  | .cueOff prog => handleLinkCue prog false s
  | .readAnnouncement prog => handleReadAnnouncement prog s
  | .setTime secs => handleSetTime secs s
  | .stepTime delta => handleStepTime delta s
  | .setTrim trim => handleSetTrim trim s
  | .trimFor trim duration => handleTrimFor trim duration s
  | .readTime => handleReadTime s
  | .readMark => handleReadMark s
  | .setOffset offset => handleSetOffset offset s
  | .setMarkWatch enable => handleSetMarkWatch enable s
  | .setMonitor enable watched tolerance => handleSetMonitor enable watched tolerance s
  | .readMonitor => handleReadMonitor s

/-- The request codes the traffic port may use (09 R186). -/
def trafficCodes : List Byte :=
  [0x01#8, 0x05#8, 0x10#8, 0x11#8, 0x12#8, 0x14#8, 0x15#8, 0x54#8]

/-- The code of ABANDON (09 section 9.8). -/
def abandonCode : Byte := 0x05#8

/-- The first three tests of the dispatcher: the refusal of the first that applies (09 R185). -/
def State.admission (s : State) (p : Port) (code : Byte) : Option Status :=
  if (s.port p).held.isSome ∧ code ≠ abandonCode then some .busy
  else if !requestCodes.contains code then some .unknownRequest
  else if p = .traffic ∧ !trafficCodes.contains code then some .notPermitted
  else none

/-- The reply of a block put in the transmit queue under the echoed code (09 R184). -/
def answered (p : Port) (code : Byte) (a : Answer) : State :=
  match a.2 with
  | some r => a.1.send p ⟨code, r.status, r.flags, r.results, r.next⟩
  | none => a.1

/-- A request of good check taken: the tests of 09 R185 in turn, then the owning block. `r` is none
when the body's length does not fit the request. -/
def State.dispatch (s : State) (p : Port) (code : Byte) (r : Option Request) : State :=
  answered p code
    (match s.admission p code with
     | some st => refuse st s
     | none =>
       match r with
       | none => refuse .badLength s
       | some r => handle p r s)

/-- A frame taken into the dispatcher: its check compared, then its request dispatched
(09 R182, R185). -/
def State.takeFrame (s : State) (p : Port) (f : Frame) : State :=
  let code := f.body.headD 0#8
  if frameCheck f.body ≠ f.check then answered p code (refuse .badCheck s)
  else s.dispatch p code (parseRequest code f.body.tail)

/-- A complete frame that finds the transmit queue not empty: it waits, or is discarded when another
waits (09 R183). -/
def State.putWaiting (s : State) (p : Port) (f : Frame) : State :=
  match (s.port p).waiting with
  | none => s.setPort p { s.port p with waiting := some f }
  | some _ => s.discard p

/-- A complete frame (09 R183). -/
def State.frameArrives (s : State) (p : Port) (f : Frame) : State :=
  if (s.port p).queue = [] then s.takeFrame p f else s.putWaiting p f

/-- A character received on port `p` (09 R178 to R180). -/
def State.receiveChar (s : State) (p : Port) (c : RxChar) : State :=
  match c with
  | .framingError => s.framingError p
  | .byte b =>
    match (s.takeByte p b).2 with
    | none => (s.takeByte p b).1
    | some f => (s.takeByte p b).1.frameArrives p f

/-- The frame of a request (09 section 9.2). -/
def requestFrame (r : Request) : Frame := ⟨requestBody r, frameCheck (requestBody r)⟩

/-- A whole frame of good check carrying request `r` arrives on port `p`. A request whose lists do not
fit their length fields stands for a frame of the wrong length (log entries 6 and 24). -/
def State.request (s : State) (p : Port) (r : Request) : State :=
  if (s.port p).queue = [] then s.dispatch p (requestCode r) (if r.fits then some r else none)
  else s.putWaiting p (requestFrame r)

/-- A whole frame of good check whose code is `code` arrives on port `p`, with the bytes `rest` after
the code. -/
def State.rawRequest (s : State) (p : Port) (code : Byte) (rest : List Byte) : State :=
  s.frameArrives p ⟨code :: rest, frameCheck (code :: rest)⟩

/-! ### The serial lines (09 R178) -/

/-- The level of a stop bit, and of STX and TTX while nothing is sent. -/
def stopLevel : Bool := true

/-- The ten bits of a character on a line: a start bit, 8 data bits, least significant first, and a
stop bit (09 R178). -/
def charBits (b : Byte) : List Bool :=
  (!stopLevel) :: ((List.range 8).map fun i => b.getLsbD i) ++ [stopLevel]

/-- The bits of a response on its line: its characters without gaps (09 R184). -/
def Response.lineBits (r : Response) : List Bool := r.frame.flatMap charBits

/-- The level of STX or TTX in bit time `k` of the response being sent, counted from the start bit of its
lead byte: the stop level when nothing is being sent and while PORN is held low (09 R178). How long a
bit time lasts is left out; log entries 18 and 31. -/
def State.serialOut (s : State) (p : Port) (k : Nat) : Bool :=
  if s.pornLow then stopLevel
  else
    match (s.port p).queue with
    | [] => stopLevel
    | r :: _ => r.lineBits.getD k stopLevel

/-- What a receiver takes from the nine bits after a start bit: the byte of the 8 data bits, least
significant first, or a framing error where the stop bit is at the start level (09 R178). -/
def charOf (data : List Bool) (stop : Bool) : RxChar :=
  if stop = stopLevel then .byte (BitVec.ofNat 8 (bitsNat data.reverse)) else .framingError

/-! ### The transmitter -/

/-- The baud code of port `q` replaced: a frame in assembly on it is discarded (09 R192). -/
def State.changeBaud (s : State) (q : Port) (code : Nat) : State :=
  let t := if (s.port q).asm = .hunt then s else s.discard q
  t.setPort q { t.port q with baud := code }

/-- What is done at the moment a response has left (09 R192, R193). -/
def State.perform (s : State) (next : Option After) (lines : Lines) : State :=
  match next with
  | none => s
  | some (.setBaud q code) => s.changeBaud q code
  | some .restartTable => s.restartTable
  | some .restartAll => s.restartAll lines

/-- The next response of port `p`, if there is one, begins to be sent, at the rate now in force
(09 R184, R192). -/
def State.beginNext (s : State) (p : Port) : State :=
  if (s.port p).queue = [] then s
  else s.setPort p { s.port p with txBaud := (s.port p).baud }

/-- The waiting frame of port `p` is taken once its transmit queue is empty (09 R183). -/
def State.takeWaiting (s : State) (p : Port) : State :=
  if (s.port p).queue = [] then
    match (s.port p).waiting with
    | some f => (s.setPort p { s.port p with waiting := none }).takeFrame p f
    | none => s
  else s

/-- The last byte of the response being sent on port `p` has left (09 R184, R192, R193). What the response
leaves to this moment is done before a waiting frame is taken: of a RESTART 09 R193 says so; that the
discard at the end of a SET LINK's response, and the LINK it raises, come before a waiting READ ATTENTION
(09 R183, 10 R201) is DESIGN CHOICE, log entry 32. -/
def State.responseSent (s : State) (p : Port) (lines : Lines) : State :=
  match (s.port p).queue with
  | [] => s
  | r :: rest =>
    (((s.setPort p { s.port p with queue := rest }).perform r.next lines).beginNext p).takeWaiting p

end Sys2Proof.Machine
end

