-- ==== Sys2Proof/Machine/Events.lean ====
section
/-! DEFINITION. The meanings of the commands that are events: power, time, the single events of a
boundary, the second mark, the off-air receiver and the links' characters. While PORN is held low
only POWER_ON and PORN_HELD_LOW act (07 R142, 09 R178; log entry 16). -/

namespace Sys2Proof.Machine

/-- The outcome of an event that is taken only while PORN is released. -/
def running (s t : State) : Host.Outcome State Fault Refusal := .next (if s.pornLow then s else t)

/-- A work taken by its own command when its event is due (log entry 4). -/
def takeWhen (due : Bool) (w : Work) (s : State) : State := if due then s.takeWork w else s

/-- POWER_ON (07 R142). -/
def execPowerOn (lines : Lines) (s : State) : Host.Outcome State Fault Refusal :=
  .next (s.powerOn lines)

/-- TICK_BOUNDARY (07 R142). -/
def execTickBoundary (lines : Lines) (later : List Work) (s : State) :
    Host.Outcome State Fault Refusal :=
  running s (s.tickBoundary lines later)

/-- TEMPORARY_TRIM_EXPIRY (07 R144). -/
def execTemporaryTrimExpiry (s : State) : Host.Outcome State Fault Refusal :=
  running s (takeWhen s.time.trimSpent .trimExpiry s)

/-- SECOND_BOUNDARY (07 R147): the tick boundary that ends tick number 19 (log entry 5). -/
def execSecondBoundary (lines : Lines) (later : List Work) (s : State) :
    Host.Outcome State Fault Refusal :=
  running s (if s.time.tickNumber ≥ 19 then s.tickBoundary lines later else s)

/-- NOTICE_START (01 R6). -/
def execNoticeStart (slot : Nat) (s : State) : Host.Outcome State Fault Refusal :=
  running s (takeWhen (s.startDue slot) (.noticeTest slot) s)

/-- NOTICE_EXPIRY (01 R7). -/
def execNoticeExpiry (slot : Nat) (s : State) : Host.Outcome State Fault Refusal :=
  running s (takeWhen (s.endDue slot) (.noticeTest slot) s)

/-- WITHDRAW_LIMIT (01 R11). -/
def execWithdrawLimit (slot : Nat) (s : State) : Host.Outcome State Fault Refusal :=
  running s (takeWhen (s.withdrawLimitReached slot) (.withdrawLimit slot) s)

/-- CONFIRM_LIMIT (01 R31). -/
def execConfirmLimit (p : Port) (s : State) : Host.Outcome State Fault Refusal :=
  running s (takeWhen (s.confirmLimitReached p) (.confirmLimit p) s)

/-- TIMED_CHANGE_FIRE (05 R112, R113): the entry fires, with every other that the store's outstanding test of
a second boundary finds reached, as the entries stand (05 R114); none fires before one (05 R111). -/
def execTimedChangeFire (entry : Nat) (s : State) : Host.Outcome State Fault Refusal :=
  running s (takeWhen (s.entryFires entry) .timedFire s)

/-- START_TAKEN (04 R92). -/
def execStartTaken (n : Ch) (s : State) : Host.Outcome State Fault Refusal :=
  running s (takeWhen (s.startDueOn n) (.stream n) s)

/-- ENTER_STOPPED (04 R94). -/
def execEnterStopped (n : Ch) (s : State) : Host.Outcome State Fault Refusal :=
  running s (takeWhen (s.stopDueOn n) (.stream n) s)

/-- PLAN_TAKES_EFFECT (04 R89). -/
def execPlanTakesEffect (n : Ch) (s : State) : Host.Outcome State Fault Refusal :=
  running s (takeWhen (s.planDueOn n) (.stream n) s)

/-- RUN_COMPLETION (03 R61). -/
def execRunCompletion (n : Ch) (s : State) : Host.Outcome State Fault Refusal :=
  running s (takeWhen (s.completionDueOn n) (.stream n) s)

/-- LEAD_EXPIRY (06 R123). -/
def execLeadExpiry (prog : Ch) (s : State) : Host.Outcome State Fault Refusal :=
  running s (takeWhen (s.leadDueOn prog) (.announce prog) s)

/-- HANGOVER_EXPIRY (06 R125). -/
def execHangoverExpiry (prog : Ch) (s : State) : Host.Outcome State Fault Refusal :=
  running s (takeWhen (s.hangoverDueOn prog) (.announce prog) s)

/-- MAXIMUM_DURATION (06 R126). -/
def execMaximumDuration (prog : Ch) (s : State) : Host.Outcome State Fault Refusal :=
  running s (takeWhen (s.maximumDueOn prog) (.announce prog) s)

/-- MARK_EDGE (07 R153). -/
def execMarkEdge (s : State) : Host.Outcome State Fault Refusal :=
  running s s.markEdge

/-- MARK_WATCH_EXPIRY (07 R155). -/
def execMarkWatchExpiry (s : State) : Host.Outcome State Fault Refusal :=
  running s (takeWhen s.watchDue .markWatch s)

/-- CANDIDATE_COMPLETE (08 R164): a complete candidate left by RECEIVED_BIT is judged. -/
def execCandidateComplete (s : State) : Host.Outcome State Fault Refusal :=
  running s
    (match s.monitor.candidateReady with
     | some c => s.judgeCandidate c
     | none => s)

/-- SYNC_MISS (08 R163): a complete frame of a missed sync left by RECEIVED_BIT is counted. -/
def execSyncMiss (s : State) : Host.Outcome State Fault Refusal :=
  running s (if s.monitor.missReady then s.syncMiss else s)

/-- SILENCE_EXPIRY (08 R172). -/
def execSilenceExpiry (s : State) : Host.Outcome State Fault Refusal :=
  running s (takeWhen s.silenceDue .silence s)

/-- BYTE_RECEIVED (09 R179). -/
def execByteReceived (p : Port) (c : RxChar) (s : State) : Host.Outcome State Fault Refusal :=
  running s (s.receiveChar p c)

/-- LINK_SILENCE_TIMEOUT (09 R181; log entry 9). -/
def execLinkSilenceTimeout (p : Port) (s : State) : Host.Outcome State Fault Refusal :=
  running s (s.silenceEnd p)

/-- RESPONSE_SENT (09 R184). -/
def execResponseSent (p : Port) (lines : Lines) (s : State) : Host.Outcome State Fault Refusal :=
  running s (s.responseSent p lines)

/-- RECEIVED_BIT (08 R159). -/
def execReceivedBit (bit later : Bool) (s : State) : Host.Outcome State Fault Refusal :=
  running s (s.receiveBit bit later)

/-- PORN_HELD_LOW (07 R142, 04 R98, 09 R178, 10 R200). -/
def execPornHeldLow (s : State) : Host.Outcome State Fault Refusal :=
  .next { s with pornLow := true }

end Sys2Proof.Machine
end

