-- ==== Sys2Proof/Machine/Requests.lean ====
section
/-! DEFINITION. The meanings of the commands that are requests: a whole frame of good check arrives on
port `p` carrying the request (09 section 9.8, R183, R185; log entry 6). -/

namespace Sys2Proof.Machine

/-- A request arrives while PORN is released; the receivers take nothing while it is held low
(09 R178). -/
def onRequest (p : Port) (r : Request) (s : State) : Host.Outcome State Fault Refusal :=
  running s (s.request p r)

/-- UNKNOWN_REQUEST (09 R185): a frame whose code is none of section 9.8's. -/
def execUnknownRequest (p : Port) (code : Byte) (rest : List Byte) (s : State) :
    Host.Outcome State Fault Refusal :=
  running s (s.rawRequest p code rest)

/-- The port and the request that a command carries, if it is a request's row. -/
def commandRequest : Instr → Option (Port × Request)
  | .ping p => some (p, .ping)
  | .readAttention p => some (p, .readAttention)
  | .setAttentionMask p mask => some (p, .setAttentionMask mask)
  | .setLink p port baud => some (p, .setLink port baud)
  | .abandon p => some (p, .abandon)
  | .restart p scope => some (p, .restart scope)
  | .submit p args => some (p, .submit args)
  | .withdraw p number => some (p, .withdraw number)
  | .withdrawAll p => some (p, .withdrawAll)
  | .purge p number => some (p, .purge number)
  | .queryNotice p number => some (p, .queryNotice number)
  | .listNotices p start => some (p, .listNotices start)
  | .setClass p cls base settle => some (p, .setClass cls base settle)
  | .setNoticeLimits p w lifetime confirm => some (p, .setNoticeLimits w lifetime confirm)
  | .setRange p entry enabled first last area => some (p, .setRange entry enabled first last area)
  | .readRange p entry => some (p, .readRange entry)
  | .setDefaultAreas p areas => some (p, .setDefaultAreas areas)
  | .setProgramme p prog code coverage carries target =>
    some (p, .setProgramme prog code coverage carries target)
  | .setName p prog variant short long => some (p, .setName prog variant short long)
  | .setNameClear p prog variant long => some (p, .setName prog variant [] long)
  | .selectName p prog variant => some (p, .selectName prog variant)
  | .setTimedChange p entry prog variant target period =>
    some (p, .setTimedChange entry prog variant target period)
  | .clearTimedChange p entry => some (p, .clearTimedChange entry)
  | .setPlan p stream duties => some (p, .setPlan stream duties)
  | .startStream p stream => some (p, .startStream stream)
  | .stopStream p stream => some (p, .stopStream stream)
  | .readStream p stream => some (p, .readStream stream)
  | .readProgramme p prog => some (p, .readProgramme prog)
  | .setCue p prog source lead hangover maxSecs =>
    some (p, .setCue prog source lead hangover maxSecs)
  | .cueOn p prog => some (p, .cueOn prog)
  | .cueOff p prog => some (p, .cueOff prog)
  | .readAnnouncement p prog => some (p, .readAnnouncement prog)
  | .setTime p secs => some (p, .setTime secs)
  | .stepTime p delta => some (p, .stepTime delta)
  | .setTrim p trim => some (p, .setTrim trim)
  | .trimFor p trim duration => some (p, .trimFor trim duration)
  | .readTime p => some (p, .readTime)
  | .readMark p => some (p, .readMark)
  | .setOffset p offset => some (p, .setOffset offset)
  | .setMarkWatch p enable => some (p, .setMarkWatch enable)
  | .setMonitor p enable watched tolerance => some (p, .setMonitor enable watched tolerance)
  | .readMonitor p => some (p, .readMonitor)
  | .powerOn _ | .tickBoundary _ _ | .temporaryTrimExpiry | .secondBoundary _ _
  | .noticeStart _ | .noticeExpiry _ | .withdrawLimit _ | .confirmLimit _ | .timedChangeFire _
  | .startTaken _ | .enterStopped _ | .planTakesEffect _ | .runCompletion _ | .leadExpiry _
  | .hangoverExpiry _ | .maximumDuration _ | .markEdge | .markWatchExpiry | .candidateComplete
  | .syncMiss | .silenceExpiry | .byteReceived _ _ | .linkSilenceTimeout _ | .responseSent _ _
  | .unknownRequest _ _ _ | .receivedBit _ _ | .pornHeldLow => none

/-- PING (09 R191). -/
def execPing (p : Port) (s : State) : Host.Outcome State Fault Refusal :=
  onRequest p .ping s

/-- READ_ATTENTION (10 R201). -/
def execReadAttention (p : Port) (s : State) : Host.Outcome State Fault Refusal :=
  onRequest p .readAttention s

/-- SET_ATTENTION_MASK (10 R202). -/
def execSetAttentionMask (p : Port) (mask : BitVec 16) (s : State) :
    Host.Outcome State Fault Refusal :=
  onRequest p (.setAttentionMask mask) s

/-- SET_LINK (09 R192). -/
def execSetLink (p : Port) (port baud : Byte) (s : State) : Host.Outcome State Fault Refusal :=
  onRequest p (.setLink port baud) s

/-- ABANDON (09 R190, 01 R33). -/
def execAbandon (p : Port) (s : State) : Host.Outcome State Fault Refusal :=
  onRequest p .abandon s

/-- RESTART (09 R193). -/
def execRestart (p : Port) (scope : Byte) (s : State) : Host.Outcome State Fault Refusal :=
  onRequest p (.restart scope) s

/-- SUBMIT (01 R14 to R22, R29). -/
def execSubmit (p : Port) (args : SubmitArgs) (s : State) : Host.Outcome State Fault Refusal :=
  onRequest p (.submit args) s

/-- WITHDRAW (01 R23). -/
def execWithdraw (p : Port) (number : BitVec 16) (s : State) : Host.Outcome State Fault Refusal :=
  onRequest p (.withdraw number) s

/-- WITHDRAW_ALL (01 R24). -/
def execWithdrawAll (p : Port) (s : State) : Host.Outcome State Fault Refusal :=
  onRequest p .withdrawAll s

/-- PURGE (01 R25). -/
def execPurge (p : Port) (number : BitVec 16) (s : State) : Host.Outcome State Fault Refusal :=
  onRequest p (.purge number) s

/-- QUERY_NOTICE (01 R26). -/
def execQueryNotice (p : Port) (number : BitVec 16) (s : State) :
    Host.Outcome State Fault Refusal :=
  onRequest p (.queryNotice number) s

/-- LIST_NOTICES (01 R27). -/
def execListNotices (p : Port) (start : Byte) (s : State) : Host.Outcome State Fault Refusal :=
  onRequest p (.listNotices start) s

/-- SET_CLASS (03 R70). -/
def execSetClass (p : Port) (cls : Byte) (base : BitVec 16) (settle : Byte) (s : State) :
    Host.Outcome State Fault Refusal :=
  onRequest p (.setClass cls base settle) s

/-- SET_NOTICE_LIMITS (01 R28). -/
def execSetNoticeLimits (p : Port) (w : Byte) (lifetime : BitVec 32) (confirm : BitVec 16) (s : State) :
    Host.Outcome State Fault Refusal :=
  onRequest p (.setNoticeLimits w lifetime confirm) s

/-- SET_RANGE (02 R35). -/
def execSetRange (p : Port) (entry enabled : Byte) (first last : BitVec 16) (area : Byte) (s : State) :
    Host.Outcome State Fault Refusal :=
  onRequest p (.setRange entry enabled first last area) s

/-- READ_RANGE (02 R37). -/
def execReadRange (p : Port) (entry : Byte) (s : State) : Host.Outcome State Fault Refusal :=
  onRequest p (.readRange entry) s

/-- SET_DEFAULT_AREAS (02 R38). -/
def execSetDefaultAreas (p : Port) (areas : BitVec 16) (s : State) :
    Host.Outcome State Fault Refusal :=
  onRequest p (.setDefaultAreas areas) s

/-- SET_PROGRAMME (05 R101). -/
def execSetProgramme (p : Port) (prog : Byte) (code coverage : BitVec 16) (carries target : Byte) (s : State) :
    Host.Outcome State Fault Refusal :=
  onRequest p (.setProgramme prog code coverage carries target) s

/-- SET_NAME (05 R106). -/
def execSetName (p : Port) (prog variant : Byte) (short long : List Byte) (s : State) :
    Host.Outcome State Fault Refusal :=
  onRequest p (.setName prog variant short long) s

/-- SET_NAME_CLEAR (05 R107). -/
def execSetNameClear (p : Port) (prog variant : Byte) (long : List Byte) (s : State) :
    Host.Outcome State Fault Refusal :=
  onRequest p (.setName prog variant [] long) s

/-- SELECT_NAME (05 R108). -/
def execSelectName (p : Port) (prog variant : Byte) (s : State) :
    Host.Outcome State Fault Refusal :=
  onRequest p (.selectName prog variant) s

/-- SET_TIMED_CHANGE (05 R111). -/
def execSetTimedChange (p : Port) (entry prog variant : Byte) (target period : BitVec 32) (s : State) :
    Host.Outcome State Fault Refusal :=
  onRequest p (.setTimedChange entry prog variant target period) s

/-- CLEAR_TIMED_CHANGE (05 R116). -/
def execClearTimedChange (p : Port) (entry : Byte) (s : State) :
    Host.Outcome State Fault Refusal :=
  onRequest p (.clearTimedChange entry) s

/-- SET_PLAN (04 R88). -/
def execSetPlan (p : Port) (stream : Byte) (duties : List Byte) (s : State) :
    Host.Outcome State Fault Refusal :=
  onRequest p (.setPlan stream duties) s

/-- START_STREAM (04 R91). -/
def execStartStream (p : Port) (stream : Byte) (s : State) : Host.Outcome State Fault Refusal :=
  onRequest p (.startStream stream) s

/-- STOP_STREAM (04 R93). -/
def execStopStream (p : Port) (stream : Byte) (s : State) : Host.Outcome State Fault Refusal :=
  onRequest p (.stopStream stream) s

/-- READ_STREAM (04 R99). -/
def execReadStream (p : Port) (stream : Byte) (s : State) : Host.Outcome State Fault Refusal :=
  onRequest p (.readStream stream) s

/-- READ_PROGRAMME (05 R117). -/
def execReadProgramme (p : Port) (prog : Byte) (s : State) : Host.Outcome State Fault Refusal :=
  onRequest p (.readProgramme prog) s

/-- SET_CUE (06 R136). -/
def execSetCue (p : Port) (prog source lead hangover : Byte) (maxSecs : BitVec 16) (s : State) :
    Host.Outcome State Fault Refusal :=
  onRequest p (.setCue prog source lead hangover maxSecs) s

/-- CUE_ON (06 R138). -/
def execCueOn (p : Port) (prog : Byte) (s : State) : Host.Outcome State Fault Refusal :=
  onRequest p (.cueOn prog) s

/-- CUE_OFF (06 R139). -/
def execCueOff (p : Port) (prog : Byte) (s : State) : Host.Outcome State Fault Refusal :=
  onRequest p (.cueOff prog) s

/-- READ_ANNOUNCEMENT (06 R140). -/
def execReadAnnouncement (p : Port) (prog : Byte) (s : State) : Host.Outcome State Fault Refusal :=
  onRequest p (.readAnnouncement prog) s

/-- SET_TIME (07 R148). -/
def execSetTime (p : Port) (secs : BitVec 32) (s : State) : Host.Outcome State Fault Refusal :=
  onRequest p (.setTime secs) s

/-- STEP_TIME (07 R149). -/
def execStepTime (p : Port) (delta : BitVec 32) (s : State) : Host.Outcome State Fault Refusal :=
  onRequest p (.stepTime delta) s

/-- SET_TRIM (07 R145). -/
def execSetTrim (p : Port) (trim : BitVec 32) (s : State) : Host.Outcome State Fault Refusal :=
  onRequest p (.setTrim trim) s

/-- TRIM_FOR (07 R146). -/
def execTrimFor (p : Port) (trim duration : BitVec 32) (s : State) :
    Host.Outcome State Fault Refusal :=
  onRequest p (.trimFor trim duration) s

/-- READ_TIME (07 R157). -/
def execReadTime (p : Port) (s : State) : Host.Outcome State Fault Refusal :=
  onRequest p .readTime s

/-- READ_MARK (07 R154). -/
def execReadMark (p : Port) (s : State) : Host.Outcome State Fault Refusal :=
  onRequest p .readMark s

/-- SET_OFFSET (07 R152). -/
def execSetOffset (p : Port) (offset : Byte) (s : State) : Host.Outcome State Fault Refusal :=
  onRequest p (.setOffset offset) s

/-- SET_MARK_WATCH (07 R156). -/
def execSetMarkWatch (p : Port) (enable : Byte) (s : State) : Host.Outcome State Fault Refusal :=
  onRequest p (.setMarkWatch enable) s

/-- SET_MONITOR (08 R174). -/
def execSetMonitor (p : Port) (enable watched tolerance : Byte) (s : State) :
    Host.Outcome State Fault Refusal :=
  onRequest p (.setMonitor enable watched tolerance) s

/-- READ_MONITOR (08 R175). -/
def execReadMonitor (p : Port) (s : State) : Host.Outcome State Fault Refusal :=
  onRequest p .readMonitor s

end Sys2Proof.Machine
end

