-- ==== Sys2Proof/Machine/Dispatch.lean ====
section
/-! DEFINITION. The meaning of each command. -/

namespace Sys2Proof.Machine

def exec (i : Instr) (s : State) : Host.Outcome State Fault Refusal :=
  match i with
  | .powerOn lines => Sys2Proof.Machine.execPowerOn lines s
  | .tickBoundary lines later => Sys2Proof.Machine.execTickBoundary lines later s
  | .temporaryTrimExpiry => Sys2Proof.Machine.execTemporaryTrimExpiry s
  | .secondBoundary lines later => Sys2Proof.Machine.execSecondBoundary lines later s
  | .noticeStart slot => Sys2Proof.Machine.execNoticeStart slot s
  | .noticeExpiry slot => Sys2Proof.Machine.execNoticeExpiry slot s
  | .withdrawLimit slot => Sys2Proof.Machine.execWithdrawLimit slot s
  | .confirmLimit p => Sys2Proof.Machine.execConfirmLimit p s
  | .timedChangeFire entry => Sys2Proof.Machine.execTimedChangeFire entry s
  | .startTaken n => Sys2Proof.Machine.execStartTaken n s
  | .enterStopped n => Sys2Proof.Machine.execEnterStopped n s
  | .planTakesEffect n => Sys2Proof.Machine.execPlanTakesEffect n s
  | .runCompletion n => Sys2Proof.Machine.execRunCompletion n s
  | .leadExpiry prog => Sys2Proof.Machine.execLeadExpiry prog s
  | .hangoverExpiry prog => Sys2Proof.Machine.execHangoverExpiry prog s
  | .maximumDuration prog => Sys2Proof.Machine.execMaximumDuration prog s
  | .markEdge => Sys2Proof.Machine.execMarkEdge s
  | .markWatchExpiry => Sys2Proof.Machine.execMarkWatchExpiry s
  | .candidateComplete => Sys2Proof.Machine.execCandidateComplete s
  | .syncMiss => Sys2Proof.Machine.execSyncMiss s
  | .silenceExpiry => Sys2Proof.Machine.execSilenceExpiry s
  | .byteReceived p c => Sys2Proof.Machine.execByteReceived p c s
  | .linkSilenceTimeout p => Sys2Proof.Machine.execLinkSilenceTimeout p s
  | .responseSent p lines => Sys2Proof.Machine.execResponseSent p lines s
  | .unknownRequest p code rest => Sys2Proof.Machine.execUnknownRequest p code rest s
  | .ping p => Sys2Proof.Machine.execPing p s
  | .readAttention p => Sys2Proof.Machine.execReadAttention p s
  | .setAttentionMask p mask => Sys2Proof.Machine.execSetAttentionMask p mask s
  | .setLink p port baud => Sys2Proof.Machine.execSetLink p port baud s
  | .abandon p => Sys2Proof.Machine.execAbandon p s
  | .restart p scope => Sys2Proof.Machine.execRestart p scope s
  | .submit p args => Sys2Proof.Machine.execSubmit p args s
  | .withdraw p number => Sys2Proof.Machine.execWithdraw p number s
  | .withdrawAll p => Sys2Proof.Machine.execWithdrawAll p s
  | .purge p number => Sys2Proof.Machine.execPurge p number s
  | .queryNotice p number => Sys2Proof.Machine.execQueryNotice p number s
  | .listNotices p start => Sys2Proof.Machine.execListNotices p start s
  | .setClass p cls base settle => Sys2Proof.Machine.execSetClass p cls base settle s
  | .setNoticeLimits p w lifetime confirm => Sys2Proof.Machine.execSetNoticeLimits p w lifetime confirm s
  | .setRange p entry enabled first last area => Sys2Proof.Machine.execSetRange p entry enabled first last area s
  | .readRange p entry => Sys2Proof.Machine.execReadRange p entry s
  | .setDefaultAreas p areas => Sys2Proof.Machine.execSetDefaultAreas p areas s
  | .setProgramme p prog code coverage carries target => Sys2Proof.Machine.execSetProgramme p prog code coverage carries target s
  | .setName p prog variant short long => Sys2Proof.Machine.execSetName p prog variant short long s
  | .setNameClear p prog variant long => Sys2Proof.Machine.execSetNameClear p prog variant long s
  | .selectName p prog variant => Sys2Proof.Machine.execSelectName p prog variant s
  | .setTimedChange p entry prog variant target period => Sys2Proof.Machine.execSetTimedChange p entry prog variant target period s
  | .clearTimedChange p entry => Sys2Proof.Machine.execClearTimedChange p entry s
  | .setPlan p stream duties => Sys2Proof.Machine.execSetPlan p stream duties s
  | .startStream p stream => Sys2Proof.Machine.execStartStream p stream s
  | .stopStream p stream => Sys2Proof.Machine.execStopStream p stream s
  | .readStream p stream => Sys2Proof.Machine.execReadStream p stream s
  | .readProgramme p prog => Sys2Proof.Machine.execReadProgramme p prog s
  | .setCue p prog source lead hangover maxSecs => Sys2Proof.Machine.execSetCue p prog source lead hangover maxSecs s
  | .cueOn p prog => Sys2Proof.Machine.execCueOn p prog s
  | .cueOff p prog => Sys2Proof.Machine.execCueOff p prog s
  | .readAnnouncement p prog => Sys2Proof.Machine.execReadAnnouncement p prog s
  | .setTime p secs => Sys2Proof.Machine.execSetTime p secs s
  | .stepTime p delta => Sys2Proof.Machine.execStepTime p delta s
  | .setTrim p trim => Sys2Proof.Machine.execSetTrim p trim s
  | .trimFor p trim duration => Sys2Proof.Machine.execTrimFor p trim duration s
  | .readTime p => Sys2Proof.Machine.execReadTime p s
  | .readMark p => Sys2Proof.Machine.execReadMark p s
  | .setOffset p offset => Sys2Proof.Machine.execSetOffset p offset s
  | .setMarkWatch p enable => Sys2Proof.Machine.execSetMarkWatch p enable s
  | .setMonitor p enable watched tolerance => Sys2Proof.Machine.execSetMonitor p enable watched tolerance s
  | .readMonitor p => Sys2Proof.Machine.execReadMonitor p s
  | .receivedBit bit later => Sys2Proof.Machine.execReceivedBit bit later s
  | .pornHeldLow => Sys2Proof.Machine.execPornHeldLow s

end Sys2Proof.Machine
end

