-- ==== Sys2Proof/Safety.lean ====
section
/-! DEFINITION. What the rules say always holds of the part: the invariants that every step keeps. Each
is decidable, so that a state can be tested against it. -/

namespace Sys2Proof.Machine

/-! ### Notice table -/

/-- The number standing in slot `i`, if the slot is occupied. -/
def State.numberAt (s : State) (i : Nat) : Option Nat := (s.notice i).map fun nt => nt.number

/-- The table has 96 slots, and no two occupied slots hold the same number (01 R1). -/
abbrev State.TableSound (s : State) : Prop :=
  s.table.slots.length = Config.slots ∧
    ∀ i < Config.slots, ∀ j < Config.slots,
      (s.notice i).isSome → s.numberAt i = s.numberAt j → i = j

/-- The notice in slot `i` has an AIRING record on stream `n` exactly when the stream carries it
(02 R45). -/
def State.carriesRightly (s : State) (i : Nat) (n : Ch) : Bool :=
  match s.notice i with
  | some nt => nt.airsOn n == s.carries n nt
  | none => true

/-- A PENDING notice has no records, and a WITHDRAWING one has WITHDRAWAL records only, at least one
(01 R5, R10). -/
def Notice.recordsFit (nt : Notice) : Bool :=
  match nt.state with
  | .pending => nt.noRecords
  | .live => true
  | .withdrawing _ => !nt.noRecords && nt.carriedSet == 0#4

/-- The records of the notice in slot `i`, if there is one, fit its state. -/
def State.recordsFit (s : State) (i : Nat) : Bool :=
  match s.notice i with
  | some nt => nt.recordsFit
  | none => true

/-- The parameters of every class and the notice limits are within their ranges (01 R28, 03 R67). -/
abbrev State.LimitsSound (s : State) : Prop :=
  (∀ c : Ch, 2 ≤ (s.table.classes.get c).base ∧ (s.table.classes.get c).base ≤ 3600 ∧
      (s.table.classes.get c).settle ≤ 15) ∧
    1 ≤ s.table.withdrawCells ∧ s.table.withdrawCells ≤ 8 ∧
    60 ≤ s.table.lifetime ∧ s.table.lifetime ≤ 86400 ∧
    5 ≤ s.table.confirmSecs ∧ s.table.confirmSecs ≤ 300

/-- A stream holds an AIRING record for a notice exactly when it carries that notice (02 R45), and
the records of every notice fit its state (01 R5, R10). -/
abbrev State.Carrying (s : State) : Prop :=
  ∀ i < Config.slots, s.recordsFit i = true ∧ ∀ n : Ch, s.carriesRightly i n = true

/-! ### Location map and timed changes -/

/-- The location map has 32 entries, each with a first code not above its last and an area 0..15
(02 R34). -/
abbrev State.MapSound (s : State) : Prop :=
  s.map.ranges.length = 32 ∧
    ∀ e ∈ s.map.ranges, e.first ≤ e.last ∧ e.last ≤ 65535 ∧ e.area < 16

/-- There are eight timed-change entries, each with a target in the range of site seconds and a period
of 0 or 60..604,800 (05 R110). -/
abbrev State.TimedSound (s : State) : Prop :=
  s.store.timed.length = 8 ∧
    ∀ e ∈ s.store.timed, e.target ≤ 4294967295 ∧
      (e.period = 0 ∨ 60 ≤ e.period ∧ e.period ≤ 604800)

/-! ### Stream engines -/

/-- A run is in progress on a RUNNING stream only (03 R62, R63; 04 R94). -/
abbrev State.RunsSound (s : State) : Prop :=
  ∀ n : Ch, (s.stream n).run ≠ none → (s.stream n).state = .running

/-- A pending plan, if there is one, is valid. -/
def Stream.pendingValid (x : Stream) : Bool :=
  match x.pendingPlan with
  | some plan => planValid plan
  | none => true

/-- Every current and pending slot plan is valid (04 R84). -/
abbrev State.PlansValid (s : State) : Prop :=
  ∀ n : Ch, planValid (s.stream n).plan = true ∧ (s.stream n).pendingValid = true

/-- A stream that is started, or about to be, has a programme code and a current name; the current
variant is empty only when all four are (04 R91, 05 R101, R103). -/
abbrev State.Identified (s : State) : Prop :=
  ∀ n : Ch,
    (s.streamInUse n = true → (s.prog n).code ≠ 0#16 ∧ (s.prog n).currentNames ≠ none) ∧
      ((s.prog n).currentNames = none → (s.prog n).noNames = true)

/-! ### Announcement control -/

/-- The counters are 0 in every state other than the one that uses them (06 R118); without
carries-traffic the programme is QUIET, its link cue clear and its cue level low (06 R121). -/
abbrev State.AnnounceSound (s : State) : Prop :=
  ∀ p : Ch,
    ((s.ann p).state ≠ .leading → (s.ann p).leadCtr = 0) ∧
      ((s.ann p).state ≠ .hanging → (s.ann p).hangCtr = 0) ∧
      ((s.prog p).carries = false →
        (s.ann p).state = .quiet ∧ (s.ann p).linkCue = false ∧ (s.ann p).cueLevel = false) ∧
      (s.ann p).cueLevel = (s.ann p).cueTerm (s.prog p).carries

/-! ### Site time -/

/-- The tick number is the tick count modulo 20 (03 R52), the trims are in range, and the residue and
the tick length are within the bounds of 07 R141. -/
abbrev State.ClockSound (s : State) : Prop :=
  s.time.tickNumber = s.time.tickCount % Config.ticksPerSecond ∧
    -Config.maxTrim ≤ s.time.standing ∧ s.time.standing ≤ Config.maxTrim ∧
    -Config.maxTrim ≤ s.time.effectiveTrim ∧ s.time.effectiveTrim ≤ Config.maxTrim ∧
    -Config.residueUnit < s.time.residue ∧ s.time.residue < Config.residueUnit ∧
    614277 ≤ s.time.tickLength ∧ s.time.tickLength ≤ 614523 ∧
    s.time.seconds ≤ Config.maxSeconds

/-! ### Links and attention -/

/-- A held submit has streams remaining (01 R31). -/
def PortState.heldRemains (x : PortState) : Bool :=
  match x.held with
  | some h => h.remaining ≠ 0#4
  | none => true

/-- A frame in assembly has the length that its length byte gave it, 1..250 (09 R179). -/
def Assembly.fits (a : Assembly) : Bool :=
  match a with
  | .hunt | .length => true
  | .body left got => decide (1 ≤ left ∧ got.length + left ≤ 250)
  | .check bs _ => decide (1 ≤ bs.length ∧ bs.length ≤ 250)

/-- A held submit has streams remaining (01 R31), a frame waits only behind a response (09 R183), and a
frame in assembly is of 1..250 body bytes (09 R179). -/
abbrev State.PortsSound (s : State) : Prop :=
  ∀ p ∈ [Port.site, Port.traffic],
    (s.port p).heldRemains = true ∧ ((s.port p).waiting ≠ none → (s.port p).queue ≠ []) ∧
      (s.port p).asm.fits = true

/-- Kind `k` is pending. -/
def Attention.isPending (a : Attention) (k : Nat) : Bool := a.pendingKinds.getLsbD k

/-- The detail of a kind that is not pending is the empty set or 0 (10 R198). -/
abbrev State.AttentionSound (s : State) : Prop :=
  (s.attention.isPending 0 = false → s.attention.load = 0#4) ∧
    (s.attention.isPending 1 = false → s.attention.modulator = 0#4) ∧
    (s.attention.isPending 2 = false → s.attention.overrun = 0#4) ∧
    (s.attention.isPending 3 = false → s.attention.displaced = 0) ∧
    (s.attention.isPending 4 = false → s.attention.placement = 0) ∧
    (s.attention.isPending 5 = false → s.attention.timedSkipped = 0#4) ∧
    (s.attention.isPending 10 = false → s.attention.link = 0#2)

/-! ### The words that statements about commands are said in -/

/-- Port `p` takes a frame at once and holds no submit: PORN is released, its transmit queue is empty
(09 R183), its port state is IDLE (09 R188). -/
abbrev State.Ready (s : State) (p : Port) : Prop :=
  s.pornLow = false ∧ (s.port p).queue = [] ∧ (s.port p).held = none

/-- A response OK with results and no flag (09 R184). -/
def okay (code : Byte) (results : List Byte) : Response := ⟨code, .ok, RFlags.none, results, none⟩

/-- A response OK whose ADJUSTED flag is as given (09 R196). -/
def okayAdjusted (code : Byte) (flag : Bool) (results : List Byte) : Response :=
  ⟨code, .ok, { RFlags.none with adjusted := flag }, results, none⟩

/-- A response UNCHANGED with results and no flag (09 section 9.6). -/
def sameAlready (code : Byte) (results : List Byte) : Response :=
  ⟨code, .unchanged, RFlags.none, results, none⟩

/-- A refusal: a status, no flags, no results (09 R185). -/
def refusal (code : Byte) (st : Status) : Response := ⟨code, st, RFlags.none, [], none⟩

/-- A port whose held submit has been answered with `st`: its response, with the six bytes of
acceptance and the satisfied set, is last in the queue and the port is IDLE (01 R31, 09 R189). -/
def PortState.heldAnswered (x : PortState) (st : Status) : PortState :=
  match x.held with
  | none => x
  | some h =>
    { x with
      held := none
      queue := x.queue ++ [⟨0x10#8, st, h.flags, h.results ++ [fourByte h.satisfied], none⟩]
      txBaud := if x.queue = [] then x.baud else x.txBaud }

/-- A port after a submit held on the notice in slot `i` is SUPERSEDED (01 R32). -/
def PortState.withoutHold (i : Nat) (x : PortState) : PortState :=
  match x.held with
  | some h => if h.slot = i then x.heldAnswered .superseded else x
  | none => x

/-- The part after every submit held on the notice in slot `i` is SUPERSEDED (01 R32). -/
def State.holdsEnded (s : State) (i : Nat) : State :=
  { s with ports := ⟨s.ports.site.withoutHold i, s.ports.traffic.withoutHold i⟩ }

/-- The part after every run of the notice in slot `i` is cut (03 R62). -/
def State.runsEnded (s : State) (i : Nat) : State :=
  { s with streams := Four.tab fun n =>
      if s.inRun n i then { s.stream n with run := none } else s.stream n }

/-- The part with slot `i` given the content `x`, every hold on the slot ended and every run cut. -/
def State.replaced (s : State) (i : Nat) (x : Option Notice) : State :=
  ((s.holdsEnded i).runsEnded i).setSlot i x

/-- A record of a notice that begins withdrawal: in WITHDRAWAL mode with `w` cells, due now, if it was
in AIRING mode, and kept if it was not (01 R9). -/
def Record.withdrawn (w now : Nat) (r : Record) : Record :=
  if r.mode = .airing then { r with mode := .withdrawal w, due := now } else r

/-- What a notice that begins withdrawal becomes: FREE without records, otherwise WITHDRAWING from
`now` (01 R9). -/
def Notice.withdrawn (nt : Notice) (w now : Nat) : Option Notice :=
  if ∀ n, nt.record n = none then none
  else
    some { nt with
      state := .withdrawing now
      records := Four.tab fun n => (nt.record n).map (Record.withdrawn w now) }

/-- The part with nothing left outstanding of the work `w` (log entry 4). -/
def State.settled (s : State) (w : Work) : State := { s with due := s.due.filter fun v => v ≠ w }

/-- Every work that a boundary can have, for any slot, programme, stream and port. -/
def allWorks : List Work :=
  .trimExpiry :: .timedFire :: .minute :: .silence :: .markWatch :: .confirmLimit .site :: .confirmLimit .traffic ::
    ((List.range 96).map Work.noticeTest ++ (List.range 96).map Work.withdrawLimit ++
      [0, 1, 2, 3].map Work.stream ++ [0, 1, 2, 3].map Work.announce)

/-- Every work but those of `mine`: what a boundary leaves to later commands when it is to take the
works of `mine` alone (log entry 2). -/
def othersThan (mine : Work → Bool) : List Work := allWorks.filter fun w => !mine w

/-- A notice table's test of a slot at a second boundary. -/
def Work.isNoticeTest : Work → Bool
  | .noticeTest _ => true
  | _ => false

/-- A programme store's test of timed changes at a second boundary. -/
def Work.isTimedFire : Work → Bool
  | .timedFire => true
  | _ => false

/-- A notice table's test of a withdraw limit or of a confirm limit at a tick boundary. -/
def Work.isLimitTest : Work → Bool
  | .withdrawLimit _ | .confirmLimit _ => true
  | _ => false

/-- An entry of the timed changes after a test at `now`: one that fires is cleared if it is a one-shot,
and otherwise its target goes on to the first of its times that is later than `now`, or it is cleared
where that is too late (05 R112). -/
def TimedEntry.tested (e : TimedEntry) (now : Nat) : TimedEntry :=
  if e.inUse = true ∧ e.target ≤ now then
    let next := e.target + ((now - e.target) / e.period + 1) * e.period
    if e.period = 0 ∨ 4294967295 < next then { e with inUse := false }
    else { e with target := next }
  else e

/-- The entries of programme `p` that fire in a test at `now`, in ascending order (05 R112). -/
def State.reached (s : State) (p : Ch) (now : Nat) : List TimedEntry :=
  s.store.timed.filter fun e => e.inUse && decide (e.prog = p) && decide (e.target ≤ now)

/-- The variant that a test at `now` makes current on programme `p`: the one named by the
highest-numbered entry that fires with a variant that is not empty (05 R113). -/
def State.timedVariant (s : State) (p : Ch) (now : Nat) : Option Ch :=
  (s.reached p now).foldl
    (fun best e => if ((s.prog p).variants.get e.variant).isSome then some e.variant else best) none

/-- A test at `now` skips a timed change of programme `p`: one that fires names an empty variant
(05 R112). -/
def State.timedSkips (s : State) (p : Ch) (now : Nat) : Bool :=
  (s.reached p now).any fun e => ((s.prog p).variants.get e.variant).isNone

/-- A stream whose programme has had its current variant set, if it has: both segment counters return
to 0 (04 R87). -/
def Stream.renamed (x : Stream) (v : Option Ch) : Stream :=
  if v = none then x else { x with nameCtr := 0, longCtr := 0 }

/-- The attention unit after TIMED_SKIPPED for the programmes of a set, if there are any (05 R112). -/
def Attention.withSkipped (a : Attention) (set : FourSet) : Attention :=
  if set = 0#4 then a
  else { a with
    pendingKinds := a.pendingKinds ||| 0x020#11
    timedSkipped := a.timedSkipped ||| set }

/-- The plan current at a boundary of this tick number: at tick number 0 a pending plan has become the
current one (04 R89). -/
def Stream.planAt (x : Stream) (tick : Nat) : List Duty :=
  if tick = 0 then x.pendingPlan.getD x.plan else x.plan

/-- The plan left pending after a boundary of this tick number (04 R89). -/
def Stream.pendingAt (x : Stream) (tick : Nat) : Option (List Duty) :=
  if tick = 0 then none else x.pendingPlan

/-- The overcommit flag after a boundary of this tick number at which the load figure is `load`: it is
tested at tick number 0 alone (03 R73). -/
def overcommitAt (tick load : Nat) (old : Bool) : Bool :=
  if tick ≠ 0 then old else if 1000 < load then true else if load ≤ 900 then false else old

/-- The attention unit after a stream's work of one boundary: LOAD where the overcommit flag has been set,
and MODULATOR where the level found was another than the stored one (03 R73, 04 R95). -/
def Attention.withStream (a : Attention) (n : Ch) (loaded moved : Bool) : Attention :=
  { a with
    pendingKinds := a.pendingKinds ||| (if loaded then 0x001#11 else 0#11) |||
      (if moved then 0x002#11 else 0#11)
    load := if loaded then chInsert a.load n else a.load
    modulator := if moved then chInsert a.modulator n else a.modulator }

/-- The closing counter of programme `n` after its stream's cell in a slot of duty `d`: a REFER cell that
carries the flag clear counts it down to 0 at least (04 R82, 06 R134). -/
def State.closingAfter (s : State) (n : Ch) (d : Option Duty) : Nat :=
  match (s.prog n).target with
  | some y =>
    if d = some .refer ∧ (s.ann y).flag = false then (s.ann n).closing - 1 else (s.ann n).closing
  | none => (s.ann n).closing

/-- A slot of duty `d` on stream `n` goes to the arbiter: OPEN, LONGNAME without a long name, or REFER
without an active referral (03 R55, 06 R132). -/
abbrev State.arbitrated (s : State) (n : Ch) (d : Duty) : Prop :=
  d = .openSlot ∨
    (d = .longName ∧ ∀ x, (s.prog n).variants.get (s.prog n).current = some x → x.long = none) ∨
    (d = .refer ∧ ∀ y, (s.prog n).target = some y →
      (s.ann y).flag = false ∧ (s.ann n).closing = 0)

/-- Stream `n` holds the record `r` for the notice `nt` in slot `i`, due at tick count `now` (03 R52). -/
abbrev State.dueOn (s : State) (n : Ch) (now i : Nat) (nt : Notice) (r : Record) : Prop :=
  i < 96 ∧ s.notice i = some nt ∧ nt.record n = some r ∧ r.due ≤ now

/-- A submit held on `p` with stream `n` gone from its remaining set, satisfied or not: answered when
none remains, CONFIRMED if any stream was satisfied and CONFIRM_LATE if none was (01 R30, R31). -/
def PortState.heldLess (x : PortState) (h : Held) (n : Ch) (satisfied : Bool) : PortState :=
  let h' := { h with
    remaining := chErase h.remaining n
    satisfied := if satisfied then chInsert h.satisfied n else h.satisfied }
  if h'.remaining = 0#4 then
    PortState.heldAnswered { x with held := some h' }
      (if h'.satisfied = 0#4 then .confirmLate else .confirmed)
  else { x with held := some h' }

/-- A port after some streams have stopped airing the notice in a slot: those of `gone` leave the
remaining set of a submit held on the slot, not satisfied, and the submit is answered when none
remains (01 R30, R31). -/
def PortState.heldWithout (x : PortState) (gone : Nat → FourSet) : PortState :=
  match x.held with
  | none => x
  | some h =>
    let left := h.remaining &&& ~~~ gone h.slot
    if left = h.remaining then x
    else if left = 0#4 then
      x.heldAnswered (if h.satisfied = 0#4 then .confirmLate else .confirmed)
    else { x with held := some { h with remaining := left } }

/-- A stream whose run is cut if it is of a slot that `gone` names (03 R62). -/
def Stream.runWithout (x : Stream) (gone : Nat → Bool) : Stream :=
  match x.run with
  | some r => if gone r.slot then { x with run := none } else x
  | none => x

/-- A frame on port `p` discarded: what is held of it thrown away, the error tally increased and LINK
raised with the port (09 R180). -/
def State.frameLost (s : State) (p : Port) : State :=
  { s.setPort p { s.port p with
      asm := .hunt
      timer := 0
      errors := min 65535 ((s.port p).errors + 1) } with
    attention := { s.attention with
      pendingKinds := s.attention.pendingKinds ||| 0x400#11
      link := s.attention.link ||| portBit p } }

/-- The part with kind `k` pending at the attention unit (10 R199). -/
def State.withKind (s : State) (k : BitVec 11) : State :=
  { s with attention := { s.attention with pendingKinds := s.attention.pendingKinds ||| k } }

/-- The state after commands taken one after another; a command that stops leaves it. -/
def State.after (s : State) (cs : List Instr) : State :=
  cs.foldl (fun t c =>
    match exec c t with
    | .next u => u
    | .fault _ | .refused _ => t) s

/-- Stream `n` carries a LIVE notice with area set `areas` (02 R45). -/
abbrev State.onStream (s : State) (n : Ch) (areas : AreaSet) : Prop :=
  (s.prog n).carries = true ∧ (s.prog n).coverage &&& areas ≠ 0#16 ∧ (s.stream n).state ≠ .stopped

/-- A fresh airing record at tick count `now` (01 R5). -/
def freshAt (now : Nat) : Record := ⟨.airing, now, 0, 0, none⟩

/-- The record of stream `n` for a LIVE notice after its area set or the stream's coverage may have
changed: an AIRING record is kept where the stream still carries the notice and withdrawn where it
does not, and a stream that comes to carry it has a fresh one (02 R44, R46). -/
def State.recordFor (s : State) (n : Ch) (areas : AreaSet) (old : Option Record) : Option Record :=
  match old with
  | some r =>
    if r.mode = .airing then
      (if s.onStream n areas then some r
       else some (r.withdrawn s.table.withdrawCells s.time.tickCount))
    else if s.onStream n areas then some (freshAt s.time.tickCount) else some r
  | none => if s.onStream n areas then some (freshAt s.time.tickCount) else none

/-- A SUBMIT body with a value out of its range (01 R14). -/
abbrev SubmitOutOfRange (a : SubmitArgs) : Prop :=
  a.spare ≠ 0#3 ∨ a.number = 0#16 ∨ 15 < a.version.toNat ∨ 3 < a.urgency.toNat ∨
    a.event.toNat = 0 ∨ 4095 < a.event.toNat ∨ 7 < a.extent.toNat ∨ 1 < a.direction.toNat ∨
    a.areas = some 0#16 ∨
    (∃ x, a.advice = some x ∧ (x.1.toNat = 0 ∨ 4095 < x.1.toNat)) ∨ 2 < a.confirm.toNat

/-- The end that a SUBMIT gives its notice: the one it names, or now or a later start with the default
lifetime added, held at the largest site seconds (01 R16). -/
def State.submitEnd (s : State) (a : SubmitArgs) : Nat :=
  match a.endsAt with
  | some e => e.toNat
  | none =>
    min 4294967295 (max s.time.seconds ((a.startsAt.map BitVec.toNat).getD 0) + s.table.lifetime)

/-- A SUBMIT is STALE: its given end is not later than now, or its end is not later than its start
(01 R16). -/
abbrev State.submitStale (s : State) (a : SubmitArgs) : Prop :=
  (a.endsAt ≠ none ∧ s.submitEnd a ≤ s.time.seconds) ∨
    ∃ b, a.startsAt = some b ∧ s.submitEnd a ≤ b.toNat

/-- The area set of a SUBMIT: the one it gives, or the one derived from its location (01 R17). -/
def State.submitAreas (s : State) (a : SubmitArgs) : AreaSet :=
  match a.areas with
  | some v => v
  | none => s.map.derive a.location.toNat

/-- The notice that an accepted SUBMIT stores, with the given owner and airing records (01 R2, R14, R16
to R18, R20). -/
def State.submitted (s : State) (a : SubmitArgs) (u : Urgency) (owner : Port)
    (records : Four (Option Record)) : Notice :=
  { number := a.number.toNat
    version := a.version.toNat
    urgency := u
    event := a.event.toNat
    location := a.location.toNat
    extent := a.extent.toNat
    direction := a.direction.toNat
    areas := s.submitAreas a
    origin := if a.areas = none then .derived else .explicit
    stranded := false
    startsAt := a.startsAt.map BitVec.toNat
    endsAt := s.submitEnd a
    advice := a.advice.map fun x => (x.1.toNat, x.2.toNat)
    text := a.text.map fun t =>
      (t.map fun b => if 0x20 ≤ b.toNat ∧ b.toNat ≤ 0x7E then b else 0x3F#8).take 30
    owner := owner
    acceptedAt := s.time.seconds
    state := if s.time.seconds < (a.startsAt.map BitVec.toNat).getD 0 then .pending else .live
    records := records }

/-- The part after a SUBMIT is accepted: the response, or the hold of its port until the streams of
the target set confirm (01 R22, R29). -/
def State.submitDone (s : State) (p : Port) (i : Nat) (nt : Notice) (a : SubmitArgs) (st : Status)
    (displaced : Nat) : State :=
  let target := chSet fun n =>
    nt.airsOn n && ((s.stream n).state = .running || (s.stream n).state = .paused)
  let flags : RFlags :=
    { adjusted := false
      truncated := decide (30 < (a.text.getD []).length)
      replaced := (a.text.getD []).any fun b => decide (b.toNat < 0x20 ∨ 0x7E < b.toNat)
      uncarried := false }
  let results := [BitVec.ofNat 8 i, BitVec.ofNat 8 nt.state.code, BitVec.ofNat 8 nt.runLength,
    fourByte nt.carriedSet] ++ beBytes 2 displaced
  if a.confirm = 0#8 ∨ target = 0#4 then
    s.send p ⟨0x10#8, st, { flags with uncarried := decide (target = 0#4) }, results, none⟩
  else
    let held : Held :=
      { number := nt.number
        slot := i
        remaining := target
        satisfied := 0#4
        heardStream :=
          if a.confirm = 2#8 ∧ s.monitor.state ≠ .off ∧ chMem target s.monitor.watched then
            some s.monitor.watched
          else none
        limit := s.time.tickCount + s.table.confirmSecs * 20
        results := results
        flags := flags }
    s.setPort p { s.port p with held := some held }

/-- The announcement state after a rise of the cue level (06 R122, R125). -/
def AnnState.risen (st : AnnState) (lead : Nat) : AnnState :=
  match st with
  | .quiet => if lead = 0 then .onAir else .leading
  | .hanging => .onAir
  | .leading | .onAir | .barred => st

/-- The announcement state after a fall of the cue level (06 R123, R124, R127). -/
def AnnState.fallen (st : AnnState) (hangover : Nat) : AnnState :=
  match st with
  | .leading | .barred => .quiet
  | .onAir => if hangover = 0 then .quiet else .hanging
  | .quiet | .hanging => st

/-- What the notice in a slot becomes when site seconds are `s`'s, at a second boundary or a time
change (01 R6 to R8). -/
def State.tested (s : State) (nt : Notice) : Option Notice :=
  match nt.state with
  | .pending =>
    if nt.endsAt ≤ s.time.seconds then none
    else if nt.startsAt.getD 0 ≤ s.time.seconds then
      some { nt with
        state := .live
        records := Four.tab fun n =>
          if s.onStream n nt.areas then some (freshAt s.time.tickCount) else none }
    else some nt
  | .live =>
    if nt.endsAt ≤ s.time.seconds then nt.withdrawn s.table.withdrawCells s.time.tickCount
    else some nt
  | .withdrawing _ => some nt

/-! ### What the reading requests report -/

/-- A value that may be absent as it is sent: one byte of presence, and `k` bytes, 0 when it is absent
(09 R197). -/
def told? (k : Nat) (x : Option (List Byte)) : List Byte :=
  match x with
  | some bytes => 1#8 :: bytes
  | none => List.replicate (k + 1) 0#8

/-- A record's stream entry in QUERY NOTICE: 20 bytes, all 0 where there is no record (09 section 9.9). -/
def State.recordTold (s : State) (i : Nat) (n : Ch) (r : Option Record) : List Byte :=
  match r with
  | none => List.replicate 20 0#8
  | some r =>
    let running := (s.stream n).run.any fun run => decide (run.slot = i)
    let left := match r.mode with
      | .airing => 0
      | .withdrawal k => k
    [1#8, if r.mode = .airing then 0#8 else 1#8] ++ beBytes 6 r.due ++ beBytes 2 r.airings ++
      beBytes 2 r.heard ++ beBytes 6 (r.lastRunStart.getD 0) ++
      [BitVec.ofNat 8 left, flagByte running]

/-- What QUERY NOTICE reports of the notice in slot `i` (01 R26, 09 section 9.9). The presence byte has
start, advice and text at bits 1, 3 and 4, and the byte before it extent in the high four bits, both as in
SUBMIT's body (log entry 12). -/
def State.noticeTold (s : State) (i : Nat) (nt : Notice) : List Byte :=
  let presence : Nat := (if nt.startsAt = none then 0 else 2) + (if nt.advice = none then 0 else 8) +
    (if nt.text = none then 0 else 16)
  let text := nt.text.getD []
  [BitVec.ofNat 8 i] ++ beBytes 2 nt.number ++
    [BitVec.ofNat 8 nt.version, BitVec.ofNat 8 nt.urgency.rank] ++
    beBytes 2 nt.event ++ beBytes 2 nt.location ++
    [BitVec.ofNat 8 (16 * nt.extent + nt.direction), BitVec.ofNat 8 presence] ++ split2 nt.areas ++
    [if nt.origin = .derived then 1#8 else 0#8, flagByte nt.stranded] ++
    beBytes 4 (nt.startsAt.getD 0) ++ beBytes 4 nt.endsAt ++
    beBytes 2 ((nt.advice.map fun x => x.1).getD 0) ++
    [BitVec.ofNat 8 ((nt.advice.map fun x => x.2).getD 0),
      if nt.owner = .site then 0#8 else 1#8] ++
    beBytes 4 nt.acceptedAt ++ [BitVec.ofNat 8 nt.state.code] ++
    beBytes 6 (match nt.state with
      | .withdrawing w => w
      | .pending | .live => 0) ++
    [BitVec.ofNat 8 nt.runLength, BitVec.ofNat 8 text.length] ++ text ++
    s.recordTold i 0 (nt.record 0) ++ s.recordTold i 1 (nt.record 1) ++
    s.recordTold i 2 (nt.record 2) ++ s.recordTold i 3 (nt.record 3)

/-- What LIST NOTICES reports from slot `start` on: the occupied slots in ascending order, 24 at most, and
the slot to go on from (01 R27, 09 section 9.9). -/
def State.listTold (s : State) (start : Nat) : List Byte :=
  let used := (List.range 96).filter fun i => (s.notice i).isSome
  let found := used.filter fun i => decide (start ≤ i)
  let listed := found.take 24
  let next := if found.length ≤ 24 then 96 else (listed.getLast?.getD 0) + 1
  [BitVec.ofNat 8 used.length, BitVec.ofNat 8 listed.length, BitVec.ofNat 8 next] ++
    listed.flatMap fun i =>
      match s.notice i with
      | some nt => [BitVec.ofNat 8 i] ++ beBytes 2 nt.number ++
          [BitVec.ofNat 8 nt.state.code, BitVec.ofNat 8 nt.urgency.rank, BitVec.ofNat 8 nt.version]
      | none => []

/-- The AIRING records of stream `n`, with the slot and the notice of each, in slot order. -/
def State.airedOn (s : State) (n : Ch) : List (Nat × Notice × Record) :=
  (List.range 96).filterMap fun i => (s.notice i).bind fun nt => (nt.record n).bind fun r =>
    if r.mode = .airing then some (i, nt, r) else none

/-- The load figure: the sum of the demands of the AIRING records, each rounded up, divided by the OPEN
duties of the current plan, and held at 9,999 (03 R68, R71). -/
def State.loadFigure (s : State) (n : Ch) : Nat :=
  let demands := (s.airedOn n).map fun x =>
    let c := s.table.classes.get x.2.1.urgency.ix
    let doubled := if c.settle = 0 then 0 else min 3 (x.2.2.airings / c.settle)
    let seconds := min 3600 (c.base * 2 ^ doubled)
    (x.2.1.runLength * 1000 + seconds - 1) / seconds
  min 9999 (demands.sum / (s.stream n).plan.count .openSlot)

/-- What READ STREAM reports (04 R99, 03 R72, R74). A record is in the backlog as soon as its due is not
greater than the tick count (log entry 29); the order of the bytes is log entry 15's. -/
def State.streamTold (s : State) (n : Ch) : List Byte :=
  let x := s.stream n
  let codes (plan : List Duty) : List Byte := plan.map fun d => BitVec.ofNat 8 d.code
  let waiting := (s.airedOn n).filter fun r =>
    decide (r.2.2.due ≤ s.time.tickCount) && !x.run.any fun run => decide (run.slot = r.1)
  let withdrawing := (List.range 96).countP fun i =>
    (s.notice i).any fun nt => (nt.record n).any fun r => decide (r.mode ≠ .airing)
  [BitVec.ofNat 8 x.state.code, flagByte x.startPending, flagByte x.modLevel] ++ codes x.plan ++
    told? 20 (x.pendingPlan.map codes) ++ [BitVec.ofNat 8 (x.plan.count .openSlot)] ++
    beBytes 2 (s.loadFigure n) ++ [flagByte x.overcommit, BitVec.ofNat 8 waiting.length] ++
    beBytes 2 (min 65535 ((waiting.map fun r => s.time.tickCount - r.2.2.due).foldl max 0)) ++
    [BitVec.ofNat 8 (s.airedOn n).length, BitVec.ofNat 8 withdrawing] ++
    told? 11 (x.run.map fun run => beBytes 2 run.number ++
      [BitVec.ofNat 8 run.slot,
        BitVec.ofNat 8 (((s.notice run.slot).map Notice.runLength).getD 0),
        BitVec.ofNat 8 run.sent] ++ beBytes 6 run.head) ++
    [BitVec.ofNat 8 x.nameCtr, BitVec.ofNat 8 x.longCtr] ++ beBytes 6 s.time.tickCount ++
    [BitVec.ofNat 8 s.time.tickNumber]

/-- What READ PROGRAMME reports (05 R117); the order of the bytes is log entry 15's. -/
def State.programmeTold (s : State) (p : Ch) : List Byte :=
  let g := s.prog p
  let name (x : Option (List Byte)) : List Byte :=
    match x with
    | some cs => BitVec.ofNat 8 cs.length :: cs
    | none => [0#8]
  let variant (v : Option Names) : List Byte :=
    match v with
    | some x => name (some x.short) ++ name x.long
    | none => [0#8, 0#8]
  let listed := (List.range s.store.timed.length).filterMap fun j =>
    (s.store.timed[j]?).bind fun e => if e.inUse = true ∧ e.prog = p then some (j, e) else none
  split2 g.code ++ split2 g.coverage ++
    [flagByte g.carries, (g.target.map fun y => BitVec.ofNat 8 y.val).getD 0xFF#8,
      BitVec.ofNat 8 g.current.val] ++
    variant (g.variants.get 0) ++ variant (g.variants.get 1) ++ variant (g.variants.get 2) ++
    variant (g.variants.get 3) ++
    [BitVec.ofNat 8 (s.store.timed.countP fun e => !e.inUse), BitVec.ofNat 8 listed.length] ++
    listed.flatMap fun x => [BitVec.ofNat 8 x.1, BitVec.ofNat 8 x.2.variant.val] ++
      beBytes 4 x.2.target ++ beBytes 4 x.2.period

/-- What READ ANNOUNCEMENT reports (06 R140, R131, R132); the order of the bytes is log entry 15's. -/
def State.announcementTold (s : State) (p : Ch) : List Byte :=
  let a := s.ann p
  let g := s.prog p
  let flag (q : Ch) : Bool := decide ((s.ann q).state = .onAir ∨ (s.ann q).state = .hanging)
  let counts := decide (a.state = .onAir ∨ a.state = .hanging ∨ a.state = .barred)
  let elapsed := match a.bulletin with
    | some b => if counts then min 65535 (s.time.tickCount - b.count) else 0
    | none => 0
  [BitVec.ofNat 8 a.state.code, flagByte (flag p), BitVec.ofNat 8 a.source.code,
      BitVec.ofNat 8 a.lead, BitVec.ofNat 8 a.hangover] ++ beBytes 2 a.maxSecs ++
    [flagByte a.lineSample, flagByte a.lineLevel, flagByte a.linkCue, flagByte a.cueLevel,
      flagByte g.carries, BitVec.ofNat 8 a.leadCtr, BitVec.ofNat 8 a.hangCtr] ++
    told? 11 (a.bulletin.map fun b =>
      beBytes 4 b.seconds ++ [BitVec.ofNat 8 b.tick] ++ beBytes 6 b.count) ++
    beBytes 2 elapsed ++ beBytes 2 a.bulletins ++ beBytes 2 a.overruns ++
    [(g.target.map fun y => BitVec.ofNat 8 y.val).getD 0xFF#8,
      flagByte (g.target.any fun y => flag y || decide (0 < a.closing)),
      BitVec.ofNat 8 a.closing, flagByte (g.target.any flag)] ++ beBytes 6 s.time.tickCount

/-- What READ TIME reports (07 R157). A temporary trim with no duration left is absent (07 R144; log
entry 30); the order of the bytes is log entry 15's. -/
def State.timeTold (s : State) : List Byte :=
  let x := s.time
  let trim := x.temporary.filter fun y => decide (0 < y.2)
  beBytes 4 x.seconds ++ [flagByte x.isSet, BitVec.ofNat 8 x.tickNumber] ++ beBytes 6 x.tickCount ++
    beBytes 4 x.phase ++ beBytes 4 x.tickLength ++ intBytes 2 x.standing ++
    told? 4 (trim.map fun y => intBytes 2 y.1 ++ beBytes 2 y.2) ++
    intBytes 2 ((trim.map fun y => y.1).getD x.standing) ++ intBytes 4 x.residue ++
    intBytes 1 x.offset ++
    [BitVec.ofNat 8 x.watch.code, BitVec.ofNat 8 x.watchCtr, flagByte x.fresh]

/-- What READ MONITOR reports (08 R175); the order of the bytes is log entry 15's. -/
def State.monitorTold (s : State) : List Byte :=
  let m := s.monitor
  let k := m.last
  [BitVec.ofNat 8 m.state.code, flagByte (decide (m.state ≠ .off)), BitVec.ofNat 8 m.watched.val] ++
    split2 (s.prog m.watched).code ++
    [BitVec.ofNat 8 m.tolerance, BitVec.ofNat 8 m.runUp, BitVec.ofNat 8 m.faults,
      BitVec.ofNat 8 m.silence, flagByte m.silent] ++
    beBytes 2 k.own ++ beBytes 2 k.corrected ++ beBytes 2 k.headerFaults ++
    beBytes 2 k.checkFaults ++ beBytes 2 k.foreign ++ beBytes 2 k.matched ++ beBytes 2 k.stale ++
    beBytes 2 k.unknown ++ beBytes 2 k.statusMismatch ++ beBytes 2 k.nameMismatch ++
    told? 16 (m.span.map fun x => beBytes 6 x.start ++ beBytes 6 x.stop ++ beBytes 4 x.seconds) ++
    beBytes 6 m.holdingStart ++ beBytes 6 s.time.tickCount

end Sys2Proof.Machine
end

