-- ==== Sys2Proof/Certificates/Slice0/Obligations.lean ====
section
/-! DEFINITION. The statements for the provers: what the manual's numbered rules say the part does.
The word "next" of a title is the next state that a command answers. -/

open Sys2Proof Sys2Proof.Machine

/-! ### The queue, the reference and power -/

/-- A step runs the command at the front of the queue on the state with the queue's rest. On an empty
queue it is one cycle of the reference: none is counted while PORN is held low; the cycle that ends the
tick is a tick boundary with the lines last found and nothing left to later commands; any other takes the
works left outstanding, the phase goes up by one, and the silence timer of a port in assembly counts it and
discards the frame at 2,457,600 cycles (07 R142; 09 R180, R181).
What a step on an empty queue does is the model's choice (log entries 1, 3). -/
def Obligations.StepRunsTheFrontCommand : Prop :=
  (∀ (c : Instr) (rest : List Instr) (s : State), s.pending = c :: rest →
    step s = exec c { s with pending := rest }) ∧
  ∀ s : State, s.pending = [] →
    (s.pornLow = true → step s = .next s) ∧
    (s.pornLow = false → s.time.tickLength ≤ s.time.phase + 1 →
      step s = exec (.tickBoundary ⟨s.cuePins, s.mrdyPins⟩ []) s) ∧
    (s.pornLow = false → s.time.phase + 1 < s.time.tickLength →
      let r := s.flushDue
      let ends (p : Port) : Bool :=
        decide ((r.port p).asm ≠ .hunt ∧ 2457600 ≤ (r.port p).timer + 1)
      (s.due = [] → r = s) ∧
      ∃ t, step s = .next t ∧ t.time = { r.time with phase := s.time.phase + 1 } ∧
        (∀ p, t.port p =
          (if (r.port p).asm = .hunt then r.port p
           else if ends p then
             { r.port p with
               asm := .hunt
               timer := 0
               errors := min 65535 ((r.port p).errors + 1) }
           else { r.port p with timer := (r.port p).timer + 1 })) ∧
        t.attention = { r.attention with
          pendingKinds := r.attention.pendingKinds |||
            if ends .site || ends .traffic then 0x400#11 else 0#11
          link := r.attention.link ||| (if ends .site then 1#2 else 0#2) |||
            (if ends .traffic then 2#2 else 0#2) } ∧
        t = { r with time := t.time, ports := t.ports, attention := t.attention })

/-- Every command answers a next state, with the queue as it was: no command faults, none is
refused. -/
def Obligations.EveryCommandAnswersANextState : Prop :=
  ∀ (c : Instr) (s : State), ∃ t, exec c s = .next t ∧ t.pending = s.pending

/-- PORN held low: the outputs are low, STX and TTX stand at the stop level, ATTN is released, and no
command but POWER_ON is taken (04 R98, 09 R178, 10 R200; that nothing is taken is read from 07 R142 and
09 R178, log entry 16). -/
def Obligations.PornHeldLowStopsThePart : Prop :=
  (∀ s : State, exec .pornHeldLow s = .next { s with pornLow := true }) ∧
    ∀ s : State, s.pornLow = true →
      (∀ n, s.dataOut n = false) ∧ s.bitClock = false ∧ s.attnLow = false ∧
        (∀ p k, s.serialOut p k = true) ∧
        ∀ c : Instr, (∀ lines, c ≠ .powerOn lines) → exec c s = .next s

/-- The release of PORN puts every block at its power-on state and begins tick 0: nothing of the old
state is left but the queue of commands; the modulator levels are as found and the cue lines have
been sampled once (04 R90, 06 R119, 07 R142). -/
def Obligations.PowerOnPutsEveryBlockAtItsResetState : Prop :=
  ∀ (lines : Lines) (s : State),
    exec (.powerOn lines) s = .next { State.reset with
      pending := s.pending
      cuePins := lines.cue
      mrdyPins := lines.mrdy
      streams := Four.tab fun n => Stream.reset (lines.mrdy.getLsbD n.val)
      announce := Four.tab fun p =>
        { Announce.reset with lineSample := !lines.cue.getLsbD p.val } }

/-! ### Tick boundaries -/

/-- A tick boundary: tick count, tick number, phase, the length of the tick that begins and the residue
(07 R142, R143), and site seconds (07 R147). The works left outstanding by the boundary before are taken
first (log entry 3). SECOND_BOUNDARY is the tick boundary that ends tick number 19, and at any other tick
nothing (log entry 5); at a whole minute the monitor's holding tallies become those of the last minute
(08 R173), unless that work is left to a later boundary. With nothing left to later commands, a temporary
trim's duration counts down and at 0 the trim is absent (07 R144), the mark watch counts, and is LOST at 60
with MARK_LOST (07 R155), and the silence counter counts, and at 100 begins a silence with SILENT
(08 R172). -/
def Obligations.ABoundaryAdvancesSiteTime : Prop :=
  (∀ (lines : Lines) (later : List Work) (s : State), s.pornLow = false → s.ClockSound →
    ∃ t, exec (.tickBoundary lines later) s = .next t ∧
      t.time.tickCount = s.time.tickCount + 1 ∧
      t.time.tickNumber = (s.time.tickNumber + 1) % 20 ∧
      t.time.phase = 0 ∧
      (let trim := match s.time.temporary with
        | some (v, _ + 1) => v
        | _ => s.time.standing
       let raised := s.time.residue + trim * 614400
       let k := Int.tdiv raised 100000000
       (t.time.tickLength : Int) = 614400 - k ∧ t.time.residue = raised - k * 100000000) ∧
      t.time.seconds =
        (if s.time.tickNumber = 19 then min 4294967295 (s.time.seconds + 1) else s.time.seconds) ∧
      t.cuePins = lines.cue ∧ t.mrdyPins = lines.mrdy) ∧
  (∀ (lines : Lines) (later : List Work) (s : State), s.pornLow = false → s.ClockSound →
    (s.time.tickNumber < 19 → exec (.secondBoundary lines later) s = .next s) ∧
    (s.time.tickNumber = 19 →
      ∃ t, exec (.secondBoundary lines later) s = .next t ∧
        exec (.tickBoundary lines later) s = .next t ∧
        t.time.tickNumber = 0 ∧ t.time.seconds = min 4294967295 (s.time.seconds + 1) ∧
        (t.time.seconds % 60 = 0 → Work.minute ∉ later →
          t.monitor.last = s.flushDue.monitor.holding ∧ t.monitor.holding = Tallies.zero ∧
            t.monitor.holdingStart = t.time.tickCount ∧
            t.monitor.span =
              some ⟨s.flushDue.monitor.holdingStart, t.time.tickCount, t.time.seconds⟩))) ∧
  ∀ (lines : Lines) (s : State), s.pornLow = false →
    let r := s.flushDue
    ∃ t, exec (.tickBoundary lines []) s = .next t ∧
      t.time.temporary = (match s.time.temporary with
        | some (v, k + 2) => some (v, k + 1)
        | _ => none) ∧
      (r.time.watch ≠ .watching →
        t.time.watch = r.time.watch ∧ t.time.watchCtr = r.time.watchCtr) ∧
      (r.time.watch = .watching →
        (r.time.watchCtr < 59 →
          t.time.watch = .watching ∧ t.time.watchCtr = r.time.watchCtr + 1) ∧
        (59 ≤ r.time.watchCtr → t.time.watch = .lost ∧ t.time.watchCtr = 60 ∧
          t.attention.isPending 9 = true)) ∧
      (r.monitor.state = .off ∨ r.monitor.silent = true ∧ 99 ≤ r.monitor.silence →
        t.monitor.silence = r.monitor.silence ∧ t.monitor.silent = r.monitor.silent) ∧
      (r.monitor.state ≠ .off → r.monitor.silence < 99 →
        t.monitor.silence = r.monitor.silence + 1 ∧ t.monitor.silent = r.monitor.silent) ∧
      (r.monitor.state ≠ .off → r.monitor.silent = false → 99 ≤ r.monitor.silence →
        t.monitor.silence = 100 ∧ t.monitor.silent = true ∧ t.attention.isPending 7 = true)

/-- After a tick boundary with nothing left to later commands no stream is STOPPING, every stored modulator
level is the line's, a RUNNING stream sends a cell under its programme's code, and the output of any other
is low (04 R75, R94 to R96, R98; 01 R10). Taken alone, the work of a started stream sends the cell that the
duty gives: STATUS, or TIME at a minute's tick 0 once the time is set; the NAME and LONGNAME segment of its
counter, which goes on; REFER while a referral is active, the flag clear counting the closing counter down;
and in a slot that goes to the arbiter the next cell of the run, then the earliest due WITHDRAWAL record,
which counts down, is due 40 ticks on and is removed at 0, then the HEAD of the earliest due AIRING record,
then FILL (03 R55, R56, R58 to R60, R65; 04 R79 to R82, R85 to R87, R89; 06 R134). A data output carries
the bit of its cell that the bit period in progress names, and a bit clock is low for the first 3,200
cycles of a bit period (04 R97, R98). Works left outstanding are log entry 3; that a boundary can take one
work alone is log entry 2. -/
def Obligations.ATickBoundarySendsACellOnEveryRunningStream : Prop :=
  (∀ (lines : Lines) (s : State), s.pornLow = false →
    ∃ t, exec (.tickBoundary lines []) s = .next t ∧ t.due = [] ∧
      ∀ n, (t.stream n).state ≠ .stopping ∧ (t.stream n).modLevel = lines.mrdy.getLsbD n.val ∧
        ((t.stream n).state = .running → lines.mrdy.getLsbD n.val = true ∧
          ∃ k v, (t.stream n).cell = some (formCell (s.prog n).code k v)) ∧
        ((t.stream n).state ≠ .running → (t.stream n).cell = none)) ∧
  (∀ (n : Ch) (lines : Lines) (s : State), s.pornLow = false →
    let r := s.flushDue
    let x := r.stream n
    let g := r.prog n
    let names := g.variants.get g.current
    (x.state = .running ∨ x.state = .paused) → lines.mrdy.getLsbD n.val = true →
    ∃ t, exec (.tickBoundary lines (othersThan (· = .stream n))) s = .next t ∧
      let tick := t.time.tickNumber
      let now := t.time.tickCount
      let sends (k : Kind) (v : BitVec 48) := (t.stream n).cell = some (formCell g.code k v)
      let kept := t.table = r.table ∧ (t.stream n).run = x.run
      (t.stream n).state = .running ∧ (t.stream n).plan = x.planAt tick ∧
      (t.stream n).pendingPlan = x.pendingAt tick ∧
      t.announce =
        r.announce.set n { r.ann n with closing := r.closingAfter n (x.planAt tick)[tick]? } ∧
      (∀ m, m ≠ n → t.stream m = r.stream m) ∧ t.map = r.map ∧ t.store = r.store ∧
      t.monitor = r.monitor ∧
      ∀ d, (x.planAt tick)[tick]? = some d →
        (d ≠ .name → (t.stream n).nameCtr = x.nameCtr) ∧
        (d ≠ .longName ∨ r.arbitrated n d → (t.stream n).longCtr = x.longCtr) ∧
        (d = .status → kept ∧
          if tick = 0 ∧ r.time.isSet = true ∧ t.time.seconds % 60 = 0 then
            sends .time (BitVec.ofNat 16 (t.time.seconds / 86400) ++
              BitVec.ofNat 11 (t.time.seconds % 86400 / 60) ++ BitVec.ofBool (r.time.offset < 0) ++
              BitVec.ofNat 5 r.time.offset.natAbs ++ 0#15)
          else
            sends .status (BitVec.ofBool g.carries ++ BitVec.ofBool (r.ann n).flag ++
              BitVec.ofBool (decide (∃ y, g.target = some y ∧
                ((r.ann y).flag = true ∨ 0 < (r.ann n).closing))) ++
              BitVec.ofBool r.time.isSet ++ BitVec.ofNat 2 g.current.val ++ 0#2 ++ g.coverage ++
              BitVec.ofNat 8 ((List.range 96).countP fun i =>
                (r.notice i).any fun nt => nt.airsOn n) ++ 0#16)) ∧
        (d = .name → ∀ y, names = some y → kept ∧
          sends .name (BitVec.ofNat 1 x.nameCtr ++ 0#7 ++ chars4 y.short (4 * x.nameCtr) ++ 0#8) ∧
          (t.stream n).nameCtr = 1 - x.nameCtr) ∧
        (d = .longName → ∀ y long, names = some y → y.long = some long → kept ∧
          let count := (long.length + 3) / 4
          sends .longName (BitVec.ofNat 3 x.longCtr ++ BitVec.ofNat 3 count ++ 0#2 ++
            chars4 long (4 * x.longCtr) ++ 0#8) ∧
          (t.stream n).longCtr = (if x.longCtr + 1 < count then x.longCtr + 1 else 0)) ∧
        (d = .refer → ∀ y, g.target = some y →
          ((r.ann y).flag = true ∨ 0 < (r.ann n).closing) → kept ∧
          sends .refer ((r.prog y).code ++ BitVec.ofBool (r.ann y).flag ++
            BitVec.ofBool (r.prog y).carries ++ 0#30)) ∧
        (r.arbitrated n d →
          (∀ run nt, x.run = some run → r.notice run.slot = some nt →
            sends (runCell nt run.sent).1 (runCell nt run.sent).2 ∧
            (run.sent + 1 < nt.runLength → t.table = r.table ∧
              (t.stream n).run = some { run with sent := run.sent + 1 })) ∧
          (x.run = none →
            (∀ i nt rec left, r.dueOn n now i nt rec → rec.mode = .withdrawal left →
              (∀ j nt' rec' left', j ≠ i → r.dueOn n now j nt' rec' →
                rec'.mode = .withdrawal left' →
                rec.due < rec'.due ∨ rec.due = rec'.due ∧ nt.number < nt'.number) →
              sends .withdraw (BitVec.ofNat 16 nt.number ++ BitVec.ofNat 4 nt.version ++ 0#28) ∧
              (t.stream n).run = none ∧ (∀ j, j ≠ i → t.notice j = r.notice j) ∧
              t.notice i =
                (if 1 < left then
                  some (nt.withRecord n (some { rec with
                    mode := .withdrawal (left - 1)
                    due := now + 40 }))
                else if nt.withdrawStart ≠ none ∧ ∀ m, m ≠ n → nt.record m = none then none
                else some (nt.withRecord n none))) ∧
            ((∀ i nt rec left, r.dueOn n now i nt rec → rec.mode ≠ .withdrawal left) →
              t.table = r.table ∧
              (∀ i nt rec, r.dueOn n now i nt rec → rec.mode = .airing →
                (∀ j nt' rec', j ≠ i → r.dueOn n now j nt' rec' →
                  rec.due < rec'.due ∨ rec.due = rec'.due ∧
                    (nt.urgency.rank < nt'.urgency.rank ∨
                      nt.urgency.rank = nt'.urgency.rank ∧ nt.number < nt'.number)) →
                sends .head (headPayload nt) ∧
                  (t.stream n).run = some ⟨nt.number, i, 1, now⟩) ∧
              ((∀ i nt rec, ¬ r.dueOn n now i nt rec) →
                sends .fill 0#48 ∧ (t.stream n).run = none))))) ∧
  ∀ (n : Ch) (k : Nat) (s : State), s.pornLow = false → k < 96 → 6400 * k ≤ s.time.phase →
    (s.time.phase < 6400 * (k + 1) ∨ k = 95) →
    s.bitClock = decide (6400 * k + 3200 ≤ s.time.phase) ∧
      (∀ c, (s.stream n).cell = some c → s.dataOut n = c.getLsbD (95 - k)) ∧
      ((s.stream n).cell = none → s.dataOut n = false)

/-- What a tick boundary leaves as it was, whichever of its works it takes, of what it lists: the class
parameters and the notice limits; the location map; of a programme all but its current variant; the cue
source, lead, hangover, maximum duration and link cue; the standing trim, the local offset, the set flag,
the mark capture with its fresh flag and edge count; the watched programme, the tolerance and the state of
the monitor; the baud codes, the waiting frames and the stray marks; the attention mask.
Not listed are what requests set and a tick boundary may change: the notices themselves, the slot plans
(04 R89), the start-pending mark (04 R92), the timed changes (05 R112), the temporary trim (07 R144) and
the mark watch (07 R155). -/
def Obligations.ATickBoundaryKeepsTheSettingsListed : Prop :=
  ∀ (lines : Lines) (later : List Work) (s : State), s.pornLow = false →
    ∃ t, exec (.tickBoundary lines later) s = .next t ∧
      (∃ slots, t.table = { s.table with slots := slots }) ∧ t.map = s.map ∧
      (∀ p, ∃ v, t.prog p = { s.prog p with current := v }) ∧
      (∀ p, (t.ann p).source = (s.ann p).source ∧ (t.ann p).lead = (s.ann p).lead ∧
        (t.ann p).hangover = (s.ann p).hangover ∧ (t.ann p).maxSecs = (s.ann p).maxSecs ∧
        (t.ann p).linkCue = (s.ann p).linkCue) ∧
      t.time.standing = s.time.standing ∧ t.time.offset = s.time.offset ∧
      t.time.isSet = s.time.isSet ∧ t.time.capture = s.time.capture ∧
      t.time.fresh = s.time.fresh ∧ t.time.edges = s.time.edges ∧
      t.monitor.watched = s.monitor.watched ∧ t.monitor.tolerance = s.monitor.tolerance ∧
      t.monitor.state = s.monitor.state ∧
      (∀ p, (t.port p).baud = (s.port p).baud ∧ (t.port p).waiting = (s.port p).waiting ∧
        (t.port p).stray = (s.port p).stray) ∧
      t.attention.mask = s.attention.mask

/-- TEMPORARY_TRIM_EXPIRY: a temporary trim with no duration left becomes absent (07 R144). WITHDRAW_LIMIT:
at 2,400 ticks from its withdraw start a WITHDRAWING notice is FREE, its records with it (01 R11).
CONFIRM_LIMIT: at its limit tick a held submit is answered CONFIRM_LATE and the port is IDLE (01 R31).
None of them changes anything else, or acts before. At every tick boundary both limits are tested
against the new tick count, and with nothing left to later commands no WITHDRAWING notice is left at its
limit and no held submit at its own (01 R11, R31; 07 R142).
That a boundary can take some works alone is the model's choice (log entry 2), and so are that these rows
act by their condition (log entry 4) and the field in which a trim with no duration left stands, absent to
every reader, until the row empties it (log entry 30). -/
def Obligations.TrimsWithdrawalsAndHoldsEndAtTheirLimits : Prop :=
  (∀ (v : Int) (s : State), s.pornLow = false →
    (s.time.temporary = some (v, 0) →
      exec .temporaryTrimExpiry s =
        .next { s.settled .trimExpiry with time := { s.time with temporary := none } }) ∧
    (∀ k, s.time.temporary = some (v, k + 1) → exec .temporaryTrimExpiry s = .next s) ∧
    (s.time.temporary = none → exec .temporaryTrimExpiry s = .next s)) ∧
  ((∀ (i w : Nat) (nt : Notice) (s : State), s.pornLow = false → s.notice i = some nt →
    nt.state = .withdrawing w →
    (w + 2400 ≤ s.time.tickCount →
      exec (.withdrawLimit i) s =
        .next (((s.settled (.withdrawLimit i)).runsEnded i).setSlot i none)) ∧
    (s.time.tickCount < w + 2400 → exec (.withdrawLimit i) s = .next s)) ∧
  ∀ (p : Port) (h : Held) (s : State), s.pornLow = false → (s.port p).held = some h →
    (h.limit ≤ s.time.tickCount →
      exec (.confirmLimit p) s = .next
        ((s.settled (.confirmLimit p)).setPort p ((s.port p).heldAnswered .confirmLate))) ∧
    (s.time.tickCount < h.limit → exec (.confirmLimit p) s = .next s)) ∧
  (∀ (lines : Lines) (s : State), s.pornLow = false → s.TableSound →
    let r := s.flushDue
    ∃ t, exec (.tickBoundary lines (othersThan Work.isLimitTest)) s = .next t ∧
      t.time.tickCount = s.time.tickCount + 1 ∧
      let ended (i : Nat) : Bool := (r.notice i).any fun nt =>
        nt.withdrawStart.any fun w => decide (w + 2400 ≤ t.time.tickCount)
      let late (q : Port) : Bool := (r.port q).held.any fun h => decide (h.limit ≤ t.time.tickCount)
      (∀ i, t.notice i = if ended i then none else r.notice i) ∧
      t.table = { r.table with slots := t.table.slots } ∧
      (∀ n, t.stream n = (r.stream n).runWithout ended) ∧
      (∀ q, (t.port q).held = (if late q then none else (r.port q).held) ∧
        (t.port q).queue =
          (if late q then ((r.port q).heldAnswered .confirmLate).queue else (r.port q).queue)) ∧
      t.map = r.map ∧ t.store = r.store ∧ t.announce = r.announce ∧ t.monitor = r.monitor) ∧
  ∀ (lines : Lines) (s : State), s.pornLow = false → s.TableSound →
    ∃ t, exec (.tickBoundary lines []) s = .next t ∧
      (∀ i nt w, t.notice i = some nt → nt.state = .withdrawing w →
        t.time.tickCount < w + 2400) ∧
      ∀ p h, (t.port p).held = some h → t.time.tickCount < h.limit

/-! ### Single events of a boundary: the notice table and the programme store -/

/-- NOTICE_START on a PENDING notice: FREE if its end has been reached; LIVE with a fresh record on each
stream that carries it if its start has; otherwise PENDING still (01 R6). NOTICE_EXPIRY on a LIVE notice
whose end has been reached: it begins withdrawal, its runs are cut and its held submits are SUPERSEDED
(01 R7, R9). Nothing else changes. Neither does anything unless the slot's test at a second boundary is
outstanding.
At a second boundary, by TICK_BOUNDARY at tick number 19 or by SECOND_BOUNDARY, every notice is so tested
against the new site seconds, and with nothing left to later commands no PENDING notice is left whose start
or end has been reached, nor a LIVE one whose end has (01 R6, R7; 07 R147).
That a test can be left outstanding for its row, and that a boundary can take some works alone, are the
model's choices (log entries 2, 3, 4). -/
def Obligations.NoticesStartAndExpire : Prop :=
  (∀ (i : Nat) (s : State), s.pornLow = false → Work.noticeTest i ∉ s.due →
    exec (.noticeStart i) s = .next s ∧ exec (.noticeExpiry i) s = .next s) ∧
  (∀ (i : Nat) (nt : Notice) (s : State), s.pornLow = false → Work.noticeTest i ∈ s.due →
    s.notice i = some nt → nt.state = .pending →
    (nt.endsAt ≤ s.time.seconds →
      exec (.noticeStart i) s = .next ((s.settled (.noticeTest i)).setSlot i none)) ∧
    (s.time.seconds < nt.endsAt → nt.startsAt.getD 0 ≤ s.time.seconds →
      exec (.noticeStart i) s = .next ((s.settled (.noticeTest i)).setSlot i (some { nt with
        state := .live
        records := Four.tab fun n =>
          if (s.stream n).state ≠ .stopped ∧ (s.prog n).carries = true ∧
              (s.prog n).coverage &&& nt.areas ≠ 0#16 then
            some ⟨.airing, s.time.tickCount, 0, 0, none⟩
          else none }))) ∧
    (s.time.seconds < nt.endsAt → s.time.seconds < nt.startsAt.getD 0 →
      exec (.noticeStart i) s = .next s)) ∧
  (∀ (i : Nat) (nt : Notice) (s : State), s.pornLow = false → Work.noticeTest i ∈ s.due →
    s.notice i = some nt → nt.state = .live →
    (nt.endsAt ≤ s.time.seconds →
      exec (.noticeExpiry i) s = .next
        ((s.settled (.noticeTest i)).replaced i
          (nt.withdrawn s.table.withdrawCells s.time.tickCount))) ∧
    (s.time.seconds < nt.endsAt → exec (.noticeExpiry i) s = .next s)) ∧
  (∀ (lines : Lines) (s : State), s.pornLow = false → s.TableSound → s.time.tickNumber = 19 →
    let r := s.flushDue
    let later := othersThan Work.isNoticeTest
    ∃ t, exec (.tickBoundary lines later) s = .next t ∧
      exec (.secondBoundary lines later) s = .next t ∧
      t.time.seconds = min 4294967295 (s.time.seconds + 1) ∧
      let ended (i : Nat) : Bool := (r.notice i).any fun nt =>
        decide (nt.state = .live ∧ nt.endsAt ≤ t.time.seconds)
      (∀ i, t.notice i = (r.notice i).bind (r.setTime t.time).tested) ∧
      t.table = { r.table with slots := t.table.slots } ∧
      (∀ n, t.stream n = (r.stream n).runWithout ended) ∧
      (∀ q, (t.port q).held = (r.port q).held.filter fun h => !ended h.slot) ∧
      t.map = r.map ∧ t.store = r.store ∧ t.announce = r.announce ∧ t.monitor = r.monitor) ∧
  ∀ (lines : Lines) (s : State), s.pornLow = false → s.TableSound → s.time.tickNumber = 19 →
    ∃ t, exec (.tickBoundary lines []) s = .next t ∧ exec (.secondBoundary lines []) s = .next t ∧
      ∀ i nt, t.notice i = some nt →
        (nt.state = .pending →
          t.time.seconds < nt.startsAt.getD 0 ∧ t.time.seconds < nt.endsAt) ∧
        (nt.state = .live → t.time.seconds < nt.endsAt)

/-- TIMED_CHANGE_FIRE of an entry in use whose target has been reached, when the store's test of a second
boundary is outstanding: every entry so reached, as the entries stand, is cleared, or advanced by its period
past now, and cleared where that is too late; a programme's current variant becomes that of the
highest-numbered of its reached entries whose variant is not empty, with a name event, and stays if there is
none; TIMED_SKIPPED, and no other kind, is raised for the programmes of those with an empty variant
(05 R112 to R114). With no such test outstanding, or no such entry, nothing changes: an entry written with a
target already past waits for the next second boundary or time change (05 R111).
At a second boundary, by TICK_BOUNDARY at tick number 19 or by SECOND_BOUNDARY, the entries are so tested
against the new site seconds, and with nothing left to later commands no entry in use is left whose target
has been reached (05 R112; 07 R147).
That the test can be left outstanding for the row, which then takes the whole of it, and that a boundary can
take some works alone, are the model's choices (log entries 2, 3, 4). -/
def Obligations.TimedChangesFire : Prop :=
  (∀ (k : Nat) (s : State), s.pornLow = false →
    (Work.timedFire ∈ s.due →
      ∀ e, s.store.timed[k]? = some e → e.inUse = true → s.time.seconds < e.target) →
    exec (.timedChangeFire k) s = .next s) ∧
  (∀ (k : Nat) (e : TimedEntry) (s : State), s.pornLow = false → s.store.timed[k]? = some e →
    Work.timedFire ∈ s.due → e.inUse = true → e.target ≤ s.time.seconds →
    ∃ t, exec (.timedChangeFire k) s = .next t ∧
      (∀ (j : Nat) (f : TimedEntry), s.store.timed[j]? = some f →
        ∃ g, t.store.timed[j]? = some g ∧
          (if f.inUse = true ∧ f.target ≤ s.time.seconds then
            g.prog = f.prog ∧ g.variant = f.variant ∧ g.period = f.period ∧
              (g.inUse = true → 0 < f.period ∧ s.time.seconds < g.target ∧
                g.target ≤ s.time.seconds + f.period ∧ g.target ≤ 4294967295 ∧
                (g.target - f.target) % f.period = 0) ∧
              (g.inUse = false → g.target = f.target ∧ (f.period = 0 ∨
                4294967295 < s.time.seconds + f.period)) ∧
              (let next := f.target + ((s.time.seconds - f.target) / f.period + 1) * f.period
               f.period ≠ 0 → next ≤ 4294967295 → g.inUse = true ∧ g.target = next)
          else g = f)) ∧
      (∀ (j : Nat) (f : TimedEntry), s.store.timed[j]? = some f → f.inUse = true →
        f.target ≤ s.time.seconds →
        ((s.prog f.prog).variants.get f.variant = none →
          t.attention.isPending 5 = true ∧ chMem t.attention.timedSkipped f.prog = true) ∧
        ((s.prog f.prog).variants.get f.variant ≠ none →
          (∀ (j' : Nat) (f' : TimedEntry), j < j' → s.store.timed[j']? = some f' →
            f'.inUse = true → f'.target ≤ s.time.seconds → f'.prog = f.prog →
            (s.prog f.prog).variants.get f'.variant = none) →
          (t.prog f.prog).current = f.variant ∧ (t.stream f.prog).nameCtr = 0 ∧
            (t.stream f.prog).longCtr = 0)) ∧
      (∀ p : Ch, (∀ (j : Nat) (f : TimedEntry), s.store.timed[j]? = some f → f.inUse = true →
        f.target ≤ s.time.seconds → f.prog = p → (s.prog p).variants.get f.variant = none) →
        t.prog p = s.prog p ∧ t.stream p = s.stream p) ∧
      (∀ p, ∃ v, t.prog p = { s.prog p with current := v }) ∧
      (∀ n, ∃ a b, t.stream n = { s.stream n with nameCtr := a, longCtr := b }) ∧
      t.table = s.table ∧ t.map = s.map ∧ t.announce = s.announce ∧ t.time = s.time ∧
      t.monitor = s.monitor ∧ t.ports = s.ports ∧ t.due = (s.settled .timedFire).due ∧
      t.attention = s.attention.withSkipped (chSet (s.timedSkips · s.time.seconds))) ∧
  (∀ (lines : Lines) (s : State), s.pornLow = false → s.time.tickNumber = 19 →
    let r := s.flushDue
    let later := othersThan Work.isTimedFire
    ∃ t, exec (.tickBoundary lines later) s = .next t ∧
      exec (.secondBoundary lines later) s = .next t ∧
      t.time.seconds = min 4294967295 (s.time.seconds + 1) ∧
      t.store.timed = r.store.timed.map (fun e => e.tested t.time.seconds) ∧
      (∀ p, t.prog p = { r.prog p with
        current := (r.timedVariant p t.time.seconds).getD (r.prog p).current }) ∧
      (∀ n, t.stream n = (r.stream n).renamed (r.timedVariant n t.time.seconds)) ∧
      t.attention.timedSkipped =
        r.attention.timedSkipped ||| chSet (r.timedSkips · t.time.seconds) ∧
      t.table = r.table ∧ t.map = r.map ∧ t.announce = r.announce ∧ t.monitor = r.monitor) ∧
  ∀ (lines : Lines) (s : State), s.pornLow = false → s.time.tickNumber = 19 →
    ∃ t, exec (.tickBoundary lines []) s = .next t ∧ exec (.secondBoundary lines []) s = .next t ∧
      ∀ e ∈ t.store.timed, e.inUse = true → t.time.seconds < e.target

/-! ### Single events of a boundary: the stream engines -/

/-- START_TAKEN: a pending start makes a STOPPED stream RUNNING, or PAUSED on a line found low, with a
fresh record for each LIVE notice its programme carries, its counters at 0 and the mark cleared
(04 R92, R95). At tick number 0 a pending plan is current and the overcommit test is made against it
(04 R89, 03 R73); a REFER cell that carries the flag clear counts the closing counter down (06 R134); LOAD
is raised where the overcommit flag has been set, MODULATOR where the level found is a new one, and no
other kind. The row acts when the stream's work of the boundary is outstanding, and takes the whole of it
(log entry 4). -/
def Obligations.APendingStartIsTaken : Prop :=
  ∀ (n : Ch) (s : State), s.pornLow = false → Work.stream n ∈ s.due →
    (s.stream n).startPending = true → (s.stream n).state = .stopped → (s.stream n).run = none →
    ∃ t, exec (.startTaken n) s = .next t ∧
      let x := s.stream n
      let tick := s.time.tickNumber
      let level := s.mrdyPins.getLsbD n.val
      (t.stream n).startPending = false ∧
      (t.stream n).state = (if level then .running else .paused) ∧
      (t.stream n).plan = x.planAt tick ∧ (t.stream n).pendingPlan = x.pendingAt tick ∧
      (t.stream n).modLevel = level ∧
      (t.stream n).overcommit = overcommitAt tick (t.load n) x.overcommit ∧
      (level = false →
        (t.stream n).nameCtr = 0 ∧ (t.stream n).longCtr = 0 ∧ (t.stream n).run = none ∧
          (t.stream n).cell = none) ∧
      (level = true → ∃ k v, (t.stream n).cell = some (formCell (s.prog n).code k v)) ∧
      (∀ i < 96, ∀ nt, s.notice i = some nt → nt.state = .live → (s.prog n).carries = true →
        (s.prog n).coverage &&& nt.areas ≠ 0#16 →
        t.notice i =
          some (nt.withRecord n (some ⟨.airing, s.time.tickCount, 0, 0, none⟩))) ∧
      (∀ i < 96, ∀ nt, s.notice i = some nt → nt.record n = none →
        (nt.state ≠ .live ∨ (s.prog n).carries = false ∨
          (s.prog n).coverage &&& nt.areas = 0#16) → t.notice i = some nt) ∧
      (∀ m, m ≠ n → t.stream m = s.stream m) ∧
      t.table = { s.table with slots := t.table.slots } ∧ t.map = s.map ∧ t.store = s.store ∧
      t.announce = s.announce.set n { s.ann n with
        closing := if level then s.closingAfter n (x.planAt tick)[tick]? else (s.ann n).closing } ∧
      t.time = s.time ∧ t.monitor = s.monitor ∧ t.ports = s.ports ∧
      t.attention = s.attention.withStream n ((t.stream n).overcommit && !x.overcommit)
        (level != x.modLevel)

/-- ENTER_STOPPED: a STOPPING stream enters STOPPED and discards its records; a WITHDRAWING notice
without records is FREE, and a held submit loses the stream. A pending start is then taken at once, with
fresh records (04 R92, R94, 01 R10, R30). At tick number 0 a pending plan is current and the overcommit
test is made against it (04 R89, 03 R73); a stream started again under a REFER duty counts its closing
counter down by a cell that carries the flag clear (06 R134); LOAD is raised where the overcommit flag has
been set, MODULATOR where the level found is a new one, and no other kind. The row acts when the stream's
work of the boundary is outstanding, and takes the whole of it (log entry 4). -/
def Obligations.AStoppingStreamEntersStopped : Prop :=
  ∀ (n : Ch) (s : State), s.pornLow = false → Work.stream n ∈ s.due →
    (s.stream n).state = .stopping →
    ∃ t, exec (.enterStopped n) s = .next t ∧
      let x := s.stream n
      let tick := s.time.tickNumber
      let level := s.mrdyPins.getLsbD n.val
      let again := x.startPending = true
      (t.stream n).overcommit = overcommitAt tick (t.load n) x.overcommit ∧
      (again → (t.stream n).startPending = false ∧
        (t.stream n).state = (if level then .running else .paused) ∧
        (t.stream n).plan = x.planAt tick ∧ (t.stream n).pendingPlan = x.pendingAt tick ∧
        (t.stream n).modLevel = level ∧
        (level = false → (t.stream n).nameCtr = 0 ∧ (t.stream n).longCtr = 0 ∧
          (t.stream n).run = none ∧ (t.stream n).cell = none)) ∧
      (¬ again → t.stream n = { x with
        state := .stopped
        run := none
        cell := none
        plan := x.planAt tick
        pendingPlan := x.pendingAt tick
        overcommit := overcommitAt tick 0 x.overcommit
        modLevel := level }) ∧
      (∀ i < 96, ∀ nt, s.notice i = some nt →
        t.notice i =
          (if again ∧ nt.state = .live ∧ (s.prog n).carries = true ∧
              (s.prog n).coverage &&& nt.areas ≠ 0#16 then
            some (nt.withRecord n (some ⟨.airing, s.time.tickCount, 0, 0, none⟩))
           else if nt.record n = none then some nt
           else if nt.withdrawStart ≠ none ∧ ∀ m, m ≠ n → nt.record m = none then none
           else some (nt.withRecord n none))) ∧
      (∀ p h, (s.port p).held = some h → chMem h.remaining n = true → h.slot < 96 →
        (∃ nt, s.notice h.slot = some nt ∧ nt.record n ≠ none) →
        t.port p = (s.port p).heldLess h n false) ∧
      (∀ p, (∀ h nt, (s.port p).held = some h → chMem h.remaining n = true →
        s.notice h.slot = some nt → nt.record n = none) → t.port p = s.port p) ∧
      (∀ m, m ≠ n → t.stream m = s.stream m) ∧
      t.table = { s.table with slots := t.table.slots } ∧ t.map = s.map ∧ t.store = s.store ∧
      t.announce = s.announce.set n { s.ann n with
        closing := if (t.stream n).state = .running then s.closingAfter n (x.planAt tick)[tick]?
          else (s.ann n).closing } ∧
      t.time = s.time ∧ t.monitor = s.monitor ∧
      t.attention = s.attention.withStream n ((t.stream n).overcommit && !x.overcommit)
        (level != x.modLevel)

/-- PLAN_TAKES_EFFECT at tick number 0: the pending plan is the current plan and none is pending, in every
stream state (04 R89), and the overcommit test is made against it and the records the stream then holds:
above 1,000 the flag is set, at 900 or less it is clear, between them it stays (03 R72, R73). A RUNNING
stream's REFER cell that carries the flag clear counts the closing counter down (06 R134); LOAD is raised
where the overcommit flag has been set, MODULATOR where the level found is a new one, and no other kind.
The row acts when the stream's work of the boundary is outstanding, and takes the whole of it (log entry
4). -/
def Obligations.APendingPlanTakesEffect : Prop :=
  ∀ (n : Ch) (plan : List Duty) (s : State), s.pornLow = false → Work.stream n ∈ s.due →
    s.time.tickNumber = 0 → (s.stream n).pendingPlan = some plan → s.RunsSound →
    ∃ t, exec (.planTakesEffect n) s = .next t ∧
      let x := s.stream n
      let level := s.mrdyPins.getLsbD n.val
      let resumes := x.state = .stopping ∨ x.startPending = true ∧ x.state = .stopped
      (t.stream n).plan = plan ∧ (t.stream n).pendingPlan = none ∧
      (t.stream n).modLevel = level ∧
      (¬ resumes → (t.stream n).overcommit =
        overcommitAt 0 ((s.setStream n { x with plan := plan }).load n) x.overcommit) ∧
      (resumes → (t.stream n).overcommit = overcommitAt 0 (t.load n) x.overcommit) ∧
      (x.state = .running ∨ x.state = .paused →
        (t.stream n).state = if level then .running else .paused) ∧
      (∀ m, m ≠ n → t.stream m = s.stream m) ∧
      t.table = { s.table with slots := t.table.slots } ∧ t.map = s.map ∧ t.store = s.store ∧
      t.announce = s.announce.set n { s.ann n with
        closing := if (t.stream n).state = .running then s.closingAfter n plan[0]?
          else (s.ann n).closing } ∧
      t.time = s.time ∧ t.monitor = s.monitor ∧
      t.attention = s.attention.withStream n ((t.stream n).overcommit && !x.overcommit)
        (level != x.modLevel)

/-- RUN_COMPLETION: in a slot that goes to the arbiter the last cell of a run is sent, the run is over, the
record counts an airing and is due an interval after the run's HEAD; a held submit is tested (03 R55, R59,
R61, R68, 01 R30). At tick number 0 a pending plan is current and the overcommit test is made against the
records before the cell (04 R89, R96; 03 R73); LOAD is raised where the overcommit flag has been set,
MODULATOR where the level found is a new one, and no other kind. The row acts when the stream's work of the
boundary is outstanding, and takes the whole of it (log entry 4). -/
def Obligations.ARunCompletes : Prop :=
  ∀ (n : Ch) (run : Run) (nt : Notice) (rec : Record) (d : Duty) (s : State), s.pornLow = false →
    Work.stream n ∈ s.due → (s.stream n).state = .running → s.mrdyPins.getLsbD n.val = true →
    ((s.stream n).planAt s.time.tickNumber)[s.time.tickNumber]? = some d → s.arbitrated n d →
    (s.stream n).run = some run → s.notice run.slot = some nt → nt.record n = some rec →
    nt.runLength ≤ run.sent + 1 →
    ∃ t, exec (.runCompletion n) s = .next t ∧
      (let x := s.stream n
       let tick := s.time.tickNumber
       let load := (s.setStream n { x with plan := x.planAt tick }).load n
       t.stream n = { x with
         run := none
         cell := some (formCell (s.prog n).code (runCell nt run.sent).1 (runCell nt run.sent).2)
         plan := x.planAt tick
         pendingPlan := x.pendingAt tick
         overcommit := overcommitAt tick load x.overcommit
         modLevel := true } ∧
       t.attention = s.attention.withStream n ((t.stream n).overcommit && !x.overcommit)
         (!x.modLevel)) ∧
      (let airings := min 65535 (rec.airings + 1)
       let c := s.table.classes.get nt.urgency.ix
       let doubled := if c.settle = 0 then 0 else min 3 (airings / c.settle)
       t.notice run.slot = some (nt.withRecord n (some { rec with
         airings := airings
         lastRunStart := some run.head
         due := run.head + min 3600 (c.base * 2 ^ doubled) * 20 }))) ∧
      (∀ i, i ≠ run.slot → t.notice i = s.notice i) ∧
      (∀ p h, (s.port p).held = some h → h.slot = run.slot → chMem h.remaining n = true →
        (h.heardStream ≠ some n ∨ 1 ≤ rec.heard) → t.port p = (s.port p).heldLess h n true) ∧
      (∀ p, (∀ h, (s.port p).held = some h → h.slot = run.slot → chMem h.remaining n = true →
        h.heardStream = some n ∧ rec.heard = 0) → t.port p = s.port p) ∧
      (∀ m, m ≠ n → t.stream m = s.stream m) ∧
      t.table = { s.table with slots := t.table.slots } ∧ t.map = s.map ∧ t.store = s.store ∧
      t.announce = s.announce ∧ t.time = s.time ∧ t.monitor = s.monitor

/-! ### Single events of a boundary: announcements, marks and silence -/

/-- LEAD_EXPIRY: the lead counter reaches 0, the programme is ON_AIR, its bulletin start is now and its
bulletins count one more; the rise of its flag puts the closing counters of the programmes that refer
to it at 0. HANGOVER_EXPIRY: the hangover counter reaches 0, the programme is QUIET, and the fall of its
flag puts those closing counters at 3. MAXIMUM_DURATION: ON_AIR becomes BARRED and HANGING becomes QUIET,
the overruns count is one more, OVERRUN is raised and the flag has fallen (06 R123, R125, R126, R131,
R133). TICK_BOUNDARY, with the work of one programme taken alone: the cue line is sampled, and accepted
when found at two boundaries running; an accepted level recomputes the cue level, and a rise or fall is
acted on; a lead or hangover counter that this did not set counts down and is acted on at 0; then the
maximum duration is tested (06 R119, R120, R122 to R127, R129, R133).
That a row acts while its work is outstanding, and that a boundary can take one work alone, are the
model's choices (log entries 2, 4). -/
def Obligations.LeadsHangoversAndBulletinsEnd : Prop :=
  (∀ (p : Ch) (s : State), s.pornLow = false → Work.announce p ∈ s.due →
    (s.ann p).state = .leading → (s.ann p).leadCtr ≤ 1 → (s.sampled p).state = .leading →
    1 ≤ (s.ann p).maxSecs →
    ∃ t, exec (.leadExpiry p) s = .next t ∧
      (t.ann p).state = .onAir ∧ (t.ann p).leadCtr = 0 ∧
      (t.ann p).bulletin = some ⟨s.time.seconds, s.time.tickNumber, s.time.tickCount⟩ ∧
      (t.ann p).bulletins = min 65535 ((s.ann p).bulletins + 1) ∧
      (∀ q, (t.ann q).closing = (if (s.prog q).target = some p then 0 else (s.ann q).closing)) ∧
      (∀ q, q ≠ p → t.ann q = { s.ann q with closing := (t.ann q).closing }) ∧
      t = { s.settled (.announce p) with announce := t.announce }) ∧
  ((∀ (p : Ch) (s : State), s.pornLow = false → Work.announce p ∈ s.due →
    (s.sampled p).state = (s.ann p).state →
    ((s.ann p).state = .hanging → (s.ann p).hangCtr ≤ 1 →
      ∃ t, exec (.hangoverExpiry p) s = .next t ∧
        (t.ann p).state = .quiet ∧ (t.ann p).hangCtr = 0 ∧
        (t.ann p).bulletin = (s.ann p).bulletin ∧ (t.ann p).overruns = (s.ann p).overruns ∧
        (∀ q, (t.ann q).closing = (if (s.prog q).target = some p then 3 else (s.ann q).closing)) ∧
        (∀ q, q ≠ p → t.ann q = { s.ann q with closing := (t.ann q).closing }) ∧
        t = { s.settled (.announce p) with announce := t.announce }) ∧
    (∀ b : Bulletin, (s.ann p).bulletin = some b →
      (s.ann p).maxSecs * 20 ≤ s.time.tickCount - b.count →
      ((s.ann p).state = .onAir ∨ (s.ann p).state = .hanging ∧ 1 < (s.ann p).hangCtr) →
      ∃ t, exec (.maximumDuration p) s = .next t ∧
        (t.ann p).state = (if (s.ann p).state = .onAir then .barred else .quiet) ∧
        (t.ann p).hangCtr = 0 ∧ (t.ann p).bulletin = some b ∧
        (t.ann p).overruns = min 65535 ((s.ann p).overruns + 1) ∧
        (∀ q, (t.ann q).closing = (if (s.prog q).target = some p then 3 else (s.ann q).closing)) ∧
        (∀ q, q ≠ p → t.ann q = { s.ann q with closing := (t.ann q).closing }) ∧
        t = { (s.settled (.announce p)).withKind 4#11 with
          announce := t.announce
          attention := { (s.withKind 4#11).attention with
            overrun := chInsert s.attention.overrun p } })) ∧
  ∀ (p : Ch) (lines : Lines) (s : State), s.pornLow = false →
    let r := s.flushDue
    let a := r.ann p
    let found := !lines.cue.getLsbD p.val
    ∃ t, exec (.tickBoundary lines (othersThan (· = .announce p))) s = .next t ∧
      let now := t.time.tickCount
      let accepted := found = a.lineSample ∧ found ≠ a.lineLevel
      let line := if accepted then found else a.lineLevel
      let cue := if accepted then (r.prog p).carries && (match a.source with
          | .line => line
          | .link => a.linkCue
          | .either => line || a.linkCue)
        else a.cueLevel
      let st := if cue = a.cueLevel then a.state
        else if cue then a.state.risen a.lead else a.state.fallen a.hangover
      let counted := if st ≠ a.state then st
        else if st = .leading ∧ a.leadCtr ≤ 1 then .onAir
        else if st = .hanging ∧ a.hangCtr ≤ 1 then .quiet else st
      let entered := counted = .onAir ∧ (a.state = .quiet ∨ a.state = .leading)
      let start := if entered then some now else a.bulletin.map fun b => b.count
      let ended := (counted = .onAir ∨ counted = .hanging) ∧
        ∃ c, start = some c ∧ a.maxSecs * 20 ≤ now - c
      let b := t.ann p
      b = { a with
        lineSample := found
        lineLevel := line
        cueLevel := cue
        state := b.state
        leadCtr := if counted = .leading then
            (if a.state = .leading then a.leadCtr - 1 else a.lead)
          else if a.state = .leading ∨ entered then 0 else a.leadCtr
        hangCtr := b.hangCtr
        bulletin := if entered then some ⟨t.time.seconds, t.time.tickNumber, now⟩ else a.bulletin
        bulletins := if entered then min 65535 (a.bulletins + 1) else a.bulletins
        overruns := b.overruns
        closing := b.closing } ∧
      (¬ ended → b.state = counted ∧ b.overruns = a.overruns ∧
        b.hangCtr = (if counted = .hanging then
            (if a.state = .hanging then a.hangCtr - 1 else a.hangover)
          else if a.state = .hanging then 0 else a.hangCtr) ∧
        (∀ q, (t.ann q).closing = (if (r.prog q).target = some p ∧ b.flag ≠ a.flag then
          (if b.flag then 0 else 3) else (r.ann q).closing)) ∧
        t.attention.overrun = r.attention.overrun) ∧
      (ended → b.state = (if counted = .onAir then .barred else .quiet) ∧ b.hangCtr = 0 ∧
        b.overruns = min 65535 (a.overruns + 1) ∧
        (∀ q, (t.ann q).closing = (if (r.prog q).target = some p then 3 else (r.ann q).closing)) ∧
        t.attention.isPending 2 = true ∧
        t.attention.overrun = chInsert r.attention.overrun p) ∧
      (∀ q, q ≠ p → t.ann q = { r.ann q with closing := (t.ann q).closing }) ∧
      t.table = r.table ∧ t.map = r.map ∧ t.store = r.store ∧ t.streams = r.streams ∧
      t.monitor = r.monitor)

/-- MARK_EDGE: the capture, the fresh flag, the edge count, MARK, and a mark watch that begins to count
again from 0. MARK_WATCH_EXPIRY and SILENCE_EXPIRY, each when its work of the boundary is outstanding (log
entry 4): the count reaches its limit, once for an episode, and MARK_LOST or SILENT is raised (07 R153,
R155, 08 R172). Nothing else changes. -/
def Obligations.MarksAreCapturedAndWatched : Prop :=
  (∀ s : State, s.pornLow = false →
    exec .markEdge s = .next { s.withKind 0x100#11 with
      time := { s.time with
        capture := some ⟨s.time.seconds, s.time.tickNumber, s.time.tickCount, s.time.phase⟩
        fresh := true
        edges := min 255 (s.time.edges + 1)
        watch := if s.time.watch = .off then .off else .watching
        watchCtr := 0 } }) ∧
  (∀ s : State, s.pornLow = false →
    (Work.markWatch ∈ s.due → s.time.watch = .watching → 59 ≤ s.time.watchCtr →
      exec .markWatchExpiry s = .next { (s.settled .markWatch).withKind 0x200#11 with
        time := { s.time with watch := .lost, watchCtr := 60 } }) ∧
    (s.time.watch ≠ .watching ∨ s.time.watchCtr < 59 → exec .markWatchExpiry s = .next s) ∧
    (Work.silence ∈ s.due → s.monitor.state ≠ .off → s.monitor.silent = false →
      99 ≤ s.monitor.silence →
      exec .silenceExpiry s = .next { (s.settled .silence).withKind 0x080#11 with
        monitor := { s.monitor with silence := 100, silent := true } }) ∧
    (s.monitor.state = .off ∨ s.monitor.silent = true ∨ s.monitor.silence < 99 →
      exec .silenceExpiry s = .next s))

/-! ### The off-air monitor -/

/-- CANDIDATE_COMPLETE: a complete candidate is judged, one of the four verdict tallies and the tally
of corrected headers count, an own cell ends a silence, and the lock acts: in SEARCHING the run-up and
LOCKED at 3, in LOCKED the faults and SEARCHING with MONITOR raised at 6 (08 R161, R162, R164 to R167,
R172). -/
def Obligations.ACandidateIsTalliedAndMovesTheLock : Prop :=
  ∀ (c : List Bool) (s : State), s.pornLow = false → s.monitor.candidate = some c →
    88 ≤ c.length →
    let v := judge (s.prog s.monitor.watched).code c
    ∃ t, exec .candidateComplete s = .next t ∧
      t.monitor.window = [] ∧ t.monitor.aligned = true ∧ t.monitor.candidate = none ∧
      t.monitor.missed = none ∧
      t.monitor.holding.corrected = (if v.wasCorrected then
        min 65535 (s.monitor.holding.corrected + 1) else s.monitor.holding.corrected) ∧
      t.monitor.holding.own = (if v.isOwn then
        min 65535 (s.monitor.holding.own + 1) else s.monitor.holding.own) ∧
      t.monitor.holding.headerFaults = (match v with
        | .headerFault => min 65535 (s.monitor.holding.headerFaults + 1)
        | _ => s.monitor.holding.headerFaults) ∧
      t.monitor.holding.checkFaults = (match v with
        | .checkFault _ => min 65535 (s.monitor.holding.checkFaults + 1)
        | _ => s.monitor.holding.checkFaults) ∧
      t.monitor.holding.foreign = (match v with
        | .foreign _ => min 65535 (s.monitor.holding.foreign + 1)
        | _ => s.monitor.holding.foreign) ∧
      t.monitor.silence = (if v.isOwn then 0 else s.monitor.silence) ∧
      t.monitor.silent = (!v.isOwn && s.monitor.silent) ∧
      (v.isOwn = false → t.table = s.table ∧ t.ports = s.ports) ∧
      (s.monitor.state = .searching →
        let k := if v.isOwn then
            (if s.monitor.aligned ∧ 0 < s.monitor.runUp then s.monitor.runUp + 1 else 1)
          else 0
        t.monitor.state = (if 3 ≤ k then .locked else .searching) ∧
          t.monitor.runUp = (if 3 ≤ k then 0 else k) ∧ t.attention = s.attention) ∧
      (s.monitor.state = .locked →
        let k := if v.isOwn then 0 else s.monitor.faults + 1
        t.monitor.state = (if 6 ≤ k then .searching else .locked) ∧
          t.monitor.faults = (if 6 ≤ k then 0 else k) ∧
          t.attention = (if 6 ≤ k then (s.withKind 0x040#11).attention else s.attention)) ∧
      t.map = s.map ∧ t.store = s.store ∧ t.streams = s.streams ∧ t.announce = s.announce ∧
      t.time = s.time

/-- An own cell heard: a HEAD is matched against the notice table and counted in the record of the
watched stream, a STATUS against the announcement flag, a NAME against the current short name (08 R168
to R171). -/
def Obligations.AnOwnCellIsCompared : Prop :=
  ∀ (c : List Bool) (corrected : Bool) (kind : BitVec 4) (v : BitVec 48) (s : State),
    s.pornLow = false → s.TableSound → s.monitor.candidate = some c → 88 ≤ c.length →
    judge (s.prog s.monitor.watched).code c = .own corrected kind v →
    ∃ t, exec .candidateComplete s = .next t ∧
      (kind = 6#4 → ∀ i nt, s.notice i = some nt → nt.number = headNumber v →
        (∀ rec, nt.record s.monitor.watched = some rec → rec.mode = .airing →
          nt.version = headVersion v →
          t.monitor.holding.matched = min 65535 (s.monitor.holding.matched + 1) ∧
            t.monitor.holding.stale = s.monitor.holding.stale ∧
            t.monitor.holding.unknown = s.monitor.holding.unknown ∧
            t.table = (s.setSlot i (some (nt.withRecord s.monitor.watched
              (some { rec with heard := min 65535 (rec.heard + 1) })))).table ∧
            ∀ p, t.port p = (match (s.port p).held with
              | some h =>
                if h.slot = i ∧ chMem h.remaining s.monitor.watched = true ∧ 1 ≤ rec.airings then
                  (s.port p).heldLess h s.monitor.watched true
                else s.port p
              | none => s.port p)) ∧
        (nt.airsOn s.monitor.watched = false ∨ nt.version ≠ headVersion v →
          t.monitor.holding.stale = min 65535 (s.monitor.holding.stale + 1) ∧
            t.monitor.holding.matched = s.monitor.holding.matched ∧
            t.monitor.holding.unknown = s.monitor.holding.unknown ∧ t.table = s.table ∧
            t.ports = s.ports)) ∧
      (kind = 6#4 → (∀ i nt, s.notice i = some nt → nt.number ≠ headNumber v) →
        t.monitor.holding.unknown = min 65535 (s.monitor.holding.unknown + 1) ∧
          t.monitor.holding.matched = s.monitor.holding.matched ∧
          t.monitor.holding.stale = s.monitor.holding.stale ∧ t.table = s.table ∧
          t.ports = s.ports) ∧
      (kind ≠ 6#4 → t.table = s.table ∧ t.ports = s.ports ∧
        t.monitor.holding.matched = s.monitor.holding.matched ∧
        t.monitor.holding.stale = s.monitor.holding.stale ∧
        t.monitor.holding.unknown = s.monitor.holding.unknown) ∧
      t.monitor.holding.statusMismatch =
        (if kind = 1#4 ∧ v.getLsbD 46 ≠ (s.ann s.monitor.watched).flag then
          min 65535 (s.monitor.holding.statusMismatch + 1)
        else s.monitor.holding.statusMismatch) ∧
      t.monitor.holding.nameMismatch =
        (if kind = 3#4 ∧ (∀ x, (s.prog s.monitor.watched).currentNames = some x →
            v.extractLsb' 8 32 ≠ chars4 x.short (4 * (v.getLsbD 47).toNat)) then
          min 65535 (s.monitor.holding.nameMismatch + 1)
        else s.monitor.holding.nameMismatch)

/-- RECEIVED_BIT: OFF ignores it; a window fills to 8 bits; a sync begins a candidate; without one
SEARCHING slides by a bit and LOCKED drops the frame; a candidate or a dropped frame fills to 88 bits,
and is then judged, or counted as a sync miss, at once or by its own command (08 R159 to R163; log entry
10). SYNC_MISS: such a frame is a fault, the sixth in a row loses the lock and raises MONITOR; no tally
counts (08 R163, R167). -/
def Obligations.ReceivedBitsAndSyncMisses : Prop :=
  (∀ (b later : Bool) (s : State), s.pornLow = false →
    let m := s.monitor
    let w := m.window ++ [b]
    (m.state = .off → exec (.receivedBit b later) s = .next s) ∧
    (m.state ≠ .off → m.candidate = none → m.missed = none →
      (m.window.length < 7 →
        exec (.receivedBit b later) s = .next { s with monitor := { m with window := w } }) ∧
      (m.window.length = 7 →
        ((w.zip [true, true, false, true, false, false, true, false]).countP
            (fun x => x.1 != x.2) ≤ m.tolerance →
          exec (.receivedBit b later) s =
            .next { s with monitor := { m with window := [], candidate := some [] } }) ∧
        (m.tolerance < (w.zip [true, true, false, true, false, false, true, false]).countP
            (fun x => x.1 != x.2) →
          exec (.receivedBit b later) s = .next { s with monitor :=
            (if m.state = .locked then { m with window := [], missed := some 0 }
             else { m with window := w.drop 1, aligned := false }) }))) ∧
    (∀ c, m.state ≠ .off → m.candidate = some c → m.missed = none → c.length < 88 →
      (c.length < 87 ∨ later = true →
        exec (.receivedBit b later) s =
          .next { s with monitor := { m with candidate := some (c ++ [b]) } }) ∧
      (c.length = 87 → later = false →
        exec (.receivedBit b later) s = exec .candidateComplete
          { s with monitor := { m with candidate := some (c ++ [b]) } })) ∧
    (∀ k, m.state ≠ .off → m.candidate = none → m.missed = some k → k < 88 →
      (k < 87 ∨ later = true →
        exec (.receivedBit b later) s =
          .next { s with monitor := { m with missed := some (k + 1) } }) ∧
      (k = 87 → later = false →
        exec (.receivedBit b later) s = exec .syncMiss
          { s with monitor := { m with missed := some 88 } }))) ∧
  (∀ (k : Nat) (s : State), s.pornLow = false → s.monitor.state = .locked →
    s.monitor.missed = some k → 88 ≤ k →
    let m := { s.monitor with window := [], aligned := true, candidate := none, missed := none }
    (s.monitor.faults < 5 →
      exec .syncMiss s =
        .next { s with monitor := { m with faults := s.monitor.faults + 1 } }) ∧
    (5 ≤ s.monitor.faults →
      exec .syncMiss s = .next { s.withKind 0x040#11 with
        monitor := { m with state := .searching, faults := 0, runUp := 0 } }))

/-! ### Links: characters, frames, responses -/

/-- BYTE_RECEIVED inside the states of assembly: a lead begins a frame and clears the stray mark, the
first stray byte is a discard and the others are dropped, a length byte outside 1..250 is a discard,
body and check bytes are collected, and every byte taken restarts the timer. A framing error and
LINK_SILENCE_TIMEOUT discard a frame in assembly; in HUNT a framing error is a stray byte and the timer
does not run (09 R178 to R181). A character is the byte of its 8 data bits, least significant first, or a
framing error where its stop bit is at the start level (09 R178). A tick boundary gives the cycles left of
its tick to the timer of a port in assembly, which discards the frame when it reaches 2,457,600 (09 R181).
That LINK_SILENCE_TIMEOUT acts at any timer value, and how cycles are counted, are the model's choices (log
entries 1, 9). -/
def Obligations.BytesAreAssembledOrDiscarded : Prop :=
  (∀ (p : Port) (b : Byte) (s : State), s.pornLow = false →
    let x := s.port p
    (x.asm = .hunt →
      (b = 0xA5#8 → exec (.byteReceived p (.byte b)) s =
        .next (s.setPort p { x with asm := .length, timer := 0, stray := false })) ∧
      (b ≠ 0xA5#8 → x.stray = false → exec (.byteReceived p (.byte b)) s =
        .next ((s.setPort p { x with stray := true }).frameLost p)) ∧
      (b ≠ 0xA5#8 → x.stray = true → exec (.byteReceived p (.byte b)) s = .next s)) ∧
    (x.asm = .length →
      (1 ≤ b.toNat → b.toNat ≤ 250 → exec (.byteReceived p (.byte b)) s =
        .next (s.setPort p { x with asm := .body b.toNat [], timer := 0 })) ∧
      (b.toNat = 0 ∨ 250 < b.toNat →
        exec (.byteReceived p (.byte b)) s = .next (s.frameLost p))) ∧
    (∀ left got, x.asm = .body left got →
      (1 < left → exec (.byteReceived p (.byte b)) s =
        .next (s.setPort p { x with asm := .body (left - 1) (got ++ [b]), timer := 0 })) ∧
      (left ≤ 1 → exec (.byteReceived p (.byte b)) s =
        .next (s.setPort p { x with asm := .check (got ++ [b]) none, timer := 0 }))) ∧
    (∀ body, x.asm = .check body none → exec (.byteReceived p (.byte b)) s =
      .next (s.setPort p { x with asm := .check body (some b), timer := 0 }))) ∧
  (∀ (p : Port) (s : State), s.pornLow = false →
    ((s.port p).asm ≠ .hunt →
      exec (.byteReceived p .framingError) s = .next (s.frameLost p) ∧
        exec (.linkSilenceTimeout p) s = .next (s.frameLost p)) ∧
    ((s.port p).asm = .hunt →
      exec (.linkSilenceTimeout p) s = .next s ∧
        ((s.port p).stray = true → exec (.byteReceived p .framingError) s = .next s) ∧
        ((s.port p).stray = false → exec (.byteReceived p .framingError) s =
          .next ((s.setPort p { s.port p with stray := true }).frameLost p)))) ∧
  (∀ (lines : Lines) (later : List Work) (p : Port) (s : State), s.pornLow = false →
    let x := s.port p
    let counted := x.timer + (s.time.tickLength - s.time.phase)
    ∃ t, exec (.tickBoundary lines later) s = .next t ∧
      (x.asm = .hunt → (t.port p).asm = .hunt ∧ (t.port p).timer = x.timer ∧
        (t.port p).errors = x.errors) ∧
      (x.asm ≠ .hunt → counted < 2457600 → (t.port p).asm = x.asm ∧ (t.port p).timer = counted ∧
        (t.port p).errors = x.errors) ∧
      (x.asm ≠ .hunt → 2457600 ≤ counted → (t.port p).asm = .hunt ∧ (t.port p).timer = 0 ∧
        (t.port p).errors = min 65535 (x.errors + 1) ∧ t.attention.isPending 10 = true ∧
        t.attention.link &&& portBit p = portBit p)) ∧
  ∀ b : Byte, charOf [b.getLsbD 0, b.getLsbD 1, b.getLsbD 2, b.getLsbD 3, b.getLsbD 4, b.getLsbD 5,
      b.getLsbD 6, b.getLsbD 7] true = .byte b ∧
    ∀ data, charOf data false = .framingError

/-- The last check byte completes a frame: with the transmit queue empty it is taken, and a wrong
check is answered BAD_CHECK under its first body byte, held submit or not; a good check goes to the
dispatcher's tests in turn: BUSY on a held port unless it is ABANDON, UNKNOWN_REQUEST for a code of no
request, NOT_PERMITTED on the traffic port but for eight requests, BAD_LENGTH for a body that no request
of the code has, and otherwise what the request's command does. With the queue not empty the frame waits,
or is discarded when a frame waits already (09 R180, R182, R183, R185 to R188).
That a request's row stands for its whole frame is the model's choice (log entry 6). -/
def Obligations.ACompleteFrameIsTakenWaitsOrIsLost : Prop :=
  ∀ (p : Port) (body : List Byte) (high low : Byte) (s : State), s.pornLow = false →
    (s.port p).asm = .check body (some high) → s.PortsSound →
    let t := s.setPort p { s.port p with asm := .hunt, timer := 0 }
    let code := body.headD 0#8
    let allowed : List Byte :=
      [0x01#8, 0x05#8, 0x10#8, 0x11#8, 0x12#8, 0x14#8, 0x15#8, 0x54#8]
    ((s.port p).queue = [] → frameCheck body ≠ high ++ low →
      exec (.byteReceived p (.byte low)) s =
        .next (t.send p (refusal code .badCheck))) ∧
    ((s.port p).queue = [] → frameCheck body = high ++ low →
      ((s.port p).held ≠ none ∧ code ≠ 0x05#8 →
        exec (.byteReceived p (.byte low)) s = .next (t.send p (refusal code .busy))) ∧
      ((s.port p).held = none ∨ code = 0x05#8 →
        (code ∉ requestCodes →
          exec (.byteReceived p (.byte low)) s = .next (t.send p (refusal code .unknownRequest))) ∧
        (code ∈ requestCodes → p = .traffic → code ∉ allowed →
          exec (.byteReceived p (.byte low)) s = .next (t.send p (refusal code .notPermitted))) ∧
        (code ∈ requestCodes → (p = .site ∨ code ∈ allowed) →
          (∀ r : Request, r.fits = true → requestBody r ≠ body) →
          exec (.byteReceived p (.byte low)) s = .next (t.send p (refusal code .badLength)))) ∧
      ∀ (c : Instr) (r : Request), commandRequest c = some (p, r) → r.fits = true →
        requestBody r = body → exec (.byteReceived p (.byte low)) s = exec c t) ∧
    ((s.port p).queue ≠ [] → (s.port p).waiting = none →
      exec (.byteReceived p (.byte low)) s =
        .next (t.setPort p { t.port p with waiting := some ⟨body, high ++ low⟩ })) ∧
    ((s.port p).queue ≠ [] → (s.port p).waiting ≠ none →
      exec (.byteReceived p (.byte low)) s = .next (t.frameLost p))

/-- RESPONSE_SENT: the response leaves the queue and the next begins at the rate in force; at the end
of a SET LINK's the named port's baud code is replaced and a frame in assembly on it is discarded, and in
either case a waiting frame is kept until the queue is empty, and then taken: a wrong check is answered
BAD_CHECK, held submit or not; a good one goes to the dispatcher's tests in turn, BUSY on a held port unless
it is ABANDON, UNKNOWN_REQUEST, NOT_PERMITTED on the traffic port but for eight requests, BAD_LENGTH for a
body that no request of the code has, and otherwise does what the request's command does (09 R182 to R188,
R192). While a response is sent, STX or TTX carries its characters without gaps, each a start bit, 8 data
bits, least significant first, and a stop bit; the line is at the stop level when nothing is sent (09 R178,
R184).
The field that keeps the old rate is the model's (log entry 17), and so are a request's row for its whole
frame (log entry 6), the count of bit times in place of time on the line (log entry 31), and that the
discard at the end of a SET LINK's response comes before a waiting frame is taken (log entry 32). -/
def Obligations.AResponseLeaves : Prop :=
  (∀ (p : Port) (r : Response) (rest : List Response) (lines : Lines) (s u : State),
    s.pornLow = false → (s.port p).queue = r :: rest →
    let left := s.setPort p { s.port p with queue := rest }
    (r.next = none ∧ u = left ∨
      ∃ q code, r.next = some (.setBaud q code) ∧
        let lost := if (s.port q).asm = .hunt then left else left.frameLost q
        u = lost.setPort q { lost.port q with baud := code }) →
    (rest ≠ [] →
      exec (.responseSent p lines) s =
        .next (u.setPort p { u.port p with txBaud := (u.port p).baud })) ∧
    (rest = [] → (s.port p).waiting = none → exec (.responseSent p lines) s = .next u) ∧
    ∀ f : Frame, rest = [] → (s.port p).waiting = some f →
      let t := u.setPort p { u.port p with waiting := none }
      let code := f.body.headD 0#8
      let allowed : List Byte :=
        [0x01#8, 0x05#8, 0x10#8, 0x11#8, 0x12#8, 0x14#8, 0x15#8, 0x54#8]
      let refused (st : Status) : Prop :=
        exec (.responseSent p lines) s = .next (t.send p (refusal code st))
      (frameCheck f.body ≠ f.check → refused .badCheck) ∧
      (frameCheck f.body = f.check →
        ((s.port p).held ≠ none ∧ code ≠ 0x05#8 → refused .busy) ∧
        ((s.port p).held = none ∨ code = 0x05#8 →
          (code ∉ requestCodes → refused .unknownRequest) ∧
          (code ∈ requestCodes → p = .traffic → code ∉ allowed → refused .notPermitted) ∧
          (code ∈ requestCodes → (p = .site ∨ code ∈ allowed) → f.body.length ≤ 250 →
            (∀ x : Request, x.fits = true → requestBody x ≠ f.body) → refused .badLength)) ∧
        ∀ (c : Instr) (x : Request), commandRequest c = some (p, x) → x.fits = true →
          requestBody x = f.body → exec (.responseSent p lines) s = exec c t)) ∧
  ∀ (p : Port) (s : State), s.pornLow = false →
    ((s.port p).queue = [] → ∀ k, s.serialOut p k = true) ∧
    ∀ (r : Response) (rest : List Response), (s.port p).queue = r :: rest →
      let body := r.code :: r.status.code ::
        (0#4 ++ BitVec.ofBool r.flags.uncarried ++ BitVec.ofBool r.flags.replaced ++
          BitVec.ofBool r.flags.truncated ++ BitVec.ofBool r.flags.adjusted) :: r.results
      let frame := [0x5A#8, BitVec.ofNat 8 body.length] ++ body ++ split2 (frameCheck body)
      (∀ j b, frame[j]? = some b →
        s.serialOut p (10 * j) = false ∧ s.serialOut p (10 * j + 9) = true ∧
          ∀ i < 8, s.serialOut p (10 * j + 1 + i) = b.getLsbD i) ∧
      ∀ k, 10 * frame.length ≤ k → s.serialOut p k = true

/-- A RESTART is performed when its response has left. TABLE frees every slot, cuts the runs and ends
the holds, and keeps every other field (01 R12, R13, 09 R193). ALL puts every block at its reset state
but for the baud codes, the modulator levels and a response being sent, waiting frames dropped, and begins
tick 0, at which the
lines are sampled (09 R194).
That RESPONSE_SENT brings the levels, and that works of a boundary still outstanding are dropped by ALL, are
the model's choices (log entries 19, 33). -/
def Obligations.ARestartIsPerformed : Prop :=
  ∀ (p : Port) (r : Response) (lines : Lines) (s : State), s.pornLow = false →
    (s.port p).queue = [r] →
    (r.next = some .restartTable → (s.port p).waiting = none → s.TableSound →
      ∃ t, exec (.responseSent p lines) s = .next t ∧ (∀ i, t.notice i = none) ∧
        (∃ slots, t.table = { s.table with slots := slots }) ∧ t.map = s.map ∧
        t.store = s.store ∧ t.announce = s.announce ∧ t.time = s.time ∧ t.monitor = s.monitor ∧
        t.attention = s.attention ∧
        (∀ n, t.stream n = (match (s.stream n).run with
          | some run =>
            if (s.notice run.slot).isSome then { s.stream n with run := none } else s.stream n
          | none => s.stream n)) ∧
        ∀ q, let x := if q = p then { s.port p with queue := [] } else s.port q
          t.port q = (match (s.port q).held with
            | some h => if (s.notice h.slot).isSome then x.heldAnswered .superseded else x
            | none => x)) ∧
    (r.next = some .restartAll →
      exec (.responseSent p lines) s = .next { State.reset with
        pending := s.pending
        cuePins := lines.cue
        mrdyPins := lines.mrdy
        streams := Four.tab fun n => Stream.reset (lines.mrdy.getLsbD n.val)
        announce := Four.tab fun a =>
          { Announce.reset with lineSample := !lines.cue.getLsbD a.val }
        ports := ⟨
          { PortState.reset s.ports.site.baud with
            queue := if p = .site then [] else s.ports.site.queue.take 1
            txBaud := s.ports.site.txBaud },
          { PortState.reset s.ports.traffic.baud with
            queue := if p = .traffic then [] else s.ports.traffic.queue.take 1
            txBaud := s.ports.traffic.txBaud }⟩
        attention := { Attention.reset with
          pendingKinds := if ∀ n, (s.stream n).modLevel = lines.mrdy.getLsbD n.val then 0#11
            else 2#11
          modulator := chSet fun n => (s.stream n).modLevel != lines.mrdy.getLsbD n.val } })

/-! ### The dispatcher -/

/-- A request that finds its port's transmit queue empty: BUSY on a held port unless it is ABANDON, then
UNKNOWN_REQUEST, then NOT_PERMITTED on the traffic port but for eight requests, then BAD_LENGTH. Such a
request leaves the state as it was but for its response (09 R185 to R188). With a response still to be
sent, every frame waits, or is discarded when another waits (09 R180, R183).
That a command whose lists fit no frame is answered BAD_LENGTH is the model's reading (log entry
24). -/
def Obligations.TheDispatcherRefusesOrWaits : Prop :=
  (∀ (c : Instr) (p : Port) (r : Request) (s : State), s.pornLow = false →
    commandRequest c = some (p, r) → (s.port p).queue = [] →
    let code := requestCode r
    let allowed : List Byte :=
      [0x01#8, 0x05#8, 0x10#8, 0x11#8, 0x12#8, 0x14#8, 0x15#8, 0x54#8]
    ((s.port p).held ≠ none → code ≠ 0x05#8 →
      exec c s = .next (s.send p (refusal code .busy))) ∧
    ((s.port p).held = none → p = .traffic → code ∉ allowed →
      exec c s = .next (s.send p (refusal code .notPermitted))) ∧
    ((s.port p).held = none → (p = .site ∨ code ∈ allowed) → r.fits = false →
      exec c s = .next (s.send p (refusal code .badLength)))) ∧
  ((∀ (p : Port) (code : Byte) (rest : List Byte) (s : State), s.pornLow = false →
    code ∉ requestCodes → (s.port p).queue = [] →
    exec (.unknownRequest p code rest) s =
      .next (s.send p (refusal code
        (if (s.port p).held = none then .unknownRequest else .busy)))) ∧
  ∀ (c : Instr) (p : Port) (body : List Byte) (s : State), s.pornLow = false →
    (s.port p).queue ≠ [] →
    ((∃ r, commandRequest c = some (p, r) ∧ body = requestBody r) ∨
      (∃ code rest, c = .unknownRequest p code rest ∧ body = code :: rest)) →
    ((s.port p).waiting = none →
      exec c s =
        .next (s.setPort p { s.port p with waiting := some ⟨body, frameCheck body⟩ })) ∧
    ((s.port p).waiting ≠ none → exec c s = .next (s.frameLost p)))

/-! ### Requests: the part and its links -/

/-- PING on either port: identity, revision, port, baud codes and link error tallies, and no change;
its frame is the five bytes A5 01 01 3E 1F and its response body has 13 bytes (09 R191). -/
def Obligations.PingReportsThePart : Prop :=
  (∀ (p : Port) (s : State), s.Ready p →
    exec (.ping p) s = .next (s.send p (okay 0x01#8
      (beBytes 2 640 ++ [1#8, if p = .site then 0#8 else 1#8] ++ beBytes 1 s.ports.site.baud ++
        beBytes 1 s.ports.traffic.baud ++ beBytes 2 s.ports.site.errors ++
        beBytes 2 s.ports.traffic.errors)))) ∧
    requestBody .ping = [0x01#8] ∧ frameCheck [0x01#8] = 0x3E1F#16 ∧
    ∀ a b c d, (okay 0x01#8 (beBytes 2 640 ++ [1#8, a] ++ beBytes 1 b ++ beBytes 1 c ++
      beBytes 2 d ++ beBytes 2 d)).body.length = 13

/-- PING, QUERY NOTICE, LIST NOTICES, READ RANGE, READ STREAM, READ PROGRAMME, READ ANNOUNCEMENT, READ
TIME and READ MONITOR form one response and change nothing else; it is a refusal by the request's own
check, without results, or OK with what the rule lists, as it stands (01 R26, R27; 02 R37; 04 R99; 05 R117;
06 R140; 07 R157; 08 R175; 09 R185, R191, R195, R197). The order of the bytes where no table gives one, the
presence byte of QUERY NOTICE and the halves of its extent and direction byte, the backlog between boundaries
and a trim with no duration left are the model's readings (log entries 12, 15, 29, 30). -/
def Obligations.ReadsChangeNothing : Prop :=
  ∀ (c : Instr) (p : Port) (r : Request) (s : State), s.Ready p →
    commandRequest c = some (p, r) → s.MapSound → s.TableSound →
    (p = .site ∨ requestCode r ∈ [0x01#8, 0x14#8, 0x15#8, 0x54#8]) →
    let told (bytes : List Byte) :=
      exec c s = .next (s.send p ⟨requestCode r, .ok, RFlags.none, bytes, none⟩)
    let refused (st : Status) := exec c s = .next (s.send p (refusal (requestCode r) st))
    let byNumber (b : Byte) (bytes : Ch → List Byte) : Prop :=
      (3 < b.toNat → refused .outOfRange) ∧ ∀ n : Ch, b.toNat = n.val → told (bytes n)
    match r with
    | .ping => told (beBytes 2 640 ++ [1#8, if p = .site then 0#8 else 1#8] ++
        beBytes 1 s.ports.site.baud ++ beBytes 1 s.ports.traffic.baud ++
        beBytes 2 s.ports.site.errors ++ beBytes 2 s.ports.traffic.errors)
    | .queryNotice number =>
      (number = 0#16 → refused .outOfRange) ∧
        (number ≠ 0#16 → (∀ i nt, s.notice i = some nt → nt.number ≠ number.toNat) →
          refused .notFound) ∧
        ∀ i nt, number ≠ 0#16 → s.notice i = some nt → nt.number = number.toNat →
          told (s.noticeTold i nt)
    | .listNotices start =>
      (95 < start.toNat → refused .outOfRange) ∧
        (start.toNat ≤ 95 → told (s.listTold start.toNat))
    | .readRange entry =>
      (31 < entry.toNat → refused .outOfRange) ∧
        ∀ e, s.map.ranges[entry.toNat]? = some e →
          told ([flagByte e.enabled] ++ beBytes 2 e.first ++ beBytes 2 e.last ++
            [BitVec.ofNat 8 e.area] ++ split2 s.map.defaultAreas)
    | .readStream b => byNumber b s.streamTold
    | .readProgramme b => byNumber b s.programmeTold
    | .readAnnouncement b => byNumber b s.announcementTold
    | .readTime => told s.timeTold
    | .readMonitor => told s.monitorTold
    | _ => True

/-- SET LINK and RESTART are answered at once and act when the response has left (09 R192, R193). -/
def Obligations.LinkAndRestartAreAnsweredFirst : Prop :=
  ∀ (port baud scope : Byte) (s : State), s.Ready .site →
    (1 < port.toNat ∨ 3 < baud.toNat →
      exec (.setLink .site port baud) s =
        .next (s.send .site (refusal 0x04#8 .outOfRange))) ∧
    (∀ q, portOf? port.toNat = some q → baud.toNat ≤ 3 →
      exec (.setLink .site port baud) s = .next (s.send .site
        (if (s.port q).baud = baud.toNat then sameAlready 0x04#8 [port, baud]
         else ⟨0x04#8, .ok, RFlags.none, [port, baud], some (.setBaud q baud.toNat)⟩))) ∧
    exec (.restart .site scope) s = .next (s.send .site
      (if scope = 0#8 then ⟨0x06#8, .ok, RFlags.none, [scope], some .restartTable⟩
       else if scope = 1#8 then ⟨0x06#8, .ok, RFlags.none, [scope], some .restartAll⟩
       else refusal 0x06#8 .outOfRange))

/-- ABANDON on a held port answers the held submit ABANDONED first and itself OK second, and the port is
IDLE; on an IDLE port it is answered NOT_HELD. Nothing else changes, the other port's hold included
(01 R33, 09 R190). -/
def Obligations.AbandonEndsTheHold : Prop :=
  ∀ (p : Port) (s : State), s.pornLow = false → (s.port p).queue = [] →
    ((s.port p).held = none →
      exec (.abandon p) s = .next (s.send p (refusal 0x05#8 .notHeld))) ∧
    (∀ h, (s.port p).held = some h →
      exec (.abandon p) s = .next (s.setPort p { s.port p with
        held := none
        txBaud := (s.port p).baud
        queue := [⟨0x10#8, .abandoned, h.flags, h.results ++ [fourByte h.satisfied], none⟩,
          okay 0x05#8 []] }))

/-- READ ATTENTION reports the pending set, the mask and the details, and clears every kind with its
detail, the mask kept (10 R201). -/
def Obligations.ReadAttentionClearsWhatItReports : Prop :=
  ∀ s : State, s.Ready .site →
    let a := s.attention
    exec (.readAttention .site) s =
      .next (({ s with attention := { Attention.reset with mask := a.mask } } : State).send .site
        (okay 0x02#8
          (split2 (a.pendingKinds.setWidth 16) ++ split2 (a.mask.setWidth 16) ++
            [a.load.setWidth 8, a.modulator.setWidth 8, a.overrun.setWidth 8] ++
            beBytes 2 a.displaced ++ beBytes 1 a.placement ++
            [a.timedSkipped.setWidth 8, a.link.setWidth 8])))

/-- SET ATTENTION MASK: bits 0 to 10 replace the mask, UNCHANGED if they equal it, and the line follows;
an event taken before or after it leaves the same pending set, details and mask, and holds the line
only if an enabled kind is then pending (10 R200, R202). -/
def Obligations.SetAttentionMaskReplacesTheMask : Prop :=
  ∀ (p : Port) (mask : BitVec 16) (s : State), s.Ready p →
    let m := mask.setWidth 11
    let results := split2 (m.setWidth 16) ++ split2 (s.attention.pendingKinds.setWidth 16)
    (p = .traffic →
      exec (.setAttentionMask p mask) s = .next (s.send p (refusal 0x03#8 .notPermitted))) ∧
    (p = .site → s.attention.mask = m →
      exec (.setAttentionMask p mask) s = .next (s.send p (sameAlready 0x03#8 results))) ∧
    (p = .site → s.attention.mask ≠ m →
      ∃ t, exec (.setAttentionMask p mask) s = .next t ∧
        t = ({ s with attention := { s.attention with mask := m } } : State).send p
          (okay 0x03#8 results) ∧
        (t.attnLow = true ↔ s.attention.pendingKinds &&& m ≠ 0#11) ∧
        ∀ e : AttnEvent, ∃ u, exec (.setAttentionMask p mask) (s.raise e) = .next u ∧
          u.attention = (t.raise e).attention ∧
          ((t.raise e).attnLow = true ↔
            (s.attention.pendingKinds ||| kindBit e.kind) &&& m ≠ 0#11))

/-- READ MARK reports the capture and clears the fresh flag and the edge count; SET OFFSET stores -24 to
24 half-hours; SET MARK WATCH turns the watch on from OFF and off from WATCHING or LOST with the
counter at 0, and is UNCHANGED otherwise (07 R152, R154, R156).
The bytes of the results are the model's reading (log entry 15). -/
def Obligations.MarkAndOffsetRequests : Prop :=
  ∀ (offset enable : Byte) (s : State), s.Ready .site →
    let x := s.time
    exec (.readMark .site) s = .next
      ((s.setTime { x with fresh := false, edges := 0 }).send .site (okay 0x55#8
        ((match x.capture with
          | some c => [1#8] ++ beBytes 4 c.seconds ++ beBytes 1 c.tick ++ beBytes 6 c.count ++
              beBytes 4 c.cycles
          | none => List.replicate 16 0#8) ++
          [flagByte x.fresh] ++ beBytes 1 x.edges ++ beBytes 1 x.watch.code))) ∧
    exec (.setOffset .site offset) s = .next
      (if -24 ≤ offset.toInt ∧ offset.toInt ≤ 24 then
        (s.setTime { x with offset := offset.toInt }).send .site (okay 0x56#8 [offset])
      else s.send .site (refusal 0x56#8 .outOfRange)) ∧
    exec (.setMarkWatch .site enable) s = .next
      (if 1 < enable.toNat then s.send .site (refusal 0x57#8 .outOfRange)
       else if enable = 1#8 ∧ x.watch = .off then
         (s.setTime { x with watch := .watching, watchCtr := 0 }).send .site
           (okay 0x57#8 [1#8, 0#8])
       else if enable = 0#8 ∧ x.watch ≠ .off then
         (s.setTime { x with watch := .off, watchCtr := 0 }).send .site (okay 0x57#8 [0#8, 0#8])
       else s.send .site
         (sameAlready 0x57#8 (beBytes 1 x.watch.code ++ beBytes 1 x.watchCtr)))

/-! ### Requests: the notice table -/

/-- The checks of SUBMIT in turn: OUT_OF_RANGE; for a number in the table NOT_OWNER and UNCHANGED; then
STALE and UNPLACED (01 R4, R14 to R17). None of them changes anything but the transmit queue.
That UNCHANGED carries no flag is the model's reading (log entry 14). -/
def Obligations.SubmitIsCheckedInTurn : Prop :=
  ∀ (p : Port) (a : SubmitArgs) (s : State), s.Ready p → a.fits = true → s.TableSound →
    (SubmitOutOfRange a →
      exec (.submit p a) s = .next (s.send p (refusal 0x10#8 .outOfRange))) ∧
    (∀ i nt, ¬ SubmitOutOfRange a → s.notice i = some nt → nt.number = a.number.toNat →
      (p = .traffic → nt.owner = .site →
        exec (.submit p a) s = .next (s.send p (refusal 0x10#8 .notOwner))) ∧
      ((p = .site ∨ nt.owner = .traffic) → nt.version = a.version.toNat →
        exec (.submit p a) s = .next (s.send p (sameAlready 0x10#8
          (beBytes 1 i ++ beBytes 1 nt.state.code ++ beBytes 1 nt.runLength ++
            [fourByte nt.carriedSet] ++ [0#8, 0#8]))))) ∧
    (¬ SubmitOutOfRange a →
      (∀ i nt, s.notice i = some nt → nt.number = a.number.toNat →
        (p = .site ∨ nt.owner = .traffic) ∧ nt.version ≠ a.version.toNat) →
      (s.submitStale a →
        exec (.submit p a) s = .next (s.send p (refusal 0x10#8 .stale))) ∧
      (¬ s.submitStale a → s.submitAreas a = 0#16 →
        exec (.submit p a) s = .next (s.send p (refusal 0x10#8 .unplaced))))

/-- An accepted SUBMIT of a number in the table updates the notice in its slot: the content replaced,
the owner kept, the holds on it SUPERSEDED, its runs cut; a notice left LIVE has a fresh record on each
stream that carries it and its other records are withdrawn, one left PENDING has none (01 R18, R19,
R22, R29, R32). Nothing else changes.
REPLACED for a byte past the thirtieth is the model's reading (log entry 25). -/
def Obligations.SubmitUpdatesANotice : Prop :=
  ∀ (p : Port) (a : SubmitArgs) (u : Urgency) (i : Nat) (old : Notice) (s : State),
    s.Ready p → a.fits = true → s.TableSound → ¬ SubmitOutOfRange a →
    urgencyOf? a.urgency.toNat = some u → s.notice i = some old →
    old.number = a.number.toNat → (p = .site ∨ old.owner = .traffic) →
    old.version ≠ a.version.toNat → ¬ s.submitStale a → s.submitAreas a ≠ 0#16 →
    let nt := s.submitted a u old.owner (Four.tab fun n =>
      if s.time.seconds < (a.startsAt.map BitVec.toNat).getD 0 then none
      else if s.onStream n (s.submitAreas a) then some (freshAt s.time.tickCount)
      else (old.record n).map (Record.withdrawn s.table.withdrawCells s.time.tickCount))
    exec (.submit p a) s = .next ((s.replaced i (some nt)).submitDone p i nt a .ok 0)

/-- An accepted SUBMIT of a new number takes the lowest FREE slot; with none it displaces the notice of
the least urgent class, earliest end and lowest slot among those PENDING or LIVE of a less urgent class,
which is freed at once and reported, or is refused FULL (01 R1, R12, R20 to R22, R29). Nothing else
changes.
REPLACED for a byte past the thirtieth is the model's reading (log entry 25). -/
def Obligations.SubmitPlacesANewNotice : Prop :=
  ∀ (p : Port) (a : SubmitArgs) (u : Urgency) (s : State),
    s.Ready p → a.fits = true → s.TableSound → ¬ SubmitOutOfRange a →
    urgencyOf? a.urgency.toNat = some u →
    (∀ i nt, s.notice i = some nt → nt.number ≠ a.number.toNat) →
    ¬ s.submitStale a → s.submitAreas a ≠ 0#16 →
    let nt := s.submitted a u p (Four.tab fun n =>
      if s.time.seconds < (a.startsAt.map BitVec.toNat).getD 0 then none
      else if s.onStream n (s.submitAreas a) then some (freshAt s.time.tickCount) else none)
    let below (v : Notice) : Prop := (∀ w, v.state ≠ .withdrawing w) ∧ u.rank < v.urgency.rank
    (∀ i < 96, s.notice i = none → (∀ j < i, s.notice j ≠ none) →
      exec (.submit p a) s = .next ((s.setSlot i (some nt)).submitDone p i nt a .ok 0)) ∧
    ((∀ i < 96, s.notice i ≠ none) →
      ((∀ i < 96, ∀ v, s.notice i = some v → ¬ below v) →
        exec (.submit p a) s = .next (s.send p (refusal 0x10#8 .full))) ∧
      (∀ i < 96, ∀ v, s.notice i = some v → below v →
        (∀ j < 96, ∀ w, j ≠ i → s.notice j = some w → below w →
          w.urgency.rank < v.urgency.rank ∨ (w.urgency.rank = v.urgency.rank ∧
            (v.endsAt < w.endsAt ∨ (v.endsAt = w.endsAt ∧ i < j)))) →
        exec (.submit p a) s = .next
          (({ (s.replaced i (some nt)).withKind 0x008#11 with
              attention := { (s.withKind 0x008#11).attention with displaced := v.number } }
            : State).submitDone p i nt a .displaced v.number)))

/-- WITHDRAW: OUT_OF_RANGE, NOT_FOUND, NOT_OWNER and ALREADY_WITHDRAWING change nothing; a PENDING notice
is FREE; a LIVE one begins withdrawal, its runs cut; the holds on it are SUPERSEDED, and the response
carries the state that results (01 R4, R9, R23, R32). -/
def Obligations.WithdrawActsByTheNoticesState : Prop :=
  ∀ (p : Port) (number : BitVec 16) (s : State), s.Ready p → s.TableSound →
    (number = 0#16 →
      exec (.withdraw p number) s = .next (s.send p (refusal 0x11#8 .outOfRange))) ∧
    (number ≠ 0#16 → (∀ i nt, s.notice i = some nt → nt.number ≠ number.toNat) →
      exec (.withdraw p number) s = .next (s.send p (refusal 0x11#8 .notFound))) ∧
    ∀ i nt, number ≠ 0#16 → s.notice i = some nt → nt.number = number.toNat →
      (p = .traffic → nt.owner = .site →
        exec (.withdraw p number) s = .next (s.send p (refusal 0x11#8 .notOwner))) ∧
      ((p = .site ∨ nt.owner = .traffic) →
        (∀ w, nt.state = .withdrawing w → exec (.withdraw p number) s =
          .next (s.send p (refusal 0x11#8 .alreadyWithdrawing))) ∧
        (nt.state = .pending → exec (.withdraw p number) s =
          .next (((s.holdsEnded i).setSlot i none).send p (okay 0x11#8 [0#8]))) ∧
        (nt.state = .live →
          let left := nt.withdrawn s.table.withdrawCells s.time.tickCount
          exec (.withdraw p number) s = .next ((s.replaced i left).send p
            (okay 0x11#8 [if left = none then 0#8 else 3#8]))))

/-- WITHDRAW ALL acts on the PENDING and LIVE notices, on the traffic link on those it owns: the PENDING
ones are FREE, the LIVE ones begin withdrawal; the response counts both (01 R24). -/
def Obligations.WithdrawAllActsOnWhatTheLinkOwns : Prop :=
  ∀ (p : Port) (s : State), s.Ready p → s.TableSound →
    let mine (nt : Notice) : Bool := decide (p = .site ∨ nt.owner = .traffic)
    ∃ t : State, exec (.withdrawAll p) s = .next (t.send p (okay 0x12#8
        (beBytes 1 (s.countNotices fun nt => mine nt && nt.state = .pending) ++
          beBytes 1 (s.countNotices fun nt => mine nt && nt.state = .live)))) ∧
      (∀ i, t.notice i = (match s.notice i with
        | none => none
        | some nt =>
          if mine nt = true ∧ nt.state = .pending then none
          else if mine nt = true ∧ nt.state = .live then
            nt.withdrawn s.table.withdrawCells s.time.tickCount
          else some nt)) ∧
      (∀ n, t.stream n = (match (s.stream n).run with
        | some run =>
          (match s.notice run.slot with
            | some nt =>
              if mine nt = true ∧ nt.state = .live then { s.stream n with run := none }
              else s.stream n
            | none => s.stream n)
        | none => s.stream n)) ∧
      (∀ q, t.port q = (match (s.port q).held with
        | some h =>
          (match s.notice h.slot with
            | some nt =>
              if mine nt = true ∧ (nt.state = .pending ∨ nt.state = .live) then
                (s.port q).heldAnswered .superseded
              else s.port q
            | none => s.port q)
        | none => s.port q)) ∧
      t = { s with table := t.table, streams := t.streams, ports := t.ports } ∧
      t.table = { s.table with slots := t.table.slots }

/-- PURGE: on the traffic link NOT_PERMITTED; OUT_OF_RANGE for 0, NOT_FOUND for a number in no slot;
otherwise the notice is freed at once from whatever state, with the holds on it SUPERSEDED and its runs
cut, and the response carries the state it had (01 R12, R25). -/
def Obligations.PurgeFreesAtOnce : Prop :=
  ∀ (p : Port) (number : BitVec 16) (s : State), s.Ready p → s.TableSound →
    (p = .traffic →
      exec (.purge p number) s = .next (s.send p (refusal 0x13#8 .notPermitted))) ∧
    (p = .site → number = 0#16 →
      exec (.purge p number) s = .next (s.send p (refusal 0x13#8 .outOfRange))) ∧
    (p = .site → number ≠ 0#16 → (∀ i nt, s.notice i = some nt → nt.number ≠ number.toNat) →
      exec (.purge p number) s = .next (s.send p (refusal 0x13#8 .notFound))) ∧
    (∀ i nt, p = .site → number ≠ 0#16 → s.notice i = some nt → nt.number = number.toNat →
      exec (.purge p number) s = .next ((s.replaced i none).send p
        (okay 0x13#8 [match nt.state with
          | .pending => 1#8
          | .live => 2#8
          | .withdrawing _ => 3#8])))

/-- SET CLASS and SET NOTICE LIMITS store their values, each clamped to its range with ADJUSTED, and
change nothing else (01 R28, 03 R67, R70). -/
def Obligations.ClassAndLimitsAreClamped : Prop :=
  ∀ (cls settle w : Byte) (base confirm : BitVec 16) (lifetime : BitVec 32) (s : State),
    s.Ready .site →
    (3 < cls.toNat →
      exec (.setClass .site cls base settle) s =
        .next (s.send .site (refusal 0x16#8 .outOfRange))) ∧
    (∀ c : Ch, cls.toNat = c.val →
      let b := max 2 (min 3600 base.toNat)
      let k := min 15 settle.toNat
      let t := s.setTable { s.table with classes := s.table.classes.set c ⟨b, k⟩ }
      exec (.setClass .site cls base settle) s = .next (t.send .site
        (okayAdjusted 0x16#8 (decide (b ≠ base.toNat ∨ k ≠ settle.toNat))
          ([0, 1, 2, 3].flatMap fun d : Ch =>
            beBytes 2 (t.table.classes.get d).base ++
              beBytes 1 (t.table.classes.get d).settle)))) ∧
    (let w' := max 1 (min 8 w.toNat)
     let l' := max 60 (min 86400 lifetime.toNat)
     let c' := max 5 (min 300 confirm.toNat)
     exec (.setNoticeLimits .site w lifetime confirm) s = .next
      ((s.setTable { s.table with withdrawCells := w', lifetime := l', confirmSecs := c' }).send
        .site (okayAdjusted 0x17#8
          (decide (w' ≠ w.toNat ∨ l' ≠ lifetime.toNat ∨ c' ≠ confirm.toNat))
          (beBytes 1 w' ++ beBytes 4 l' ++ beBytes 2 c'))))

/-! ### Requests: the location map -/

/-- READ RANGE: on the traffic link NOT_PERMITTED, an entry above 31 OUT_OF_RANGE; otherwise the entry
and the default area set as they stand, and no change (02 R37). -/
def Obligations.ReadRangeReportsTheEntry : Prop :=
  ∀ (p : Port) (entry : Byte) (s : State), s.Ready p → s.map.ranges.length = 32 →
    (p = .traffic →
      exec (.readRange p entry) s = .next (s.send p (refusal 0x21#8 .notPermitted))) ∧
    (p = .site → 31 < entry.toNat →
      exec (.readRange p entry) s = .next (s.send p (refusal 0x21#8 .outOfRange))) ∧
    (p = .site → entry.toNat ≤ 31 →
      ∃ e, s.map.ranges[entry.toNat]? = some e ∧
        exec (.readRange p entry) s = .next (s.send p (okay 0x21#8
          ([flagByte e.enabled] ++ beBytes 2 e.first ++ beBytes 2 e.last ++ beBytes 1 e.area ++
            split2 s.map.defaultAreas))))

/-- The derived area set of a location code is the union of the areas of the enabled entries that
contain it, and the default area set where that union is empty (02 R39). -/
def Obligations.DerivationIsTheUnionOrTheDefault : Prop :=
  ∀ (m : LocationMap) (code : Nat), (∀ e ∈ m.ranges, e.area < 16) →
    let within (e : RangeEntry) : Prop := e.enabled = true ∧ e.first ≤ code ∧ code ≤ e.last
    ((∃ e ∈ m.ranges, within e) →
      ∀ a < 16, (m.derive code).getLsbD a = true ↔ ∃ e ∈ m.ranges, within e ∧ e.area = a) ∧
    ((∀ e ∈ m.ranges, ¬ within e) → m.derive code = m.defaultAreas)

/-- SET RANGE and SET DEFAULT AREAS: the checks of SET RANGE in turn; a map that stays as it was is
answered OK with counts of 0 and nothing changes; a changed map derives every DERIVED notice again: an
empty derivation strands it with its set kept, another set replaces it and a LIVE notice's records
follow, a stream that no longer carries it loses its run of it and leaves the submits held on it, and
PLACEMENT is raised if any derivation was empty (01 R30; 02 R35, R36, R38, R41 to R44). -/
def Obligations.AChangedMapDerivesNoticesAgain : Prop :=
  ∀ (entry enabled area : Byte) (first last default : BitVec 16) (s : State), s.Ready .site →
    s.TableSound → s.map.ranges.length = 32 →
    let bad := 31 < entry.toNat ∨ 1 < enabled.toNat ∨ 15 < area.toNat
    let e : RangeEntry := ⟨decide (enabled = 1#8), first.toNat, last.toNat, area.toNat⟩
    let zero : List Byte := [0#8, 0#8, 0#8]
    let told := flagByte e.enabled :: (beBytes 2 e.first ++ beBytes 2 e.last ++ beBytes 1 e.area)
    let again (m : LocationMap) (nt : Notice) : Notice :=
      if nt.origin = .explicit then nt
      else if m.derive nt.location = 0#16 then { nt with stranded := true }
      else if nt.state = .live ∧ m.derive nt.location ≠ nt.areas then { nt with
        areas := m.derive nt.location
        stranded := false
        records := Four.tab fun n => s.recordFor n (m.derive nt.location) (nt.record n) }
      else { nt with areas := m.derive nt.location, stranded := false }
    let lost (m : LocationMap) (n : Ch) (i : Nat) : Bool := (s.notice i).any fun nt =>
      decide (nt.origin = .derived ∧ nt.state = .live ∧ nt.airsOn n = true ∧
        m.derive nt.location ≠ 0#16 ∧ m.derive nt.location ≠ nt.areas ∧
        ¬ s.onStream n (m.derive nt.location))
    let pass (m : LocationMap) (t : State) (counts : List Byte) : Prop :=
      t.map = m ∧ (∀ i, t.notice i = (s.notice i).map (again m)) ∧
        (∀ n, t.stream n = (s.stream n).runWithout (lost m n)) ∧
        (∀ q, t.port q = (s.port q).heldWithout fun i => chSet fun n => lost m n i) ∧
        t.table = { s.table with slots := t.table.slots } ∧ t.store = s.store ∧
        t.announce = s.announce ∧ t.time = s.time ∧ t.monitor = s.monitor ∧ t.due = s.due ∧
        counts = beBytes 1 (s.countNotices fun nt => nt.origin = .derived) ++
          beBytes 1 (s.countNotices fun nt => nt.origin = .derived &&
            m.derive nt.location ≠ 0#16 && m.derive nt.location ≠ nt.areas) ++
          beBytes 1 (t.countNotices fun nt => nt.stranded) ∧
        t.attention =
          (if 0 < s.countNotices fun nt => nt.origin = .derived && m.derive nt.location = 0#16 then
            { (s.withKind 0x010#11).attention with
              placement := t.countNotices fun nt => nt.stranded }
          else s.attention)
    (bad → exec (.setRange .site entry enabled first last area) s =
      .next (s.send .site (refusal 0x20#8 .outOfRange))) ∧
    (¬ bad → last.toNat < first.toNat →
      exec (.setRange .site entry enabled first last area) s =
        .next (s.send .site (refusal 0x20#8 .rangeInverted))) ∧
    (¬ bad → first.toNat ≤ last.toNat →
      (s.map.ranges[entry.toNat]? = some e →
        exec (.setRange .site entry enabled first last area) s =
          .next (s.send .site (okay 0x20#8 (told ++ zero)))) ∧
      (s.map.ranges[entry.toNat]? ≠ some e →
        ∃ t counts, pass { s.map with ranges := s.map.ranges.set entry.toNat e } t counts ∧
          exec (.setRange .site entry enabled first last area) s =
            .next (t.send .site (okay 0x20#8 (told ++ counts))))) ∧
    (s.map.defaultAreas = default →
      exec (.setDefaultAreas .site default) s =
        .next (s.send .site (okay 0x22#8 (split2 default ++ zero)))) ∧
    (s.map.defaultAreas ≠ default →
      ∃ t counts, pass { s.map with defaultAreas := default } t counts ∧
        exec (.setDefaultAreas .site default) s =
          .next (t.send .site (okay 0x22#8 (split2 default ++ counts))))

/-! ### Requests: programmes and names -/

/-- SET PROGRAMME: its checks in turn, none of which changes anything; then the four values stored, the
stream re-evaluated against every LIVE notice when coverage or carries-traffic changed (its records, its
run, the submits held on a notice it no longer carries), announcements forced QUIET when carries-traffic
is cleared, with the bulletin start and the counts kept and, where the flag falls, every referrer's closing
counter at 3; the cue level recomputed without a rise when it is set; and the closing counter 0 after a
change of target (01 R30; 02 R46; 05 R101, R102; 06 R121, R128, R133, R135). -/
def Obligations.SetProgrammeStoresAndHandsOn : Prop :=
  ∀ (b carries target : Byte) (code coverage : BitVec 16) (s : State), s.Ready .site →
    s.TableSound →
    let run := exec (.setProgramme .site b code coverage carries target) s
    let refused (st : Status) : Prop := run = .next (s.send .site (refusal 0x30#8 st))
    (3 < b.toNat ∨ 1 < carries.toNat ∨ (3 < target.toNat ∧ target ≠ 0xFF#8) →
      refused .outOfRange) ∧
    ∀ (p : Ch) (y : Option Ch), b.toNat = p.val → carries.toNat ≤ 1 →
      target = targetByte y →
      let on := decide (carries = 1#8)
      let old := s.prog p
      let moved := decide (old.coverage ≠ coverage ∨ old.carries ≠ on)
      let now := s.setProg p
        { old with code := code, coverage := coverage, carries := on, target := y }
      let lost (i : Nat) : Bool := (s.notice i).any fun nt =>
        decide (moved = true ∧ nt.state = .live ∧ nt.airsOn p = true ∧ ¬ now.onStream p nt.areas)
      (y = some p → refused .selfReference) ∧
      (y ≠ some p → code = 0#16 →
        ((s.stream p).state ≠ .stopped ∨ (s.stream p).startPending = true) → refused .inUse) ∧
      (y ≠ some p → code ≠ 0#16 → (∃ q, q ≠ p ∧ (s.prog q).code = code) → refused .inUse) ∧
      (y ≠ some p →
        (code = 0#16 → (s.stream p).state = .stopped ∧ (s.stream p).startPending = false) →
        (code ≠ 0#16 → ∀ q, q ≠ p → (s.prog q).code ≠ code) →
        ∃ t : State, run = .next (t.send .site (okay 0x30#8
            (split2 code ++ split2 coverage ++ [flagByte on, targetByte y] ++
              (if moved then
                beBytes 1 (s.countNotices fun nt => nt.state = .live &&
                  decide (now.onStream p nt.areas) && !nt.airsOn p) ++
                beBytes 1 (s.countNotices fun nt => nt.state = .live &&
                  !decide (now.onStream p nt.areas) && nt.airsOn p)
              else [0#8, 0#8])))) ∧
          t.store = now.store ∧
          (moved = true → ∀ i, t.notice i = (s.notice i).map fun nt =>
            if nt.state = .live then
              nt.withRecord p (now.recordFor p nt.areas (nt.record p))
            else nt) ∧
          (moved = false → t.table = s.table) ∧ t.stream p = (s.stream p).runWithout lost ∧
          (∀ q, t.port q = (s.port q).heldWithout fun i => if lost i then chBit p else 0#4) ∧
          t.table = { s.table with slots := t.table.slots } ∧
          (old.carries = on → ∀ q, t.ann q = (if q = p ∧ old.target ≠ y then
            { s.ann q with closing := 0 } else s.ann q)) ∧
          (let a := s.ann p
           let closing := if old.target = y then a.closing else 0
           (old.carries = true → on = false →
             t.ann p = { a with
               state := .quiet
               linkCue := false
               cueLevel := false
               leadCtr := 0
               hangCtr := 0
               closing := closing } ∧
             ∀ q, q ≠ p → t.ann q = { s.ann q with
               closing := if (s.prog q).target = some p ∧
                   (a.state = .onAir ∨ a.state = .hanging) then 3 else (s.ann q).closing }) ∧
           (old.carries = false → on = true →
             t.ann p = { a with
               cueLevel := (match a.source with
                 | .line => a.lineLevel
                 | .link => a.linkCue
                 | .either => a.lineLevel || a.linkCue)
               closing := closing } ∧
             ∀ q, q ≠ p → t.ann q = s.ann q)) ∧
          (∀ n, n ≠ p → t.stream n = s.stream n) ∧ t.map = s.map ∧ t.time = s.time ∧
          t.monitor = s.monitor ∧ t.attention = s.attention)

/-- SET NAME with a short name: both names cut to 8 and 24 characters with their other bytes replaced,
the short one padded, and stored in the variant, which becomes current if all four were empty; a name
event when the variant is the current one. SET NAME without a short name clears a variant that is not
current. SELECT NAME makes a variant that is not empty current, with a name event (05 R103, R104, R106 to
R108).
That a clear carries no results, and REPLACED counts kept bytes only, are the model's readings
(log entries 13, 25). -/
def Obligations.NamesAreWrittenClearedAndSelected : Prop :=
  (∀ (bp bv : Byte) (short long : List Byte) (s : State), s.Ready .site → short ≠ [] →
    5 + short.length + long.length ≤ 250 →
    let cut (k : Nat) (cs : List Byte) := (cs.take k).map fun b =>
      if 0x20 ≤ b.toNat ∧ b.toNat ≤ 0x7E then b else 0x3F#8
    let other (k : Nat) (cs : List Byte) := (cs.take k).any fun b =>
      decide (b.toNat < 0x20 ∨ 0x7E < b.toNat)
    (3 < bp.toNat ∨ 3 < bv.toNat → exec (.setName .site bp bv short long) s =
      .next (s.send .site (refusal 0x31#8 .outOfRange))) ∧
    ∀ p v : Ch, bp.toNat = p.val → bv.toNat = v.val →
      let old := s.prog p
      let names : Names := ⟨cut 8 short ++ List.replicate (8 - short.length) 0x20#8,
        if long = [] then none else some (cut 24 long)⟩
      let fresh := decide (∀ w, old.variants.get w = none)
      let current := if fresh then v else old.current
      let t := s.setProg p
        { old with variants := old.variants.set v (some names), current := current }
      let u := if fresh = true ∨ v = old.current then
          t.setStream p { s.stream p with nameCtr := 0, longCtr := 0 }
        else t
      exec (.setName .site bp bv short long) s = .next (u.send .site
        ⟨0x31#8, .ok,
          ⟨false, decide (8 < short.length ∨ 24 < long.length), other 8 short || other 24 long,
            false⟩,
          [8#8] ++ names.short ++ nameBytes names.long ++
            beBytes 1 ((min 24 long.length + 3) / 4) ++ beBytes 1 current.val, none⟩)) ∧
  (∀ (bp bv : Byte) (long : List Byte) (s : State), s.Ready .site → 5 + long.length ≤ 250 →
    (3 < bp.toNat ∨ 3 < bv.toNat →
      exec (.setNameClear .site bp bv long) s =
          .next (s.send .site (refusal 0x31#8 .outOfRange)) ∧
        exec (.selectName .site bp bv) s =
          .next (s.send .site (refusal 0x32#8 .outOfRange))) ∧
    ∀ p v : Ch, bp.toNat = p.val → bv.toNat = v.val →
      let old := s.prog p
      exec (.setNameClear .site bp bv long) s = .next
        (if v = old.current then s.send .site (refusal 0x31#8 .inUse)
         else if old.variants.get v = none then s.send .site (sameAlready 0x31#8 [])
         else (s.setProg p { old with variants := old.variants.set v none }).send .site
           (okay 0x31#8 [])) ∧
      (old.variants.get v = none → exec (.selectName .site bp bv) s =
        .next (s.send .site (refusal 0x32#8 .emptyVariant))) ∧
      (∀ x, old.variants.get v = some x → exec (.selectName .site bp bv) s =
        .next (((s.setProg p { old with current := v }).setStream p
          { s.stream p with nameCtr := 0, longCtr := 0 }).send .site
            (okay 0x32#8 (beBytes 1 v.val ++ nameBytes (some x.short))))))

/-- SET TIMED CHANGE: on the traffic link NOT_PERMITTED, an entry above 7 or a programme or variant above 3
OUT_OF_RANGE; otherwise the entry is written and set in use, its period clamped to 60..604,800 with ADJUSTED
unless it is 0, OK with the entry as stored (05 R110, R111). From then on, with no work of a boundary
outstanding, an entry in use fires at the first second boundary, SET TIME or STEP TIME whose now is not
earlier than its target, be the target already past, and no other tick boundary fires it (05 R111, R112,
R115). CLEAR TIMED CHANGE: on the traffic link
NOT_PERMITTED, an entry above 7 OUT_OF_RANGE; an entry in use has in use cleared and keeps its other
fields, OK; another is UNCHANGED (05 R116).
The clause on when an entry fires is the model's choice in its form: that a boundary's works can be left
outstanding (log entry 3), that TIMED_CHANGE_FIRE changes nothing when none is (log entry 4), and that
SECOND_BOUNDARY is the whole tick boundary that ends tick number 19 (log entry 5). -/
def Obligations.TimedChangesAreSetAndCleared : Prop :=
  (∀ (entry prog variant : Byte) (target period : BitVec 32) (s : State), s.Ready .traffic →
    exec (.setTimedChange .traffic entry prog variant target period) s =
      .next (s.send .traffic (refusal 0x33#8 .notPermitted))) ∧
  (∀ (entry prog variant : Byte) (target period : BitVec 32) (s : State), s.Ready .site →
    (7 < entry.toNat ∨ 3 < prog.toNat ∨ 3 < variant.toNat →
      exec (.setTimedChange .site entry prog variant target period) s =
        .next (s.send .site (refusal 0x33#8 .outOfRange))) ∧
    ∀ p v : Ch, entry.toNat ≤ 7 → prog.toNat = p.val → variant.toNat = v.val →
      let q := if period.toNat = 0 then 0 else max 60 (min 604800 period.toNat)
      exec (.setTimedChange .site entry prog variant target period) s = .next
        (({ s with store := { s.store with
            timed := s.store.timed.set entry.toNat ⟨true, p, v, target.toNat, q⟩ } } : State).send
          .site (okayAdjusted 0x33#8 (decide (q ≠ period.toNat))
            ([1#8, prog, variant] ++ split4 target ++ beBytes 4 q)))) ∧
  (∀ (p : Port) (entry : Byte) (s : State), s.Ready p → s.store.timed.length = 8 →
    (p = .traffic → exec (.clearTimedChange p entry) s =
      .next (s.send p (refusal 0x34#8 .notPermitted))) ∧
    (p = .site → 7 < entry.toNat → exec (.clearTimedChange p entry) s =
      .next (s.send p (refusal 0x34#8 .outOfRange))) ∧
    (∀ e, p = .site → s.store.timed[entry.toNat]? = some e →
      exec (.clearTimedChange p entry) s = .next
        (if e.inUse then
          ({ s with store := { s.store with
            timed := s.store.timed.set entry.toNat { e with inUse := false } } } : State).send p
              (okay 0x34#8 [])
        else s.send p (sameAlready 0x34#8 [])))) ∧
  ∀ (k : Nat) (e : TimedEntry) (s : State), s.pornLow = false → s.due = [] →
    s.store.timed[k]? = some e →
    let leaves (c : Instr) (g : TimedEntry) : Prop :=
      ∃ t, exec c s = .next t ∧ t.store.timed[k]? = some g
    exec (.timedChangeFire k) s = .next s ∧
      (∀ lines, s.time.tickNumber < 19 → leaves (.tickBoundary lines []) e) ∧
      (∀ lines, s.time.tickNumber = 19 →
        let g := e.tested (min 4294967295 (s.time.seconds + 1))
        leaves (.tickBoundary lines []) g ∧ leaves (.secondBoundary lines []) g) ∧
      (s.Ready .site → ∀ v : BitVec 32,
        leaves (.setTime .site v) (e.tested v.toNat) ∧
          let stepped : Int := (s.time.seconds : Int) + v.toInt
          (-1000000 ≤ v.toInt → v.toInt ≤ 1000000 → 0 ≤ stepped → stepped ≤ 4294967295 →
            leaves (.stepTime .site v) (e.tested stepped.toNat)))

/-! ### Requests: the stream engines -/

/-- SET PLAN: a stream above 3 or a duty code above 4 is OUT_OF_RANGE, a plan without STATUS, NAME or 4
to 17 OPEN duties is PLAN_INVALID, and any other becomes the pending plan; the response counts its OPEN
duties and the ticks to tick number 0 (04 R84, R88). -/
def Obligations.SetPlanMakesAPlanPending : Prop :=
  ∀ (stream : Byte) (codes : List Byte) (s : State), s.Ready .site → codes.length = 20 →
    (3 < stream.toNat ∨ (∃ c ∈ codes, 4 < c.toNat) →
      exec (.setPlan .site stream codes) s =
        .next (s.send .site (refusal 0x35#8 .outOfRange))) ∧
    ∀ (n : Ch) (plan : List Duty), stream.toNat = n.val →
      codes = plan.map (fun d => BitVec.ofNat 8 d.code) →
      let opens := plan.count .openSlot
      let valid := Duty.status ∈ plan ∧ Duty.name ∈ plan ∧ 4 ≤ opens ∧ opens ≤ 17
      (¬ valid → exec (.setPlan .site stream codes) s =
        .next (s.send .site (refusal 0x35#8 .planInvalid))) ∧
      (valid → exec (.setPlan .site stream codes) s =
        .next ((s.setStream n { s.stream n with pendingPlan := some plan }).send .site
          (okay 0x35#8 (beBytes 1 opens ++ beBytes 1 (20 - s.time.tickNumber)))))

/-- START STREAM sets the start-pending mark of a STOPPED stream that has a code and a current name, or of
a STOPPING one; STOP STREAM puts a RUNNING or PAUSED stream into STOPPING with its run cut, and clears a
pending start of another. Each is UNCHANGED where there is nothing to do (04 R91, R93).
The bytes of the results are the model's reading (log entry 15). -/
def Obligations.StartAndStopStream : Prop :=
  ∀ (b : Byte) (s : State), s.Ready .site →
    (3 < b.toNat →
      exec (.startStream .site b) s = .next (s.send .site (refusal 0x36#8 .outOfRange)) ∧
        exec (.stopStream .site b) s = .next (s.send .site (refusal 0x37#8 .outOfRange))) ∧
    ∀ n : Ch, b.toNat = n.val →
      let x := s.stream n
      let told (y : Stream) := [BitVec.ofNat 8 y.state.code, flagByte y.startPending]
      let done (code : Byte) (y : Stream) := (s.setStream n y).send .site (okay code (told y))
      exec (.startStream .site b) s = .next
        (if x.state = .stopped ∧
            ((s.prog n).code = 0#16 ∨ (s.prog n).variants.get (s.prog n).current = none) then
          s.send .site (refusal 0x36#8 .notReady)
        else if x.state = .running ∨ x.state = .paused ∨ x.startPending = true then
          s.send .site (sameAlready 0x36#8 (told x))
        else done 0x36#8 { x with startPending := true }) ∧
      exec (.stopStream .site b) s = .next
        (if x.state = .running ∨ x.state = .paused then
          done 0x37#8 { x with state := .stopping, run := none }
        else if x.startPending = true then done 0x37#8 { x with startPending := false }
        else s.send .site (sameAlready 0x37#8 (told x)))

/-! ### Requests: announcements -/

/-- SET CUE stores its values, clamped with ADJUSTED. A change of source alone recomputes the cue level
and a rise or fall is acted on; a maximum that a bulletin has already reached ends it at once, BARRED from
ON_AIR and QUIET from HANGING, with OVERRUN (06 R136, R137).
That an unchanged maximum is not tested, and the bytes of the results, are the model's readings
(log entries 15, 20). -/
def Obligations.SetCueStoresAndActs : Prop :=
  ∀ (b source lead hangover : Byte) (maxSecs : BitVec 16) (s : State), s.Ready .site →
    let run := exec (.setCue .site b source lead hangover maxSecs) s
    (3 < b.toNat ∨ 2 < source.toNat →
      run = .next (s.send .site (refusal 0x40#8 .outOfRange))) ∧
    ∀ (p : Ch) (src : CueSource), b.toNat = p.val → source.toNat = src.code →
      let l := min 40 lead.toNat
      let h := min 200 hangover.toNat
      let m := max 10 (min 1800 maxSecs.toNat)
      let old := s.ann p
      let level := if old.source = src then old.cueLevel
        else (s.prog p).carries && (match src with
          | .line => old.lineLevel
          | .link => old.linkCue
          | .either => old.lineLevel || old.linkCue)
      let st := if level = old.cueLevel then old.state
        else if level then old.state.risen l else old.state.fallen h
      let start := if old.state = .quiet ∧ st = .onAir then some s.time.tickCount
        else old.bulletin.map fun x => x.count
      let ended := old.maxSecs ≠ m ∧ (st = .onAir ∨ st = .hanging) ∧
        ∃ c, start = some c ∧ m * 20 ≤ s.time.tickCount - c
      ∃ t : State, run = .next (t.send .site (okayAdjusted 0x40#8
          (decide (l ≠ lead.toNat ∨ h ≠ hangover.toNat ∨ m ≠ maxSecs.toNat))
          ([source] ++ beBytes 1 l ++ beBytes 1 h ++ beBytes 2 m ++
            beBytes 1 (t.ann p).state.code ++ [flagByte level]))) ∧
        (t.ann p).source = src ∧ (t.ann p).lead = l ∧ (t.ann p).hangover = h ∧
        (t.ann p).maxSecs = m ∧ (t.ann p).cueLevel = level ∧ (t.ann p).linkCue = old.linkCue ∧
        (t.ann p).leadCtr = (if st = old.state then old.leadCtr
          else if st = .leading then l
          else if old.state = .leading ∨ st = .onAir ∧ old.state = .quiet then 0
          else old.leadCtr) ∧
        (t.ann p).bulletin = (if old.state = .quiet ∧ st = .onAir then
          some ⟨s.time.seconds, s.time.tickNumber, s.time.tickCount⟩ else old.bulletin) ∧
        (t.ann p).bulletins = (if old.state = .quiet ∧ st = .onAir then
          min 65535 (old.bulletins + 1) else old.bulletins) ∧
        (ended → (t.ann p).state = (if st = .onAir then .barred else .quiet) ∧
          (t.ann p).hangCtr = 0 ∧ (t.ann p).overruns = min 65535 (old.overruns + 1) ∧
          (∀ q, q ≠ p → (t.ann q).closing =
            (if (s.prog q).target = some p then 3 else (s.ann q).closing)) ∧
          t.attention = { (s.withKind 0x004#11).attention with
            overrun := chInsert s.attention.overrun p }) ∧
        (¬ ended → (t.ann p).state = st ∧ (t.ann p).overruns = old.overruns ∧
          (t.ann p).hangCtr = (if st = old.state then old.hangCtr
            else if st = .hanging then h
            else if old.state = .hanging then 0 else old.hangCtr) ∧
          (∀ q, q ≠ p → (t.ann q).closing =
            (if (s.prog q).target = some p ∧ (t.ann p).flag ≠ old.flag then
              (if (t.ann p).flag then 0 else 3)
            else (s.ann q).closing)) ∧
          t.attention = s.attention) ∧
        (∀ q, q ≠ p → t.ann q = { s.ann q with closing := (t.ann q).closing }) ∧
        t = { s with announce := t.announce, attention := t.attention }

/-- CUE ON and CUE OFF: OUT_OF_RANGE, NOT_TRAFFIC and UNCHANGED change nothing; otherwise the link cue is
written and the cue level recomputed; a rise leads to LEADING, to ON_AIR without a lead or back to
ON_AIR, a fall to QUIET, or to HANGING where there is a hangover (06 R120, R122 to R125, R127, R138,
R139).
The bytes of the results are the model's reading (log entry 15). -/
def Obligations.CueOnAndOffAct : Prop :=
  ∀ (b : Byte) (on : Bool) (s : State), s.Ready .site →
    let c : Instr := if on then .cueOn .site b else .cueOff .site b
    let code := if on then 0x41#8 else 0x42#8
    (3 < b.toNat → exec c s = .next (s.send .site (refusal code .outOfRange))) ∧
    ∀ p : Ch, b.toNat = p.val →
      let old := s.ann p
      ((s.prog p).carries = false →
        exec c s = .next (s.send .site (refusal code .notTraffic))) ∧
      ((s.prog p).carries = true → old.linkCue = on →
        exec c s = .next (s.send .site (sameAlready code
          ([flagByte on, flagByte old.cueLevel] ++ beBytes 1 old.state.code)))) ∧
      ((s.prog p).carries = true → old.linkCue ≠ on →
        let level := (match old.source with
          | .line => old.lineLevel
          | .link => on
          | .either => old.lineLevel || on)
        let st := if level = old.cueLevel then old.state
          else if level then old.state.risen old.lead else old.state.fallen old.hangover
        ∃ t : State, exec c s = .next (t.send .site (okay code
            ([flagByte on, flagByte level] ++ beBytes 1 st.code))) ∧
          (t.ann p).linkCue = on ∧ (t.ann p).cueLevel = level ∧ (t.ann p).state = st ∧
          (t.ann p).leadCtr = (if st = old.state then old.leadCtr
            else if st = .leading then old.lead
            else if old.state = .leading ∨ st = .onAir ∧ old.state = .quiet then 0
            else old.leadCtr) ∧
          (t.ann p).hangCtr = (if st = old.state then old.hangCtr
            else if st = .hanging then old.hangover
            else if old.state = .hanging then 0 else old.hangCtr) ∧
          (t.ann p).bulletin = (if old.state = .quiet ∧ st = .onAir then
            some ⟨s.time.seconds, s.time.tickNumber, s.time.tickCount⟩ else old.bulletin) ∧
          (t.ann p).bulletins = (if old.state = .quiet ∧ st = .onAir then
            min 65535 (old.bulletins + 1) else old.bulletins) ∧
          (∀ q, q ≠ p → t.ann q = { s.ann q with
            closing :=
              (if (s.prog q).target = some p ∧ (t.ann p).flag ≠ old.flag then
                (if (t.ann p).flag then 0 else 3)
              else (s.ann q).closing) }) ∧
          t = { s with announce := t.announce })

/-! ### Requests: site time and the monitor -/

/-- SET TIME and STEP TIME: a step outside a million seconds, or out of the range of site seconds, is
OUT_OF_RANGE and changes nothing; otherwise site seconds change, SET TIME sets the set flag, and the notice
table and the timed changes are tested at once against the new seconds: a timed change that fires is
cleared, or goes on to its first time later than now, the highest-numbered one with a variant that is not
empty sets its programme's current variant with a name event, and TIMED_SKIPPED is raised for the programmes
of those with an empty one (01 R8; 05 R112, R113, R115; 07 R148 to R150). Works of the last second boundary
that were left outstanding, and at tick number 0 the works of the stream engines and of announcement
control, take its own seconds first (07 R148, R149; log entry 3).
The bytes of the results are the model's reading (log entry 15). -/
def Obligations.TimeIsSetAndStepped : Prop :=
  ∀ (v : BitVec 32) (s : State), s.Ready .site → s.TableSound →
    let r := s.flushSeconds
    let stepped : Int := (s.time.seconds : Int) + v.toInt
    let ended (x : SiteTime) (i : Nat) : Bool := (r.notice i).any fun nt =>
      decide (nt.state = .live ∧ nt.endsAt ≤ x.seconds)
    let taken (x : SiteTime) (t : State) : Prop :=
      t.time = x ∧ (∀ i, t.notice i = (r.notice i).bind (r.setTime x).tested) ∧
        t.table = { r.table with slots := t.table.slots } ∧ t.map = r.map ∧
        t.announce = r.announce ∧ t.monitor = r.monitor ∧
        t.store.timed = r.store.timed.map (fun e => e.tested x.seconds) ∧
        (∀ e ∈ t.store.timed, e.inUse = true → x.seconds < e.target) ∧
        (∀ p, t.prog p = { r.prog p with
          current := (r.timedVariant p x.seconds).getD (r.prog p).current }) ∧
        (∀ n, t.stream n =
          ((r.stream n).runWithout (ended x)).renamed (r.timedVariant n x.seconds)) ∧
        (∀ q, t.port q = (match (r.port q).held with
          | some h => if ended x h.slot then (r.port q).heldAnswered .superseded else r.port q
          | none => r.port q)) ∧
        t.attention = r.attention.withSkipped (chSet (r.timedSkips · x.seconds)) ∧
        t.due = s.due.filter (fun w => !readsSeconds s.time.tickNumber w)
    let told (x : SiteTime) := beBytes 4 x.seconds ++ [flagByte x.isSet] ++
      beBytes 1 x.tickNumber ++ beBytes 6 x.tickCount
    let second (w : Work) : Prop := w = .minute ∨ (∃ i, w = .noticeTest i) ∨
      w = .timedFire ∨
      s.time.tickNumber = 0 ∧ ((∃ n, w = .stream n) ∨ ∃ p, w = .announce p)
    ((∀ w ∈ s.due, ¬ second w) → r = s) ∧ ((∀ w ∈ s.due, second w) → r = s.flushDue) ∧
    (∀ w, readsSeconds s.time.tickNumber w = true ↔ second w) ∧
    (let x := { s.time with seconds := v.toNat, isSet := true }
      ∃ t : State, exec (.setTime .site v) s = .next (t.send .site (okay 0x50#8 (told x))) ∧
        taken x t) ∧
    (v.toInt < -1000000 ∨ 1000000 < v.toInt ∨ stepped < 0 ∨ 4294967295 < stepped →
      exec (.stepTime .site v) s = .next (s.send .site (refusal 0x51#8 .outOfRange))) ∧
    (-1000000 ≤ v.toInt → v.toInt ≤ 1000000 → 0 ≤ stepped → stepped ≤ 4294967295 →
      let x := { s.time with seconds := stepped.toNat }
      ∃ t : State, exec (.stepTime .site v) s = .next (t.send .site (okay 0x51#8 (told x))) ∧
        taken x t)

/-- SET TRIM and TRIM FOR store the trim, and its duration, clamped with ADJUSTED; nothing of the tick in
progress changes (07 R145, R146). SET TRIM reports the temporary trim and the effective one at the next
boundary, a trim with no duration left as absent (07 R144).
The bytes of the results, and the field of a trim with no duration left, are the model's (log entries 15,
30). -/
def Obligations.TrimsAreStored : Prop :=
  ∀ (trim duration : BitVec 32) (s : State), s.Ready .site →
    let v := max (-20000) (min 20000 trim.toInt)
    let d := max 1 (min 65535 duration.toNat)
    exec (.setTrim .site trim) s = .next ((s.setTime { s.time with standing := v }).send .site
      (okayAdjusted 0x52#8 (decide (v ≠ trim.toInt))
        (intBytes 2 v ++ (match s.time.temporary with
          | some (w, k + 1) => [1#8] ++ intBytes 2 w ++ beBytes 2 (k + 1) ++ intBytes 2 w
          | _ => List.replicate 5 0#8 ++ intBytes 2 v)))) ∧
    exec (.trimFor .site trim duration) s =
      .next ((s.setTime { s.time with temporary := some (v, d) }).send .site
        (okayAdjusted 0x53#8 (decide (v ≠ trim.toInt ∨ d ≠ duration.toNat))
          (intBytes 2 s.time.standing ++ intBytes 2 v ++ beBytes 2 d ++
            beBytes 6 (s.time.tickCount + 1))))

/-- SET MONITOR: OUT_OF_RANGE changes nothing, the values already stored are UNCHANGED; otherwise they
are stored, a tolerance above 1 clamped with ADJUSTED, and the monitor starts afresh, the last-minute
tallies and span kept (08 R174).
That UNCHANGED keeps ADJUSTED is the model's reading (log entry 26). -/
def Obligations.SetMonitorStartsAfresh : Prop :=
  ∀ (enable watched tolerance : Byte) (s : State), s.Ready .site →
    (1 < enable.toNat ∨ 3 < watched.toNat →
      exec (.setMonitor .site enable watched tolerance) s =
        .next (s.send .site (refusal 0x60#8 .outOfRange))) ∧
    ∀ w : Ch, enable.toNat ≤ 1 → watched.toNat = w.val →
      let m := s.monitor
      let k := min 1 tolerance.toNat
      let clamped := decide (k ≠ tolerance.toNat)
      (decide (m.state ≠ .off) = decide (enable = 1#8) → m.watched = w → m.tolerance = k →
        exec (.setMonitor .site enable watched tolerance) s = .next (s.send .site
          ⟨0x60#8, .unchanged, { RFlags.none with adjusted := clamped },
            [enable, watched] ++ beBytes 1 k ++ beBytes 1 m.state.code, none⟩)) ∧
      ((decide (m.state ≠ .off) ≠ decide (enable = 1#8) ∨ m.watched ≠ w ∨ m.tolerance ≠ k) →
        exec (.setMonitor .site enable watched tolerance) s =
          .next ((s.setMonitor { Monitor.reset with
            state := if enable = 1#8 then .searching else .off
            watched := w
            tolerance := k
            holdingStart := s.time.tickCount
            last := m.last
            span := m.span }).send .site
              (okayAdjusted 0x60#8 clamped ([enable, watched] ++ beBytes 1 k ++ [enable]))))

/-! ### Encodings -/

/-- The parameters that the dispatcher reads from a request's frame are the request's, for every request
whose body has a length that fits it (09 R187, sections 9.8 and 9.9). -/
def Obligations.EveryRequestIsReadAsItIsWritten : Prop :=
  ∀ r : Request, r.fits = true → parseRequest (requestCode r) (requestParams r) = some r

/-- A request's frame received byte by byte, lead first and check last, does what the request's command
does: the frames of 09 9.2 and the rows of 09 9.8 are one interface (09 R179, R182 to R185).
That a request's row stands for its whole frame is the model's choice (log entry 6). -/
def Obligations.AFrameReceivedIsItsCommand : Prop :=
  ∀ (c : Instr) (p : Port) (r : Request) (s : State), s.pornLow = false →
    commandRequest c = some (p, r) → r.fits = true → (s.port p).asm = .hunt →
    let body := requestBody r
    exec c (s.setPort p { s.port p with timer := 0, stray := false }) =
      .next (s.after
        ((0xA5#8 :: BitVec.ofNat 8 body.length :: (body ++ split2 (frameCheck body))).map
          fun b => Instr.byteReceived p (.byte b)))

/-- A cell as a stream engine forms it, heard whole by a monitor that watches its programme, is judged an
own cell of its kind and payload; with any one bit of its header inverted it is so judged too, and the
header counted as corrected; with any two bits of its header inverted it is a header fault; with another
check it is a check fault; and heard by a monitor that watches another code, or the unset code 0, it is
foreign (04 R75 to R77; 08 R164 to R166). -/
def Obligations.AFormedCellIsJudgedOwn : Prop :=
  ∀ (code watched : BitVec 16) (k : Kind) (payload : BitVec 48),
    let bits := (msbBits (formCell code k payload)).drop 8
    (code ≠ 0#16 → judge code bits = .own false k.code payload ∧
      ∀ i < 8, ∀ b, bits[i]? = some b →
        judge code (bits.set i (!b)) = .own true k.code payload) ∧
    (∀ i j, i < j → j < 8 → ∀ a b, bits[i]? = some a → bits[j]? = some b →
      judge watched ((bits.set i (!a)).set j (!b)) = .headerFault) ∧
    (∀ check : BitVec 16, msbBits check ≠ bits.drop 72 →
      judge watched (bits.take 72 ++ msbBits check) = .checkFault false) ∧
    (watched ≠ code ∨ watched = 0#16 → judge watched bits = .foreign false)

/-! ### Invariants -/

/-- The reset state meets every invariant. -/
def Obligations.TheResetStateIsSound : Prop :=
  State.reset.TableSound ∧ State.reset.LimitsSound ∧ State.reset.Carrying ∧ State.reset.MapSound ∧
    State.reset.TimedSound ∧ State.reset.RunsSound ∧ State.reset.PlansValid ∧
    State.reset.Identified ∧ State.reset.AnnounceSound ∧ State.reset.ClockSound ∧
    State.reset.PortsSound ∧ State.reset.AttentionSound

/-- Every step keeps the table at 96 slots with no number in two of them (01 R1), and the class parameters
and the notice limits within their ranges (01 R28, 03 R67). -/
def Obligations.EveryStepKeepsTheNoticeTable : Prop :=
  (∀ s t : State, s.TableSound → step s = .next t → t.TableSound) ∧
    ∀ s t : State, s.LimitsSound → step s = .next t → t.LimitsSound

/-- Every step keeps the carrying condition: a stream holds an AIRING record for a notice exactly when it
carries it, a PENDING notice has no record, and a WITHDRAWING one has WITHDRAWAL records, at least one
(01 R5, R10; 02 R45). -/
def Obligations.EveryStepKeepsTheCarryingCondition : Prop :=
  ∀ s t : State, s.Carrying → step s = .next t → t.Carrying

/-- Every step keeps the announcement records sound: counters run only in their states, the cue level is
its terms', and a programme without carries-traffic is QUIET (06 R118, R120, R121). -/
def Obligations.EveryStepKeepsTheAnnouncements : Prop :=
  ∀ s t : State, s.AnnounceSound → step s = .next t → t.AnnounceSound

/-- Every step keeps the clock in range, the slot plans valid, a run on RUNNING streams only, every stream
that is started under a code and a current name, the location map at 32 entries with first not above last
and an area 0..15, and the timed changes at eight entries with a period of 0 or 60..604,800 (02 R34; 03 R52,
R62; 04 R84, R91, R94; 05 R101, R103, R110; 07 R141). -/
def Obligations.EveryStepKeepsClockPlansAndIdentity : Prop :=
  (∀ s t : State, s.ClockSound → step s = .next t → t.ClockSound) ∧
    (∀ s t : State, s.PlansValid → step s = .next t → t.PlansValid) ∧
    (∀ s t : State, s.RunsSound → step s = .next t → t.RunsSound) ∧
    (∀ s t : State, s.MapSound → step s = .next t → t.MapSound) ∧
    (∀ s t : State, s.TimedSound → step s = .next t → t.TimedSound) ∧
    ∀ s t : State, s.Identified → step s = .next t → t.Identified

/-- Every step keeps a held submit waiting for a stream, a frame waiting only behind a response, a frame in
assembly within 1..250 body bytes, and the detail of every kind that is not pending empty (01 R31; 09 R179,
R183; 10 R198). -/
def Obligations.EveryStepKeepsPortsAndAttention : Prop :=
  (∀ s t : State, s.PortsSound → step s = .next t → t.PortsSound) ∧
    ∀ s t : State, s.AttentionSound → step s = .next t → t.AttentionSound
end

