-- ==== Sys2Proof/Laws/State.lean ====
section
/-! SUPPORT. Reading a part of State after it has been written: one lemma per field and update, so that
no proof unfolds a record update. -/

namespace Sys2Proof

variable {α : Type}

@[simp] theorem Four.get_set_self (f : Four α) (n : Ch) (a : α) : (f.set n a).get n = a := by
  match n with
  | 0 | 1 | 2 | 3 => rfl

@[simp] theorem Four.get_set_ne (f : Four α) (n m : Ch) (a : α) (h : m ≠ n) :
    (f.set n a).get m = f.get m := by
  match n, m with
  | 0, 0 | 1, 1 | 2, 2 | 3, 3 => exact absurd rfl h
  | 0, 1 | 0, 2 | 0, 3 | 1, 0 | 1, 2 | 1, 3 | 2, 0 | 2, 1 | 2, 3 | 3, 0 | 3, 1 | 3, 2 => rfl

@[simp] theorem Four.get_all (a : α) (n : Ch) : (Four.all a).get n = a := by
  match n with
  | 0 | 1 | 2 | 3 => rfl

@[simp] theorem Four.get_tab (g : Ch → α) (n : Ch) : (Four.tab g).get n = g n := by
  match n with
  | 0 | 1 | 2 | 3 => rfl

theorem Four.ext_get {f g : Four α} (h : ∀ n, f.get n = g.get n) : f = g := by
  cases f; cases g
  have h0 := h 0
  have h1 := h 1
  have h2 := h 2
  have h3 := h 3
  simp only [Four.get] at h0 h1 h2 h3
  subst h0 h1 h2 h3
  rfl

@[simp] theorem Ports.get_set_self (f : Ports α) (p : Port) (a : α) : (f.set p a).get p = a := by
  cases p <;> rfl

@[simp] theorem Ports.get_set_ne (f : Ports α) (p q : Port) (a : α) (h : q ≠ p) :
    (f.set p a).get q = f.get q := by
  cases p <;> cases q <;> first | rfl | exact absurd rfl h

end Sys2Proof

namespace Sys2Proof.Machine

/-! ### `setStream` -/

@[simp] theorem State.setStream_pending (s : State) (n : Ch) (x : Stream) : (s.setStream n x).pending = s.pending := rfl
@[simp] theorem State.setStream_due (s : State) (n : Ch) (x : Stream) : (s.setStream n x).due = s.due := rfl
@[simp] theorem State.setStream_pornLow (s : State) (n : Ch) (x : Stream) : (s.setStream n x).pornLow = s.pornLow := rfl
@[simp] theorem State.setStream_cuePins (s : State) (n : Ch) (x : Stream) : (s.setStream n x).cuePins = s.cuePins := rfl
@[simp] theorem State.setStream_mrdyPins (s : State) (n : Ch) (x : Stream) : (s.setStream n x).mrdyPins = s.mrdyPins := rfl
@[simp] theorem State.setStream_table (s : State) (n : Ch) (x : Stream) : (s.setStream n x).table = s.table := rfl
@[simp] theorem State.setStream_map (s : State) (n : Ch) (x : Stream) : (s.setStream n x).map = s.map := rfl
@[simp] theorem State.setStream_store (s : State) (n : Ch) (x : Stream) : (s.setStream n x).store = s.store := rfl
@[simp] theorem State.setStream_streams (s : State) (n : Ch) (x : Stream) : (s.setStream n x).streams = s.streams.set n x := rfl
@[simp] theorem State.setStream_announce (s : State) (n : Ch) (x : Stream) : (s.setStream n x).announce = s.announce := rfl
@[simp] theorem State.setStream_time (s : State) (n : Ch) (x : Stream) : (s.setStream n x).time = s.time := rfl
@[simp] theorem State.setStream_monitor (s : State) (n : Ch) (x : Stream) : (s.setStream n x).monitor = s.monitor := rfl
@[simp] theorem State.setStream_ports (s : State) (n : Ch) (x : Stream) : (s.setStream n x).ports = s.ports := rfl
@[simp] theorem State.setStream_attention (s : State) (n : Ch) (x : Stream) : (s.setStream n x).attention = s.attention := rfl

/-! ### `setProg` -/

@[simp] theorem State.setProg_pending (s : State) (p : Ch) (x : Programme) : (s.setProg p x).pending = s.pending := rfl
@[simp] theorem State.setProg_due (s : State) (p : Ch) (x : Programme) : (s.setProg p x).due = s.due := rfl
@[simp] theorem State.setProg_pornLow (s : State) (p : Ch) (x : Programme) : (s.setProg p x).pornLow = s.pornLow := rfl
@[simp] theorem State.setProg_cuePins (s : State) (p : Ch) (x : Programme) : (s.setProg p x).cuePins = s.cuePins := rfl
@[simp] theorem State.setProg_mrdyPins (s : State) (p : Ch) (x : Programme) : (s.setProg p x).mrdyPins = s.mrdyPins := rfl
@[simp] theorem State.setProg_table (s : State) (p : Ch) (x : Programme) : (s.setProg p x).table = s.table := rfl
@[simp] theorem State.setProg_map (s : State) (p : Ch) (x : Programme) : (s.setProg p x).map = s.map := rfl
@[simp] theorem State.setProg_streams (s : State) (p : Ch) (x : Programme) : (s.setProg p x).streams = s.streams := rfl
@[simp] theorem State.setProg_announce (s : State) (p : Ch) (x : Programme) : (s.setProg p x).announce = s.announce := rfl
@[simp] theorem State.setProg_time (s : State) (p : Ch) (x : Programme) : (s.setProg p x).time = s.time := rfl
@[simp] theorem State.setProg_monitor (s : State) (p : Ch) (x : Programme) : (s.setProg p x).monitor = s.monitor := rfl
@[simp] theorem State.setProg_ports (s : State) (p : Ch) (x : Programme) : (s.setProg p x).ports = s.ports := rfl
@[simp] theorem State.setProg_attention (s : State) (p : Ch) (x : Programme) : (s.setProg p x).attention = s.attention := rfl

/-! ### `setAnn` -/

@[simp] theorem State.setAnn_pending (s : State) (p : Ch) (x : Announce) : (s.setAnn p x).pending = s.pending := rfl
@[simp] theorem State.setAnn_due (s : State) (p : Ch) (x : Announce) : (s.setAnn p x).due = s.due := rfl
@[simp] theorem State.setAnn_pornLow (s : State) (p : Ch) (x : Announce) : (s.setAnn p x).pornLow = s.pornLow := rfl
@[simp] theorem State.setAnn_cuePins (s : State) (p : Ch) (x : Announce) : (s.setAnn p x).cuePins = s.cuePins := rfl
@[simp] theorem State.setAnn_mrdyPins (s : State) (p : Ch) (x : Announce) : (s.setAnn p x).mrdyPins = s.mrdyPins := rfl
@[simp] theorem State.setAnn_table (s : State) (p : Ch) (x : Announce) : (s.setAnn p x).table = s.table := rfl
@[simp] theorem State.setAnn_map (s : State) (p : Ch) (x : Announce) : (s.setAnn p x).map = s.map := rfl
@[simp] theorem State.setAnn_store (s : State) (p : Ch) (x : Announce) : (s.setAnn p x).store = s.store := rfl
@[simp] theorem State.setAnn_streams (s : State) (p : Ch) (x : Announce) : (s.setAnn p x).streams = s.streams := rfl
@[simp] theorem State.setAnn_announce (s : State) (p : Ch) (x : Announce) : (s.setAnn p x).announce = s.announce.set p x := rfl
@[simp] theorem State.setAnn_time (s : State) (p : Ch) (x : Announce) : (s.setAnn p x).time = s.time := rfl
@[simp] theorem State.setAnn_monitor (s : State) (p : Ch) (x : Announce) : (s.setAnn p x).monitor = s.monitor := rfl
@[simp] theorem State.setAnn_ports (s : State) (p : Ch) (x : Announce) : (s.setAnn p x).ports = s.ports := rfl
@[simp] theorem State.setAnn_attention (s : State) (p : Ch) (x : Announce) : (s.setAnn p x).attention = s.attention := rfl

/-! ### `setPort` -/

@[simp] theorem State.setPort_pending (s : State) (p : Port) (x : PortState) : (s.setPort p x).pending = s.pending := rfl
@[simp] theorem State.setPort_due (s : State) (p : Port) (x : PortState) : (s.setPort p x).due = s.due := rfl
@[simp] theorem State.setPort_pornLow (s : State) (p : Port) (x : PortState) : (s.setPort p x).pornLow = s.pornLow := rfl
@[simp] theorem State.setPort_cuePins (s : State) (p : Port) (x : PortState) : (s.setPort p x).cuePins = s.cuePins := rfl
@[simp] theorem State.setPort_mrdyPins (s : State) (p : Port) (x : PortState) : (s.setPort p x).mrdyPins = s.mrdyPins := rfl
@[simp] theorem State.setPort_table (s : State) (p : Port) (x : PortState) : (s.setPort p x).table = s.table := rfl
@[simp] theorem State.setPort_map (s : State) (p : Port) (x : PortState) : (s.setPort p x).map = s.map := rfl
@[simp] theorem State.setPort_store (s : State) (p : Port) (x : PortState) : (s.setPort p x).store = s.store := rfl
@[simp] theorem State.setPort_streams (s : State) (p : Port) (x : PortState) : (s.setPort p x).streams = s.streams := rfl
@[simp] theorem State.setPort_announce (s : State) (p : Port) (x : PortState) : (s.setPort p x).announce = s.announce := rfl
@[simp] theorem State.setPort_time (s : State) (p : Port) (x : PortState) : (s.setPort p x).time = s.time := rfl
@[simp] theorem State.setPort_monitor (s : State) (p : Port) (x : PortState) : (s.setPort p x).monitor = s.monitor := rfl
@[simp] theorem State.setPort_ports (s : State) (p : Port) (x : PortState) : (s.setPort p x).ports = s.ports.set p x := rfl
@[simp] theorem State.setPort_attention (s : State) (p : Port) (x : PortState) : (s.setPort p x).attention = s.attention := rfl

/-! ### `setTime` -/

@[simp] theorem State.setTime_pending (s : State) (x : SiteTime) : (s.setTime x).pending = s.pending := rfl
@[simp] theorem State.setTime_due (s : State) (x : SiteTime) : (s.setTime x).due = s.due := rfl
@[simp] theorem State.setTime_pornLow (s : State) (x : SiteTime) : (s.setTime x).pornLow = s.pornLow := rfl
@[simp] theorem State.setTime_cuePins (s : State) (x : SiteTime) : (s.setTime x).cuePins = s.cuePins := rfl
@[simp] theorem State.setTime_mrdyPins (s : State) (x : SiteTime) : (s.setTime x).mrdyPins = s.mrdyPins := rfl
@[simp] theorem State.setTime_table (s : State) (x : SiteTime) : (s.setTime x).table = s.table := rfl
@[simp] theorem State.setTime_map (s : State) (x : SiteTime) : (s.setTime x).map = s.map := rfl
@[simp] theorem State.setTime_store (s : State) (x : SiteTime) : (s.setTime x).store = s.store := rfl
@[simp] theorem State.setTime_streams (s : State) (x : SiteTime) : (s.setTime x).streams = s.streams := rfl
@[simp] theorem State.setTime_announce (s : State) (x : SiteTime) : (s.setTime x).announce = s.announce := rfl
@[simp] theorem State.setTime_time (s : State) (x : SiteTime) : (s.setTime x).time = x := rfl
@[simp] theorem State.setTime_monitor (s : State) (x : SiteTime) : (s.setTime x).monitor = s.monitor := rfl
@[simp] theorem State.setTime_ports (s : State) (x : SiteTime) : (s.setTime x).ports = s.ports := rfl
@[simp] theorem State.setTime_attention (s : State) (x : SiteTime) : (s.setTime x).attention = s.attention := rfl

/-! ### `setMonitor` -/

@[simp] theorem State.setMonitor_pending (s : State) (x : Monitor) : (s.setMonitor x).pending = s.pending := rfl
@[simp] theorem State.setMonitor_due (s : State) (x : Monitor) : (s.setMonitor x).due = s.due := rfl
@[simp] theorem State.setMonitor_pornLow (s : State) (x : Monitor) : (s.setMonitor x).pornLow = s.pornLow := rfl
@[simp] theorem State.setMonitor_cuePins (s : State) (x : Monitor) : (s.setMonitor x).cuePins = s.cuePins := rfl
@[simp] theorem State.setMonitor_mrdyPins (s : State) (x : Monitor) : (s.setMonitor x).mrdyPins = s.mrdyPins := rfl
@[simp] theorem State.setMonitor_table (s : State) (x : Monitor) : (s.setMonitor x).table = s.table := rfl
@[simp] theorem State.setMonitor_map (s : State) (x : Monitor) : (s.setMonitor x).map = s.map := rfl
@[simp] theorem State.setMonitor_store (s : State) (x : Monitor) : (s.setMonitor x).store = s.store := rfl
@[simp] theorem State.setMonitor_streams (s : State) (x : Monitor) : (s.setMonitor x).streams = s.streams := rfl
@[simp] theorem State.setMonitor_announce (s : State) (x : Monitor) : (s.setMonitor x).announce = s.announce := rfl
@[simp] theorem State.setMonitor_time (s : State) (x : Monitor) : (s.setMonitor x).time = s.time := rfl
@[simp] theorem State.setMonitor_monitor (s : State) (x : Monitor) : (s.setMonitor x).monitor = x := rfl
@[simp] theorem State.setMonitor_ports (s : State) (x : Monitor) : (s.setMonitor x).ports = s.ports := rfl
@[simp] theorem State.setMonitor_attention (s : State) (x : Monitor) : (s.setMonitor x).attention = s.attention := rfl

/-! ### `setTable` -/

@[simp] theorem State.setTable_pending (s : State) (x : Table) : (s.setTable x).pending = s.pending := rfl
@[simp] theorem State.setTable_due (s : State) (x : Table) : (s.setTable x).due = s.due := rfl
@[simp] theorem State.setTable_pornLow (s : State) (x : Table) : (s.setTable x).pornLow = s.pornLow := rfl
@[simp] theorem State.setTable_cuePins (s : State) (x : Table) : (s.setTable x).cuePins = s.cuePins := rfl
@[simp] theorem State.setTable_mrdyPins (s : State) (x : Table) : (s.setTable x).mrdyPins = s.mrdyPins := rfl
@[simp] theorem State.setTable_table (s : State) (x : Table) : (s.setTable x).table = x := rfl
@[simp] theorem State.setTable_map (s : State) (x : Table) : (s.setTable x).map = s.map := rfl
@[simp] theorem State.setTable_store (s : State) (x : Table) : (s.setTable x).store = s.store := rfl
@[simp] theorem State.setTable_streams (s : State) (x : Table) : (s.setTable x).streams = s.streams := rfl
@[simp] theorem State.setTable_announce (s : State) (x : Table) : (s.setTable x).announce = s.announce := rfl
@[simp] theorem State.setTable_time (s : State) (x : Table) : (s.setTable x).time = s.time := rfl
@[simp] theorem State.setTable_monitor (s : State) (x : Table) : (s.setTable x).monitor = s.monitor := rfl
@[simp] theorem State.setTable_ports (s : State) (x : Table) : (s.setTable x).ports = s.ports := rfl
@[simp] theorem State.setTable_attention (s : State) (x : Table) : (s.setTable x).attention = s.attention := rfl

/-! ### `setSlot` -/

@[simp] theorem State.setSlot_pending (s : State) (i : Nat) (x : Option Notice) : (s.setSlot i x).pending = s.pending := rfl
@[simp] theorem State.setSlot_due (s : State) (i : Nat) (x : Option Notice) : (s.setSlot i x).due = s.due := rfl
@[simp] theorem State.setSlot_pornLow (s : State) (i : Nat) (x : Option Notice) : (s.setSlot i x).pornLow = s.pornLow := rfl
@[simp] theorem State.setSlot_cuePins (s : State) (i : Nat) (x : Option Notice) : (s.setSlot i x).cuePins = s.cuePins := rfl
@[simp] theorem State.setSlot_mrdyPins (s : State) (i : Nat) (x : Option Notice) : (s.setSlot i x).mrdyPins = s.mrdyPins := rfl
@[simp] theorem State.setSlot_map (s : State) (i : Nat) (x : Option Notice) : (s.setSlot i x).map = s.map := rfl
@[simp] theorem State.setSlot_store (s : State) (i : Nat) (x : Option Notice) : (s.setSlot i x).store = s.store := rfl
@[simp] theorem State.setSlot_streams (s : State) (i : Nat) (x : Option Notice) : (s.setSlot i x).streams = s.streams := rfl
@[simp] theorem State.setSlot_announce (s : State) (i : Nat) (x : Option Notice) : (s.setSlot i x).announce = s.announce := rfl
@[simp] theorem State.setSlot_time (s : State) (i : Nat) (x : Option Notice) : (s.setSlot i x).time = s.time := rfl
@[simp] theorem State.setSlot_monitor (s : State) (i : Nat) (x : Option Notice) : (s.setSlot i x).monitor = s.monitor := rfl
@[simp] theorem State.setSlot_ports (s : State) (i : Nat) (x : Option Notice) : (s.setSlot i x).ports = s.ports := rfl
@[simp] theorem State.setSlot_attention (s : State) (i : Nat) (x : Option Notice) : (s.setSlot i x).attention = s.attention := rfl

/-! ### `raise` -/

@[simp] theorem State.raise_pending (s : State) (e : AttnEvent) : (s.raise e).pending = s.pending := rfl
@[simp] theorem State.raise_due (s : State) (e : AttnEvent) : (s.raise e).due = s.due := rfl
@[simp] theorem State.raise_pornLow (s : State) (e : AttnEvent) : (s.raise e).pornLow = s.pornLow := rfl
@[simp] theorem State.raise_cuePins (s : State) (e : AttnEvent) : (s.raise e).cuePins = s.cuePins := rfl
@[simp] theorem State.raise_mrdyPins (s : State) (e : AttnEvent) : (s.raise e).mrdyPins = s.mrdyPins := rfl
@[simp] theorem State.raise_table (s : State) (e : AttnEvent) : (s.raise e).table = s.table := rfl
@[simp] theorem State.raise_map (s : State) (e : AttnEvent) : (s.raise e).map = s.map := rfl
@[simp] theorem State.raise_store (s : State) (e : AttnEvent) : (s.raise e).store = s.store := rfl
@[simp] theorem State.raise_streams (s : State) (e : AttnEvent) : (s.raise e).streams = s.streams := rfl
@[simp] theorem State.raise_announce (s : State) (e : AttnEvent) : (s.raise e).announce = s.announce := rfl
@[simp] theorem State.raise_time (s : State) (e : AttnEvent) : (s.raise e).time = s.time := rfl
@[simp] theorem State.raise_monitor (s : State) (e : AttnEvent) : (s.raise e).monitor = s.monitor := rfl
@[simp] theorem State.raise_ports (s : State) (e : AttnEvent) : (s.raise e).ports = s.ports := rfl

/-! ### `send` -/

@[simp] theorem State.send_pending (s : State) (p : Port) (r : Response) : (s.send p r).pending = s.pending := rfl
@[simp] theorem State.send_due (s : State) (p : Port) (r : Response) : (s.send p r).due = s.due := rfl
@[simp] theorem State.send_pornLow (s : State) (p : Port) (r : Response) : (s.send p r).pornLow = s.pornLow := rfl
@[simp] theorem State.send_cuePins (s : State) (p : Port) (r : Response) : (s.send p r).cuePins = s.cuePins := rfl
@[simp] theorem State.send_mrdyPins (s : State) (p : Port) (r : Response) : (s.send p r).mrdyPins = s.mrdyPins := rfl
@[simp] theorem State.send_table (s : State) (p : Port) (r : Response) : (s.send p r).table = s.table := rfl
@[simp] theorem State.send_map (s : State) (p : Port) (r : Response) : (s.send p r).map = s.map := rfl
@[simp] theorem State.send_store (s : State) (p : Port) (r : Response) : (s.send p r).store = s.store := rfl
@[simp] theorem State.send_streams (s : State) (p : Port) (r : Response) : (s.send p r).streams = s.streams := rfl
@[simp] theorem State.send_announce (s : State) (p : Port) (r : Response) : (s.send p r).announce = s.announce := rfl
@[simp] theorem State.send_time (s : State) (p : Port) (r : Response) : (s.send p r).time = s.time := rfl
@[simp] theorem State.send_monitor (s : State) (p : Port) (r : Response) : (s.send p r).monitor = s.monitor := rfl
@[simp] theorem State.send_attention (s : State) (p : Port) (r : Response) : (s.send p r).attention = s.attention := rfl

/-! ### Accessors after updates -/

@[simp] theorem State.stream_setStream_self (s : State) (n : Ch) (x : Stream) :
    (s.setStream n x).stream n = x := by simp [State.stream]

@[simp] theorem State.stream_setStream_ne (s : State) (n m : Ch) (x : Stream) (h : m ≠ n) :
    (s.setStream n x).stream m = s.stream m := by simp [State.stream, h]

@[simp] theorem State.ann_setAnn_self (s : State) (p : Ch) (x : Announce) :
    (s.setAnn p x).ann p = x := by simp [State.ann]

@[simp] theorem State.ann_setAnn_ne (s : State) (p q : Ch) (x : Announce) (h : q ≠ p) :
    (s.setAnn p x).ann q = s.ann q := by simp [State.ann, h]

@[simp] theorem State.prog_setProg_self (s : State) (p : Ch) (x : Programme) :
    (s.setProg p x).prog p = x := by simp [State.prog, State.setProg]

@[simp] theorem State.prog_setProg_ne (s : State) (p q : Ch) (x : Programme) (h : q ≠ p) :
    (s.setProg p x).prog q = s.prog q := by simp [State.prog, State.setProg, h]

@[simp] theorem State.port_setPort_self (s : State) (p : Port) (x : PortState) :
    (s.setPort p x).port p = x := by simp [State.port]

@[simp] theorem State.port_setPort_ne (s : State) (p q : Port) (x : PortState) (h : q ≠ p) :
    (s.setPort p x).port q = s.port q := by simp [State.port, h]

@[simp] theorem State.stream_setProg (s : State) (p : Ch) (x : Programme) (n : Ch) :
    (s.setProg p x).stream n = s.stream n := rfl
@[simp] theorem State.stream_setAnn (s : State) (p : Ch) (x : Announce) (n : Ch) :
    (s.setAnn p x).stream n = s.stream n := rfl
@[simp] theorem State.stream_setPort (s : State) (p : Port) (x : PortState) (n : Ch) :
    (s.setPort p x).stream n = s.stream n := rfl
@[simp] theorem State.stream_setTime (s : State) (x : SiteTime) (n : Ch) :
    (s.setTime x).stream n = s.stream n := rfl
@[simp] theorem State.stream_setMonitor (s : State) (x : Monitor) (n : Ch) :
    (s.setMonitor x).stream n = s.stream n := rfl
@[simp] theorem State.stream_setTable (s : State) (x : Table) (n : Ch) :
    (s.setTable x).stream n = s.stream n := rfl
@[simp] theorem State.stream_setSlot (s : State) (i : Nat) (x : Option Notice) (n : Ch) :
    (s.setSlot i x).stream n = s.stream n := rfl
@[simp] theorem State.stream_raise (s : State) (e : AttnEvent) (n : Ch) :
    (s.raise e).stream n = s.stream n := rfl
@[simp] theorem State.stream_send (s : State) (p : Port) (r : Response) (n : Ch) :
    (s.send p r).stream n = s.stream n := rfl

@[simp] theorem State.prog_setStream (s : State) (m : Ch) (x : Stream) (n : Ch) :
    (s.setStream m x).prog n = s.prog n := rfl
@[simp] theorem State.prog_setAnn (s : State) (p : Ch) (x : Announce) (n : Ch) :
    (s.setAnn p x).prog n = s.prog n := rfl
@[simp] theorem State.prog_setPort (s : State) (p : Port) (x : PortState) (n : Ch) :
    (s.setPort p x).prog n = s.prog n := rfl
@[simp] theorem State.prog_setTime (s : State) (x : SiteTime) (n : Ch) :
    (s.setTime x).prog n = s.prog n := rfl
@[simp] theorem State.prog_setMonitor (s : State) (x : Monitor) (n : Ch) :
    (s.setMonitor x).prog n = s.prog n := rfl
@[simp] theorem State.prog_setTable (s : State) (x : Table) (n : Ch) :
    (s.setTable x).prog n = s.prog n := rfl
@[simp] theorem State.prog_setSlot (s : State) (i : Nat) (x : Option Notice) (n : Ch) :
    (s.setSlot i x).prog n = s.prog n := rfl
@[simp] theorem State.prog_raise (s : State) (e : AttnEvent) (n : Ch) :
    (s.raise e).prog n = s.prog n := rfl
@[simp] theorem State.prog_send (s : State) (p : Port) (r : Response) (n : Ch) :
    (s.send p r).prog n = s.prog n := rfl

@[simp] theorem State.ann_setStream (s : State) (m : Ch) (x : Stream) (n : Ch) :
    (s.setStream m x).ann n = s.ann n := rfl
@[simp] theorem State.ann_setProg (s : State) (p : Ch) (x : Programme) (n : Ch) :
    (s.setProg p x).ann n = s.ann n := rfl
@[simp] theorem State.ann_setPort (s : State) (p : Port) (x : PortState) (n : Ch) :
    (s.setPort p x).ann n = s.ann n := rfl
@[simp] theorem State.ann_setTime (s : State) (x : SiteTime) (n : Ch) :
    (s.setTime x).ann n = s.ann n := rfl
@[simp] theorem State.ann_setMonitor (s : State) (x : Monitor) (n : Ch) :
    (s.setMonitor x).ann n = s.ann n := rfl
@[simp] theorem State.ann_setTable (s : State) (x : Table) (n : Ch) :
    (s.setTable x).ann n = s.ann n := rfl
@[simp] theorem State.ann_setSlot (s : State) (i : Nat) (x : Option Notice) (n : Ch) :
    (s.setSlot i x).ann n = s.ann n := rfl
@[simp] theorem State.ann_raise (s : State) (e : AttnEvent) (n : Ch) :
    (s.raise e).ann n = s.ann n := rfl
@[simp] theorem State.ann_send (s : State) (p : Port) (r : Response) (n : Ch) :
    (s.send p r).ann n = s.ann n := rfl

@[simp] theorem State.port_setStream (s : State) (n : Ch) (x : Stream) (q : Port) :
    (s.setStream n x).port q = s.port q := rfl
@[simp] theorem State.port_setProg (s : State) (p : Ch) (x : Programme) (q : Port) :
    (s.setProg p x).port q = s.port q := rfl
@[simp] theorem State.port_setAnn (s : State) (p : Ch) (x : Announce) (q : Port) :
    (s.setAnn p x).port q = s.port q := rfl
@[simp] theorem State.port_setTime (s : State) (x : SiteTime) (q : Port) :
    (s.setTime x).port q = s.port q := rfl
@[simp] theorem State.port_setMonitor (s : State) (x : Monitor) (q : Port) :
    (s.setMonitor x).port q = s.port q := rfl
@[simp] theorem State.port_setTable (s : State) (x : Table) (q : Port) :
    (s.setTable x).port q = s.port q := rfl
@[simp] theorem State.port_setSlot (s : State) (i : Nat) (x : Option Notice) (q : Port) :
    (s.setSlot i x).port q = s.port q := rfl
@[simp] theorem State.port_raise (s : State) (e : AttnEvent) (q : Port) :
    (s.raise e).port q = s.port q := rfl

@[simp] theorem State.notice_setStream (s : State) (n : Ch) (x : Stream) (j : Nat) :
    (s.setStream n x).notice j = s.notice j := rfl
@[simp] theorem State.notice_setProg (s : State) (p : Ch) (x : Programme) (j : Nat) :
    (s.setProg p x).notice j = s.notice j := rfl
@[simp] theorem State.notice_setAnn (s : State) (p : Ch) (x : Announce) (j : Nat) :
    (s.setAnn p x).notice j = s.notice j := rfl
@[simp] theorem State.notice_setPort (s : State) (p : Port) (x : PortState) (j : Nat) :
    (s.setPort p x).notice j = s.notice j := rfl
@[simp] theorem State.notice_setTime (s : State) (x : SiteTime) (j : Nat) :
    (s.setTime x).notice j = s.notice j := rfl
@[simp] theorem State.notice_setMonitor (s : State) (x : Monitor) (j : Nat) :
    (s.setMonitor x).notice j = s.notice j := rfl
@[simp] theorem State.notice_raise (s : State) (e : AttnEvent) (j : Nat) :
    (s.raise e).notice j = s.notice j := rfl
@[simp] theorem State.notice_send (s : State) (p : Port) (r : Response) (j : Nat) :
    (s.send p r).notice j = s.notice j := rfl

@[simp] theorem State.now_setStream (s : State) (n : Ch) (x : Stream) :
    (s.setStream n x).now = s.now := rfl
@[simp] theorem State.now_setProg (s : State) (p : Ch) (x : Programme) :
    (s.setProg p x).now = s.now := rfl
@[simp] theorem State.now_setAnn (s : State) (p : Ch) (x : Announce) :
    (s.setAnn p x).now = s.now := rfl
@[simp] theorem State.now_setPort (s : State) (p : Port) (x : PortState) :
    (s.setPort p x).now = s.now := rfl
@[simp] theorem State.now_setMonitor (s : State) (x : Monitor) :
    (s.setMonitor x).now = s.now := rfl
@[simp] theorem State.now_setTable (s : State) (x : Table) : (s.setTable x).now = s.now := rfl
@[simp] theorem State.now_setSlot (s : State) (i : Nat) (x : Option Notice) :
    (s.setSlot i x).now = s.now := rfl
@[simp] theorem State.now_raise (s : State) (e : AttnEvent) : (s.raise e).now = s.now := rfl
@[simp] theorem State.now_send (s : State) (p : Port) (r : Response) :
    (s.send p r).now = s.now := rfl

/-- Slot `i` after a write to it. -/
@[simp] theorem State.notice_setSlot_self (s : State) (i : Nat) (x : Option Notice)
    (h : i < s.table.slots.length) : (s.setSlot i x).notice i = x := by
  simp [State.notice, State.setSlot, State.setTable, h]

@[simp] theorem State.notice_setSlot_ne (s : State) (i j : Nat) (x : Option Notice) (h : j ≠ i) :
    (s.setSlot i x).notice j = s.notice j := by
  simp [State.notice, State.setSlot, State.setTable, Ne.symm h]

@[simp] theorem State.slots_setSlot_length (s : State) (i : Nat) (x : Option Notice) :
    (s.setSlot i x).table.slots.length = s.table.slots.length := by
  simp [State.setSlot]

/-! ### The response put in a transmit queue -/

@[simp] theorem State.send_queue (s : State) (p : Port) (r : Response) :
    ((s.send p r).port p).queue = (s.port p).queue ++ [r] := by simp [State.send]

@[simp] theorem State.send_held (s : State) (p : Port) (r : Response) :
    ((s.send p r).port p).held = (s.port p).held := by simp [State.send]

@[simp] theorem State.send_other (s : State) (p q : Port) (r : Response) (h : q ≠ p) :
    (s.send p r).port q = s.port q := by simp [State.send, h]

end Sys2Proof.Machine
end

