-- ==== Sys2Proof/Laws/Ops.lean ====
section
/-! SUPPORT. What each shared operation can do: the parts of State it may touch, and the outcome of a
held submit. A frame lemma is an equation `f s = { s with … }`; every field it does not name is kept. -/

namespace Sys2Proof.Machine

/-! ### Operations that touch only some parts -/

/-- `f` changes nothing but the ports. -/
def OnlyPorts (f : State → State) : Prop := ∀ s, ∃ x, f s = { s with ports := x }

/-- `f` changes nothing but the notice table, the stream engines and the ports. -/
def OnlyNotices (f : State → State) : Prop :=
  ∀ s, ∃ x y z, f s = { s with table := x, streams := y, ports := z }

theorem OnlyPorts.id : OnlyPorts fun s => s := fun s => ⟨s.ports, rfl⟩

theorem OnlyNotices.id : OnlyNotices fun s => s := fun s => ⟨s.table, s.streams, s.ports, rfl⟩

theorem OnlyPorts.comp {f g : State → State} (hf : OnlyPorts f) (hg : OnlyPorts g) :
    OnlyPorts fun s => g (f s) := by
  intro s
  obtain ⟨x, hx⟩ := hf s
  obtain ⟨y, hy⟩ := hg (f s)
  exact ⟨y, by show g (f s) = _; rw [hy, hx]⟩

theorem OnlyNotices.comp {f g : State → State} (hf : OnlyNotices f) (hg : OnlyNotices g) :
    OnlyNotices fun s => g (f s) := by
  intro s
  obtain ⟨x, y, z, h⟩ := hf s
  obtain ⟨x', y', z', h'⟩ := hg (f s)
  exact ⟨x', y', z', by show g (f s) = _; rw [h', h]⟩

theorem OnlyPorts.notices {f : State → State} (hf : OnlyPorts f) : OnlyNotices f := by
  intro s
  obtain ⟨x, hx⟩ := hf s
  exact ⟨s.table, s.streams, x, hx⟩

theorem OnlyPorts.forPorts {f : Port → State → State} (hf : ∀ p, OnlyPorts (f p)) :
    OnlyPorts (Machine.forPorts f) := (hf .site).comp (hf .traffic)

theorem OnlyNotices.forChannels {f : Ch → State → State} (hf : ∀ n, OnlyNotices (f n)) :
    OnlyNotices (Machine.forChannels f) := (((hf 0).comp (hf 1)).comp (hf 2)).comp (hf 3)

theorem OnlyNotices.foldl {α : Type} {f : α → State → State} (hf : ∀ i, OnlyNotices (f i))
    (l : List α) : OnlyNotices fun s => l.foldl (fun t i => f i t) s := by
  induction l with
  | nil => exact OnlyNotices.id
  | cons i l ih => exact (hf i).comp ih

theorem OnlyNotices.forSlots {f : Nat → State → State} (hf : ∀ i, OnlyNotices (f i)) :
    OnlyNotices (Machine.forSlots f) := OnlyNotices.foldl hf slotNumbers

/-! ### Held submits touch only the ports -/

theorem onlyPorts_setPort (p : Port) (x : State → PortState) :
    OnlyPorts fun s => s.setPort p (x s) := fun _ => ⟨_, rfl⟩

theorem onlyPorts_send (p : Port) (r : Response) : OnlyPorts fun s => s.send p r := fun _ => ⟨_, rfl⟩

/-- The outcome of a held submit: nothing on an IDLE port; otherwise the port is IDLE and the response
is at the end of its queue (09 R189). -/
theorem State.finishHeld_cases (s : State) (p : Port) (st : Status) :
    ((s.port p).held = none ∧ s.finishHeld p st = s) ∨
      ∃ h, (s.port p).held = some h ∧
        s.finishHeld p st =
          (s.setPort p { s.port p with held := none }).send p
            ⟨0x10#8, st, h.flags, h.results ++ [fourByte h.satisfied], none⟩ := by
  unfold State.finishHeld
  cases h : (s.port p).held with
  | none => exact .inl ⟨rfl, rfl⟩
  | some x => exact .inr ⟨x, rfl, rfl⟩

theorem onlyPorts_finishHeld (p : Port) (st : Status) : OnlyPorts fun s => s.finishHeld p st := by
  intro s
  rcases s.finishHeld_cases p st with ⟨_, h⟩ | ⟨_, _, h⟩
  · exact ⟨s.ports, h⟩
  · exact ⟨_, h⟩

/-- After its outcome a port is IDLE (09 R189). -/
theorem State.finishHeld_idle (s : State) (p : Port) (st : Status) :
    ((s.finishHeld p st).port p).held = none := by
  rcases s.finishHeld_cases p st with ⟨h, e⟩ | ⟨_, _, e⟩
  · rw [e, h]
  · rw [e]; simp

theorem onlyPorts_settleHeld (p : Port) (h : Held) : OnlyPorts fun s => s.settleHeld p h := by
  intro s
  dsimp only [State.settleHeld]
  split
  · exact (onlyPorts_setPort p fun _ => _).comp (onlyPorts_finishHeld p _) s
  · exact ⟨_, rfl⟩

theorem onlyPorts_supersede (i : Nat) : OnlyPorts fun s => s.supersede i := by
  refine OnlyPorts.forPorts fun p s => ?_
  unfold supersedeAt
  split
  · split
    · exact onlyPorts_finishHeld p .superseded s
    · exact ⟨s.ports, rfl⟩
  · exact ⟨s.ports, rfl⟩

theorem onlyPorts_leaveRemaining (i : Nat) (n : Ch) : OnlyPorts fun s => s.leaveRemaining i n := by
  refine OnlyPorts.forPorts fun p s => ?_
  unfold leaveAt
  split
  · split
    · exact onlyPorts_settleHeld p _ s
    · exact ⟨s.ports, rfl⟩
  · exact ⟨s.ports, rfl⟩

theorem onlyPorts_testHeld (i : Nat) (n : Ch) (r : Record) :
    OnlyPorts fun s => s.testHeld i n r := by
  refine OnlyPorts.forPorts fun p s => ?_
  unfold testHeldAt
  split
  · split
    · exact onlyPorts_settleHeld p _ s
    · exact ⟨s.ports, rfl⟩
  · exact ⟨s.ports, rfl⟩

/-! ### Notices and their records touch only the table, the streams and the ports -/

theorem onlyNotices_setSlot (i : Nat) (x : State → Option Notice) :
    OnlyNotices fun s => s.setSlot i (x s) := fun _ => ⟨_, _, _, rfl⟩

theorem onlyNotices_setStream (n : Ch) (x : State → Stream) :
    OnlyNotices fun s => s.setStream n (x s) := fun _ => ⟨_, _, _, rfl⟩

theorem onlyNotices_cutRun (n : Ch) (i : Nat) : OnlyNotices fun s => s.cutRun n i := by
  intro s
  dsimp only [State.cutRun]
  split
  · split
    · exact ⟨_, _, _, rfl⟩
    · exact OnlyNotices.id s
  · exact OnlyNotices.id s

theorem onlyNotices_cutRuns (i : Nat) : OnlyNotices fun s => s.cutRuns i :=
  OnlyNotices.forChannels fun n => onlyNotices_cutRun n i

theorem onlyNotices_freeAtOnce (i : Nat) : OnlyNotices fun s => s.freeAtOnce i := by
  intro s
  dsimp only [State.freeAtOnce]
  split
  · exact OnlyNotices.id s
  · exact (((onlyPorts_supersede i).notices.comp (onlyNotices_cutRuns i)).comp
      (onlyNotices_setSlot i fun _ => none)) s

theorem onlyNotices_beginWithdrawal (i : Nat) : OnlyNotices fun s => s.beginWithdrawal i := by
  intro s
  dsimp only [State.beginWithdrawal]
  split
  · exact OnlyNotices.id s
  · split
    · exact (((onlyPorts_supersede i).notices.comp (onlyNotices_cutRuns i)).comp
        (onlyNotices_setSlot i fun _ => none)) s
    · exact (((onlyPorts_supersede i).notices.comp (onlyNotices_cutRuns i)).comp
        (onlyNotices_setSlot i fun _ => _)) s

theorem onlyNotices_removeRecord (n : Ch) (i : Nat) : OnlyNotices fun s => s.removeRecord n i := by
  intro s
  dsimp only [State.removeRecord]
  split
  · exact OnlyNotices.id s
  · split <;> exact ⟨_, _, _, rfl⟩

theorem onlyNotices_reconcile (i : Nat) (n : Ch) : OnlyNotices fun s => s.reconcile i n := by
  intro s
  dsimp only [State.reconcile]
  split
  · exact OnlyNotices.id s
  · split
    · split
      · exact OnlyNotices.id s
      · exact ⟨_, _, _, rfl⟩
    · split
      · exact (((onlyNotices_setSlot i fun _ => _).comp (onlyNotices_cutRun n i)).comp
          (onlyPorts_leaveRemaining i n).notices) s
      · exact OnlyNotices.id s

theorem onlyNotices_emit (n : Ch) (k : Kind) (v : BitVec 48) : OnlyNotices fun s => s.emit n k v :=
  fun _ => ⟨_, _, _, rfl⟩

theorem onlyNotices_completeRun (n : Ch) (i head : Nat) :
    OnlyNotices fun s => s.completeRun n i head := by
  intro s
  dsimp only [State.completeRun]
  split
  · exact ⟨_, _, _, rfl⟩
  · split
    · exact ⟨_, _, _, rfl⟩
    · exact (((onlyNotices_setStream n fun _ => _).comp (onlyNotices_setSlot i fun _ => _)).comp
        (onlyPorts_testHeld i n _).notices) s

theorem onlyNotices_sendRunCell (n : Ch) (run : Run) : OnlyNotices fun s => s.sendRunCell n run := by
  intro s
  dsimp only [State.sendRunCell]
  split
  · exact ⟨_, _, _, rfl⟩
  · split
    · exact ⟨_, _, _, rfl⟩
    · exact ((onlyNotices_emit n _ _).comp (onlyNotices_completeRun n run.slot run.head)) s

theorem onlyNotices_sendWithdraw (n : Ch) (i : Nat) (nt : Notice) (r : Record) :
    OnlyNotices fun s => s.sendWithdraw n i nt r := by
  intro s
  dsimp only [State.sendWithdraw]
  split
  · exact ⟨_, _, _, rfl⟩
  · split
    · exact ((onlyNotices_emit n _ _).comp (onlyNotices_removeRecord n i)) s
    · exact ⟨_, _, _, rfl⟩

/-- The arbiter touches the notices, the streams and the ports, and nothing else (03 R56). -/
theorem onlyNotices_arbitrate (n : Ch) : OnlyNotices fun s => s.arbitrate n := by
  intro s
  dsimp only [State.arbitrate]
  split
  · exact onlyNotices_sendRunCell n _ s
  · split
    · exact onlyNotices_sendWithdraw n _ _ _ s
    · split <;> exact ⟨_, _, _, rfl⟩

theorem onlyNotices_enterStopped (n : Ch) : OnlyNotices fun s => s.enterStopped n := by
  intro s
  refine ((onlyNotices_setStream n fun _ => _).comp (OnlyNotices.forSlots fun i t => ?_)) s
  unfold discardRecord
  split
  · exact OnlyNotices.id t
  · split
    · exact OnlyNotices.id t
    · exact ((onlyNotices_removeRecord n i).comp (onlyPorts_leaveRemaining i n).notices) t

theorem onlyNotices_takeStart (n : Ch) : OnlyNotices fun s => s.takeStart n := by
  intro s
  refine ((onlyNotices_setStream n fun _ => _).comp (OnlyNotices.forSlots fun i t => ?_)) s
  unfold startRecord
  split
  · exact OnlyNotices.id t
  · split
    · exact ⟨_, _, _, rfl⟩
    · exact OnlyNotices.id t

theorem onlyNotices_testNotice (i : Nat) : OnlyNotices (testNotice i) := by
  intro s
  unfold testNotice
  split
  · exact OnlyNotices.id s
  · split
    · unfold State.startNotice
      split
      · exact OnlyNotices.id s
      · split <;> exact ⟨_, _, _, rfl⟩
    · split
      · exact onlyNotices_beginWithdrawal i s
      · exact OnlyNotices.id s

theorem onlyNotices_reevaluate (n : Ch) : OnlyNotices fun s => s.reevaluate n := by
  refine OnlyNotices.forSlots fun i s => ?_
  unfold reevaluateSlot
  split
  · split
    · exact onlyNotices_reconcile i n s
    · exact OnlyNotices.id s
  · exact OnlyNotices.id s

theorem onlyNotices_rederiveSlots : OnlyNotices (forSlots rederiveSlot) := by
  refine OnlyNotices.forSlots fun i s => ?_
  unfold rederiveSlot
  split
  · exact OnlyNotices.id s
  · split
    · dsimp only
      split
      · exact ((onlyNotices_setSlot i fun _ => _).comp
          (OnlyNotices.forChannels fun n => onlyNotices_reconcile i n)) s
      · exact ⟨_, _, _, rfl⟩
    · exact OnlyNotices.id s

/-! ### The outcome of a command -/

/-- An event answers a next state: the state as it was while PORN is held low. -/
theorem running_eq_next (s t : State) : running s t = .next (if s.pornLow then s else t) := rfl

/-- A request's row while PORN is released and its port is free: the three tests of the dispatcher,
then the owning block's answer (09 R185). -/
theorem onRequest_idle (p : Port) (r : Request) (s : State) (hp : s.pornLow = false)
    (hq : (s.port p).queue = []) (hh : (s.port p).held = none)
    (ht : p = .traffic → trafficCodes.contains (requestCode r) = true)
    (hk : requestCodes.contains (requestCode r) = true) (hf : r.fits = true) :
    onRequest p r s = .next (answered p (requestCode r) (handle p r s)) := by
  have ha : s.admission p (requestCode r) = none := by
    unfold State.admission
    rw [hh, hk]
    cases p with
    | site => simp
    | traffic => simpa using ht rfl
  simp [onRequest, running, hp, State.request, hq, hf, State.dispatch, ha]

end Sys2Proof.Machine
end

