-- ==== Sys2Proof/Laws/Held.lean ====
section
/-! SUPPORT. The operations on holds, runs and withdrawal in the words that the statements use
(Safety.lean): each is one equation. -/

namespace Sys2Proof.Machine

theorem State.setPort_port (s : State) (p : Port) : s.setPort p (s.port p) = s := by
  cases p <;> rfl

theorem Four.set_get {α : Type} (f : Four α) (n : Ch) : f.set n (f.get n) = f := by
  apply Four.ext_get
  intro m
  by_cases e : m = n
  · subst e; simp
  · simp [e]

theorem State.setStream_stream (s : State) (n : Ch) : s.setStream n (s.stream n) = s := by
  simp [State.setStream, State.stream, Four.set_get]

/-- The outcome of a held submit (09 R189). -/
theorem State.finishHeld_eq (s : State) (p : Port) (st : Status) :
    s.finishHeld p st = s.setPort p ((s.port p).heldAnswered st) := by
  unfold State.finishHeld PortState.heldAnswered
  cases h : (s.port p).held with
  | none => simp [State.setPort_port]
  | some x => cases p <;> simp [State.send, State.setPort, State.port, Ports.set, Ports.get] <;> rfl

/-- The holds on a slot ended (01 R32). -/
theorem State.supersede_eq (s : State) (i : Nat) : s.supersede i = s.holdsEnded i := by
  have key : ∀ p (s : State), supersedeAt i p s = s.setPort p ((s.port p).withoutHold i) := by
    intro p s
    unfold supersedeAt PortState.withoutHold
    cases h : (s.port p).held with
    | none => simp [State.setPort_port]
    | some x =>
      by_cases e : x.slot = i
      · simp [e, State.finishHeld_eq]
      · simp [e, State.setPort_port]
  simp [State.supersede, forPorts, key, State.holdsEnded, State.setPort, State.port, Ports.set,
    Ports.get]

/-- The runs of a slot cut (03 R62). -/
theorem State.cutRuns_eq (s : State) (i : Nat) : s.cutRuns i = s.runsEnded i := by
  have key : ∀ n (s : State), s.cutRun n i =
      s.setStream n (if s.inRun n i then { s.stream n with run := none } else s.stream n) := by
    intro n s
    unfold State.cutRun State.inRun
    cases h : (s.stream n).run with
    | none => simp [State.setStream_stream]
    | some r =>
      by_cases e : r.slot = i
      · simp [e]
      · simp [e, State.setStream_stream]
  simp only [State.cutRuns, forChannels, key, State.runsEnded]
  simp [State.setStream, State.inRun, State.stream, Four.tab]
  rfl

theorem Notice.noRecords_iff (nt : Notice) : nt.noRecords = true ↔ ∀ n, nt.record n = none := by
  simp only [Notice.noRecords, Four.toList, Notice.record, List.all_cons, List.all_nil,
    Bool.and_true, Bool.and_eq_true, Option.isNone_iff_eq_none]
  constructor
  · rintro ⟨a, b, c, d⟩ n
    match n with
    | 0 => exact a
    | 1 => exact b
    | 2 => exact c
    | 3 => exact d
  · exact fun h => ⟨h 0, h 1, h 2, h 3⟩

theorem Record.withdraw_eq (w now : Nat) : Record.withdraw w now = Record.withdrawn w now := by
  funext r
  cases h : r.mode <;> simp [Record.withdraw, Record.withdrawn, h]

/-- A notice begins withdrawal (01 R9). -/
theorem State.beginWithdrawal_eq (s : State) (i : Nat) (nt : Notice) (h : s.notice i = some nt) :
    s.beginWithdrawal i =
      s.replaced i (nt.withdrawn s.table.withdrawCells s.time.tickCount) := by
  unfold State.beginWithdrawal
  simp only [h, State.supersede_eq, State.cutRuns_eq, Notice.withdrawn, State.replaced,
    Record.withdraw_eq]
  by_cases e : nt.noRecords = true
  · rw [if_pos e, if_pos (nt.noRecords_iff.1 e)]
  · rw [if_neg e, if_neg fun c => e (nt.noRecords_iff.2 c)]
    rfl

/-- A notice freed at once (01 R12). -/
theorem State.freeAtOnce_eq (s : State) (i : Nat) (nt : Notice) (h : s.notice i = some nt) :
    s.freeAtOnce i = s.replaced i none := by
  simp [State.freeAtOnce, h, State.supersede_eq, State.cutRuns_eq, State.replaced]

end Sys2Proof.Machine
end

