-- ==== Sys2Proof/Laws/Announcements.lean ====
section
/-! SUPPORT. What a change of one programme's announcement record does to all four (06 R131, R133), and
what the sampling of the cue line can change (06 R119, R120). -/

namespace Sys2Proof.Machine

theorem State.setAnn_ann (s : State) (p : Ch) : s.setAnn p (s.ann p) = s := by
  simp [State.setAnn, State.ann, Four.set_get]

/-- The record of `q` after a change of the flag of programme `y` (06 R133). -/
theorem State.setClosing_ann (s : State) (y : Ch) (k : Nat) (q : Ch) :
    (s.setClosing y k).ann q =
      { s.ann q with closing := if (s.prog q).target = some y then k else (s.ann q).closing } := by
  have key : ∀ (x : Ch) (t : State),
      (if (t.prog x).target = some y then t.setAnn x { t.ann x with closing := k } else t) =
        t.setAnn x { t.ann x with
          closing := if (t.prog x).target = some y then k else (t.ann x).closing } := by
    intro x t
    split
    · rfl
    · exact (t.setAnn_ann x).symm
  simp only [State.setClosing, forChannels, key]
  match q with
  | 0 | 1 | 2 | 3 => simp [State.ann, State.setAnn, State.prog] <;> rfl

/-- Closing counters are all that a change of a flag touches (06 R133). -/
theorem State.setClosing_eq (s : State) (y : Ch) (k : Nat) :
    s.setClosing y k = { s with announce := (s.setClosing y k).announce } := by
  have key : ∀ (x : Ch) (t : State), ∃ a,
      (if (t.prog x).target = some y then t.setAnn x { t.ann x with closing := k } else t) =
        { t with announce := a } := by
    intro x t
    split
    · exact ⟨_, rfl⟩
    · exact ⟨_, rfl⟩
  simp only [State.setClosing, forChannels]
  obtain ⟨a0, h0⟩ := key 0 s
  rw [h0]
  obtain ⟨a1, h1⟩ := key 1 { s with announce := a0 }
  rw [h1]
  obtain ⟨a2, h2⟩ := key 2 { s with announce := a1 }
  rw [h2]
  obtain ⟨a3, h3⟩ := key 3 { s with announce := a2 }
  rw [h3]

/-- Putting a record changes announcement records alone. -/
theorem State.putAnn_eq (s : State) (p : Ch) (a : Announce) :
    s.putAnn p a = { s with announce := (s.putAnn p a).announce } := by
  unfold State.putAnn
  dsimp only
  split
  · rw [State.setClosing_eq]; rfl
  · split
    · rw [State.setClosing_eq]; rfl
    · rfl

/-- Every record after one has been put: a rise of the flag puts the closing counters that refer to
the programme at 0, a fall at 3 (06 R133). -/
theorem State.putAnn_ann (s : State) (p : Ch) (a : Announce) (q : Ch) :
    (s.putAnn p a).ann q =
      { (if q = p then a else s.ann q) with
        closing :=
          if (s.prog q).target = some p ∧ a.flag ≠ (s.ann p).flag then
            (if a.flag then 0 else 3)
          else (if q = p then a else s.ann q).closing } := by
  have hx : (s.setAnn p a).ann q = if q = p then a else s.ann q := by
    by_cases e : q = p
    · subst e; simp
    · simp [e]
  have hy : (s.setAnn p a).prog q = s.prog q := rfl
  unfold State.putAnn
  dsimp only
  cases h1 : a.flag <;> cases h2 : (s.ann p).flag <;>
    simp [State.setClosing_ann, hx, hy]

/-- Where the state stays LEADING, ON_AIR or HANGING, the sampling of the line changes the sample, the
line level and the cue level alone (06 R119, R120). -/
theorem Announce.sampleLine_same (a : Announce) (found carries : Bool) (b : Bulletin)
    (h : (a.sampleLine found carries b).state = a.state)
    (hn : a.state = .leading ∨ a.state = .onAir ∨ a.state = .hanging) :
    ∃ l m c, a.sampleLine found carries b =
      { a with lineSample := l, lineLevel := m, cueLevel := c } := by
  revert h
  unfold Announce.sampleLine Announce.recompute Announce.rise Announce.fall Announce.enterOnAir
  dsimp only
  (repeat' split) <;> intro h <;> first | exact ⟨_, _, _, rfl⟩ | simp_all

end Sys2Proof.Machine
end

