-- ==== Sys2Proof/Laws/Boundary.lean ====
section
/-! SUPPORT. What the works of a boundary and a time change can do: which works a boundary takes when it
leaves the others, which it takes before a time change, and that they keep site time. -/

namespace Sys2Proof.Machine

/-! ### The temporary trim -/

@[simp] theorem SiteTime.trimNow_none (x : SiteTime) (h : x.temporary = none) : x.trimNow = none := by
  simp [SiteTime.trimNow, h]

@[simp] theorem SiteTime.trimNow_spent (x : SiteTime) (v : Int) (h : x.temporary = some (v, 0)) :
    x.trimNow = none := by simp [SiteTime.trimNow, h]

@[simp] theorem SiteTime.trimNow_left (x : SiteTime) (v : Int) (k : Nat)
    (h : x.temporary = some (v, k + 1)) : x.trimNow = some (v, k + 1) := by
  simp [SiteTime.trimNow, h]

/-- A trim that has run out is absent whether or not its field has been emptied (07 R144). -/
theorem SiteTime.trimNow_dropTrim (x : SiteTime) : x.dropTrim.trimNow = x.trimNow := by
  unfold SiteTime.dropTrim
  split
  · next h =>
    unfold SiteTime.trimSpent at h
    split at h
    · next v k hk => simp_all
    · exact absurd h (by simp)
  · rfl

theorem SiteTime.effectiveTrim_dropTrim (x : SiteTime) :
    x.dropTrim.effectiveTrim = x.effectiveTrim := by
  have h : x.dropTrim.standing = x.standing := by
    unfold SiteTime.dropTrim
    split <;> rfl
  rw [SiteTime.effectiveTrim, SiteTime.trimNow_dropTrim, h, SiteTime.effectiveTrim]

/-! ### The works that a boundary takes -/

/-- Every work of a boundary is listed. -/
theorem mem_allWorks_of_boundary (s : State) (second : Bool) (w : Work)
    (h : w ∈ s.boundaryWorks second) : w ∈ allWorks := by
  cases w with
  | noticeTest i =>
    simp [State.boundaryWorks, State.secondWorks, engineWorks, slotNumbers, Config.slots] at h
    simp [allWorks, h]
  | withdrawLimit i =>
    simp [State.boundaryWorks, State.secondWorks, engineWorks, slotNumbers, Config.slots] at h
    simp [allWorks, h]
  | stream n => clear h; revert n; decide
  | announce p => clear h; revert p; decide
  | confirmLimit p => cases p <;> decide
  | trimExpiry | timedFire | minute | silence | markWatch => decide

/-- A boundary that leaves all works but those of `mine` takes those of `mine`, and the others stay
outstanding (log entry 2). -/
theorem State.works_othersThan (s : State) (second : Bool) (mine : Work → Bool) :
    s.works second (othersThan mine) =
      { s.takeAll ((s.boundaryWorks second).filter mine) with
        due := (s.boundaryWorks second).filter fun w => !mine w } := by
  have h : ∀ w ∈ s.boundaryWorks second, (othersThan mine).contains w = !mine w := by
    intro w hw
    have := mem_allWorks_of_boundary s second w hw
    cases hm : mine w <;> simp [othersThan, hm, this]
  simp only [State.works]
  rw [List.filter_congr h, List.filter_congr fun w hw => by rw [h w hw, Bool.not_not]]

/-! ### Site time is kept -/

theorem OnlyNotices.time {f : State → State} (hf : OnlyNotices f) (s : State) :
    (f s).time = s.time := by
  obtain ⟨_, _, _, e⟩ := hf s
  rw [e]

theorem State.setClosing_time (s : State) (y : Ch) (k : Nat) : (s.setClosing y k).time = s.time := by
  have h : ∀ (x : Ch) (t : State),
      (if (t.prog x).target = some y then t.setAnn x { t.ann x with closing := k } else t).time =
        t.time := by
    intro x t
    split <;> rfl
  simp only [State.setClosing, forChannels, h]

theorem State.putAnn_time (s : State) (p : Ch) (a : Announce) : (s.putAnn p a).time = s.time := by
  simp only [State.putAnn]
  repeat' split
  all_goals first | exact State.setClosing_time _ _ _ | rfl

theorem announceWork_time (p : Ch) (s : State) : (announceWork p s).time = s.time := by
  have h := s.putAnn_time p ((s.ann p).boundary (s.cueFound p) (s.prog p).carries s.bulletinNow)
  simp only [announceWork]
  split
  · exact (State.putAnn_time _ _ _).trans h
  · exact h

theorem State.sendCell_time (s : State) (n : Ch) : (s.sendCell n).time = s.time := by
  have harb := (onlyNotices_arbitrate n).time s
  unfold State.sendCell
  split
  · unfold State.sendStatus
    split <;> rfl
  · rfl
  · split
    · rfl
    · exact harb
  · split
    · split
      · unfold State.sendRefer State.reportRefer
        split <;> rfl
      · exact harb
    · exact harb
  · exact harb

theorem State.takePlan_time (s : State) (n : Ch) : (s.takePlan n).time = s.time := by
  unfold State.takePlan
  split <;> rfl

theorem State.testOvercommit_time (s : State) (n : Ch) : (s.testOvercommit n).time = s.time := by
  dsimp only [State.testOvercommit]
  repeat' split
  all_goals rfl

theorem streamWork_time (n : Ch) (s : State) : (streamWork n s).time = s.time := by
  have h1 : (stopStep n s).time = s.time := by
    unfold stopStep
    split
    · exact (onlyNotices_enterStopped n).time s
    · rfl
  have h2 : ∀ t : State, (startStep n t).time = t.time := by
    intro t
    unfold startStep
    split
    · exact (onlyNotices_takeStart n).time t
    · rfl
  have h3 : ∀ t : State, (planStep n t).time = t.time := by
    intro t
    unfold planStep
    split
    · exact (State.testOvercommit_time _ n).trans (t.takePlan_time n)
    · rfl
  have h4 : ∀ t : State, (t.sampleModulator n).time = t.time := by
    intro t
    simp only [State.sampleModulator, State.storeLevel]
    split <;> rfl
  have h5 : ∀ t : State, (cellStep n t).time = t.time := by
    intro t
    unfold cellStep
    split
    · exact t.sendCell_time n
    · rfl
  simp only [streamWork, h5, h4, h3, h2, h1]

theorem timedWork_time (p : Ch) (s : State) : (timedWork p s).time = s.time := by
  simp only [timedWork]
  repeat' split
  all_goals rfl

theorem State.testTimed_time (s : State) : s.testTimed.time = s.time := by
  simp only [State.testTimed, forChannels, timedWork_time]

/-- No work that reads site seconds changes site time. -/
theorem State.take_time (s : State) (w : Work) (tick : Nat) (h : readsSeconds tick w = true) :
    (s.take w).time = s.time := by
  cases w with
  | noticeTest i => exact (onlyNotices_testNotice i).time s
  | timedFire => exact s.testTimed_time
  | minute => rfl
  | stream n => exact streamWork_time n s
  | announce p => exact announceWork_time p s
  | _ => simp [readsSeconds] at h

/-! ### Time changes -/

@[simp] theorem State.flushSeconds_due (s : State) :
    s.flushSeconds.due = s.due.filter fun w => !readsSeconds s.time.tickNumber w := rfl

/-- Without an outstanding work that reads site seconds nothing is taken before a time change. -/
theorem State.flushSeconds_of_none (s : State)
    (h : ∀ w ∈ s.due, readsSeconds s.time.tickNumber w = false) : s.flushSeconds = s := by
  have h1 : s.due.filter (readsSeconds s.time.tickNumber) = [] := by simpa using h
  have h2 : (s.due.filter fun w => !readsSeconds s.time.tickNumber w) = s.due := by simpa using h
  simp [State.flushSeconds, h1, h2, State.takeAll]

/-- With no other work outstanding, all of them are taken before a time change. -/
theorem State.flushSeconds_of_all (s : State)
    (h : ∀ w ∈ s.due, readsSeconds s.time.tickNumber w = true) : s.flushSeconds = s.flushDue := by
  have h1 : s.due.filter (readsSeconds s.time.tickNumber) = s.due := by simpa using h
  have h2 : (s.due.filter fun w => !readsSeconds s.time.tickNumber w) = [] := by simpa using h
  simp [State.flushSeconds, State.flushDue, h1, h2]

@[simp] theorem State.flushSeconds_time (s : State) : s.flushSeconds.time = s.time := by
  have h : ∀ (ws : List Work) (t : State),
      (∀ w ∈ ws, readsSeconds s.time.tickNumber w = true) → (t.takeAll ws).time = t.time := by
    intro ws
    induction ws with
    | nil => intro t _; rfl
    | cons w ws ih =>
      intro t hw
      exact (ih _ fun v hv => hw v (List.mem_cons_of_mem _ hv)).trans
        (t.take_time w _ (hw w List.mem_cons_self))
  exact h _ _ fun w hw => (List.mem_filter.mp hw).2

end Sys2Proof.Machine
end

