-- ==== Sys2Proof/Laws/PerInstr.lean ====
section
/-! SUPPORT. What every command's syntax gives: a well-formed command that carries a request carries one
whose body fits its length rule (09 R187), under a code of 09 section 9.8. -/

namespace Sys2Proof.Machine

/-- Every request's code is one of the table's (09 section 9.8). -/
theorem requestCode_known (r : Request) : requestCodes.contains (requestCode r) = true := by
  cases r <;> rfl

end Sys2Proof.Machine

namespace Sys2Proof.Laws.RequestFits

/-- The request of a well-formed command fits, and its code is a known one. -/
def Statement (i : Instr) : Prop :=
  ∀ p r, Machine.commandRequest i = some (p, r) →
    (i.wellFormed = true → r.fits = true) ∧ requestCodes.contains (Machine.requestCode r) = true

theorem powerOn (lines : Lines) : Statement (.powerOn lines) := by
  intro p' r h
  simp [Machine.commandRequest] at h

theorem tickBoundary (lines : Lines) (later : List Work) :
    Statement (.tickBoundary lines later) := by
  intro p' r h
  simp [Machine.commandRequest] at h

theorem temporaryTrimExpiry : Statement (.temporaryTrimExpiry) := by
  intro p' r h
  simp [Machine.commandRequest] at h

theorem secondBoundary (lines : Lines) (later : List Work) :
    Statement (.secondBoundary lines later) := by
  intro p' r h
  simp [Machine.commandRequest] at h

theorem noticeStart (slot : Nat) : Statement (.noticeStart slot) := by
  intro p' r h
  simp [Machine.commandRequest] at h

theorem noticeExpiry (slot : Nat) : Statement (.noticeExpiry slot) := by
  intro p' r h
  simp [Machine.commandRequest] at h

theorem withdrawLimit (slot : Nat) : Statement (.withdrawLimit slot) := by
  intro p' r h
  simp [Machine.commandRequest] at h

theorem confirmLimit (p : Port) : Statement (.confirmLimit p) := by
  intro p' r h
  simp [Machine.commandRequest] at h

theorem timedChangeFire (entry : Nat) : Statement (.timedChangeFire entry) := by
  intro p' r h
  simp [Machine.commandRequest] at h

theorem startTaken (n : Ch) : Statement (.startTaken n) := by
  intro p' r h
  simp [Machine.commandRequest] at h

theorem enterStopped (n : Ch) : Statement (.enterStopped n) := by
  intro p' r h
  simp [Machine.commandRequest] at h

theorem planTakesEffect (n : Ch) : Statement (.planTakesEffect n) := by
  intro p' r h
  simp [Machine.commandRequest] at h

theorem runCompletion (n : Ch) : Statement (.runCompletion n) := by
  intro p' r h
  simp [Machine.commandRequest] at h

theorem leadExpiry (prog : Ch) : Statement (.leadExpiry prog) := by
  intro p' r h
  simp [Machine.commandRequest] at h

theorem hangoverExpiry (prog : Ch) : Statement (.hangoverExpiry prog) := by
  intro p' r h
  simp [Machine.commandRequest] at h

theorem maximumDuration (prog : Ch) : Statement (.maximumDuration prog) := by
  intro p' r h
  simp [Machine.commandRequest] at h

theorem markEdge : Statement (.markEdge) := by
  intro p' r h
  simp [Machine.commandRequest] at h

theorem markWatchExpiry : Statement (.markWatchExpiry) := by
  intro p' r h
  simp [Machine.commandRequest] at h

theorem candidateComplete : Statement (.candidateComplete) := by
  intro p' r h
  simp [Machine.commandRequest] at h

theorem syncMiss : Statement (.syncMiss) := by
  intro p' r h
  simp [Machine.commandRequest] at h

theorem silenceExpiry : Statement (.silenceExpiry) := by
  intro p' r h
  simp [Machine.commandRequest] at h

theorem byteReceived (p : Port) (c : RxChar) : Statement (.byteReceived p c) := by
  intro p' r h
  simp [Machine.commandRequest] at h

theorem linkSilenceTimeout (p : Port) : Statement (.linkSilenceTimeout p) := by
  intro p' r h
  simp [Machine.commandRequest] at h

theorem responseSent (p : Port) (lines : Lines) : Statement (.responseSent p lines) := by
  intro p' r h
  simp [Machine.commandRequest] at h

theorem unknownRequest (p : Port) (code : Byte) (rest : List Byte) :
    Statement (.unknownRequest p code rest) := by
  intro p' r h
  simp [Machine.commandRequest] at h

theorem ping (p : Port) : Statement (.ping p) := by
  intro p' r h
  cases h
  exact ⟨by simp [Instr.wellFormed, Request.fits], Machine.requestCode_known _⟩

theorem readAttention (p : Port) : Statement (.readAttention p) := by
  intro p' r h
  cases h
  exact ⟨by simp [Instr.wellFormed, Request.fits], Machine.requestCode_known _⟩

theorem setAttentionMask (p : Port) (mask : BitVec 16) : Statement (.setAttentionMask p mask) := by
  intro p' r h
  cases h
  exact ⟨by simp [Instr.wellFormed, Request.fits], Machine.requestCode_known _⟩

theorem setLink (p : Port) (port baud : Byte) : Statement (.setLink p port baud) := by
  intro p' r h
  cases h
  exact ⟨by simp [Instr.wellFormed, Request.fits], Machine.requestCode_known _⟩

theorem abandon (p : Port) : Statement (.abandon p) := by
  intro p' r h
  cases h
  exact ⟨by simp [Instr.wellFormed, Request.fits], Machine.requestCode_known _⟩

theorem restart (p : Port) (scope : Byte) : Statement (.restart p scope) := by
  intro p' r h
  cases h
  exact ⟨by simp [Instr.wellFormed, Request.fits], Machine.requestCode_known _⟩

theorem submit (p : Port) (args : SubmitArgs) : Statement (.submit p args) := by
  intro p' r h
  cases h
  exact ⟨by simp [Instr.wellFormed, Request.fits], Machine.requestCode_known _⟩

theorem withdraw (p : Port) (number : BitVec 16) : Statement (.withdraw p number) := by
  intro p' r h
  cases h
  exact ⟨by simp [Instr.wellFormed, Request.fits], Machine.requestCode_known _⟩

theorem withdrawAll (p : Port) : Statement (.withdrawAll p) := by
  intro p' r h
  cases h
  exact ⟨by simp [Instr.wellFormed, Request.fits], Machine.requestCode_known _⟩

theorem purge (p : Port) (number : BitVec 16) : Statement (.purge p number) := by
  intro p' r h
  cases h
  exact ⟨by simp [Instr.wellFormed, Request.fits], Machine.requestCode_known _⟩

theorem queryNotice (p : Port) (number : BitVec 16) : Statement (.queryNotice p number) := by
  intro p' r h
  cases h
  exact ⟨by simp [Instr.wellFormed, Request.fits], Machine.requestCode_known _⟩

theorem listNotices (p : Port) (start : Byte) : Statement (.listNotices p start) := by
  intro p' r h
  cases h
  exact ⟨by simp [Instr.wellFormed, Request.fits], Machine.requestCode_known _⟩

theorem setClass (p : Port) (cls : Byte) (base : BitVec 16) (settle : Byte) :
    Statement (.setClass p cls base settle) := by
  intro p' r h
  cases h
  exact ⟨by simp [Instr.wellFormed, Request.fits], Machine.requestCode_known _⟩

theorem setNoticeLimits (p : Port) (w : Byte) (lifetime : BitVec 32) (confirm : BitVec 16) :
    Statement (.setNoticeLimits p w lifetime confirm) := by
  intro p' r h
  cases h
  exact ⟨by simp [Instr.wellFormed, Request.fits], Machine.requestCode_known _⟩

theorem setRange (p : Port) (entry enabled : Byte) (first last : BitVec 16) (area : Byte) :
    Statement (.setRange p entry enabled first last area) := by
  intro p' r h
  cases h
  exact ⟨by simp [Instr.wellFormed, Request.fits], Machine.requestCode_known _⟩

theorem readRange (p : Port) (entry : Byte) : Statement (.readRange p entry) := by
  intro p' r h
  cases h
  exact ⟨by simp [Instr.wellFormed, Request.fits], Machine.requestCode_known _⟩

theorem setDefaultAreas (p : Port) (areas : BitVec 16) : Statement (.setDefaultAreas p areas) := by
  intro p' r h
  cases h
  exact ⟨by simp [Instr.wellFormed, Request.fits], Machine.requestCode_known _⟩

theorem setProgramme (p : Port) (prog : Byte) (code coverage : BitVec 16) (carries target : Byte) :
    Statement (.setProgramme p prog code coverage carries target) := by
  intro p' r h
  cases h
  exact ⟨by simp [Instr.wellFormed, Request.fits], Machine.requestCode_known _⟩

theorem setName (p : Port) (prog variant : Byte) (short long : List Byte) :
    Statement (.setName p prog variant short long) := by
  intro p' r h
  cases h
  refine ⟨?_, Machine.requestCode_known _⟩
  simp only [Instr.wellFormed, Request.fits, Bool.and_eq_true]
  exact fun h => h.2

theorem setNameClear (p : Port) (prog variant : Byte) (long : List Byte) :
    Statement (.setNameClear p prog variant long) := by
  intro p' r h
  cases h
  refine ⟨?_, Machine.requestCode_known _⟩
  simp [Instr.wellFormed, Request.fits]

theorem selectName (p : Port) (prog variant : Byte) : Statement (.selectName p prog variant) := by
  intro p' r h
  cases h
  exact ⟨by simp [Instr.wellFormed, Request.fits], Machine.requestCode_known _⟩

theorem setTimedChange (p : Port) (entry prog variant : Byte) (target period : BitVec 32) :
    Statement (.setTimedChange p entry prog variant target period) := by
  intro p' r h
  cases h
  exact ⟨by simp [Instr.wellFormed, Request.fits], Machine.requestCode_known _⟩

theorem clearTimedChange (p : Port) (entry : Byte) : Statement (.clearTimedChange p entry) := by
  intro p' r h
  cases h
  exact ⟨by simp [Instr.wellFormed, Request.fits], Machine.requestCode_known _⟩

theorem setPlan (p : Port) (stream : Byte) (duties : List Byte) :
    Statement (.setPlan p stream duties) := by
  intro p' r h
  cases h
  exact ⟨by simp [Instr.wellFormed, Request.fits], Machine.requestCode_known _⟩

theorem startStream (p : Port) (stream : Byte) : Statement (.startStream p stream) := by
  intro p' r h
  cases h
  exact ⟨by simp [Instr.wellFormed, Request.fits], Machine.requestCode_known _⟩

theorem stopStream (p : Port) (stream : Byte) : Statement (.stopStream p stream) := by
  intro p' r h
  cases h
  exact ⟨by simp [Instr.wellFormed, Request.fits], Machine.requestCode_known _⟩

theorem readStream (p : Port) (stream : Byte) : Statement (.readStream p stream) := by
  intro p' r h
  cases h
  exact ⟨by simp [Instr.wellFormed, Request.fits], Machine.requestCode_known _⟩

theorem readProgramme (p : Port) (prog : Byte) : Statement (.readProgramme p prog) := by
  intro p' r h
  cases h
  exact ⟨by simp [Instr.wellFormed, Request.fits], Machine.requestCode_known _⟩

theorem setCue (p : Port) (prog source lead hangover : Byte) (maxSecs : BitVec 16) :
    Statement (.setCue p prog source lead hangover maxSecs) := by
  intro p' r h
  cases h
  exact ⟨by simp [Instr.wellFormed, Request.fits], Machine.requestCode_known _⟩

theorem cueOn (p : Port) (prog : Byte) : Statement (.cueOn p prog) := by
  intro p' r h
  cases h
  exact ⟨by simp [Instr.wellFormed, Request.fits], Machine.requestCode_known _⟩

theorem cueOff (p : Port) (prog : Byte) : Statement (.cueOff p prog) := by
  intro p' r h
  cases h
  exact ⟨by simp [Instr.wellFormed, Request.fits], Machine.requestCode_known _⟩

theorem readAnnouncement (p : Port) (prog : Byte) : Statement (.readAnnouncement p prog) := by
  intro p' r h
  cases h
  exact ⟨by simp [Instr.wellFormed, Request.fits], Machine.requestCode_known _⟩

theorem setTime (p : Port) (secs : BitVec 32) : Statement (.setTime p secs) := by
  intro p' r h
  cases h
  exact ⟨by simp [Instr.wellFormed, Request.fits], Machine.requestCode_known _⟩

theorem stepTime (p : Port) (delta : BitVec 32) : Statement (.stepTime p delta) := by
  intro p' r h
  cases h
  exact ⟨by simp [Instr.wellFormed, Request.fits], Machine.requestCode_known _⟩

theorem setTrim (p : Port) (trim : BitVec 32) : Statement (.setTrim p trim) := by
  intro p' r h
  cases h
  exact ⟨by simp [Instr.wellFormed, Request.fits], Machine.requestCode_known _⟩

theorem trimFor (p : Port) (trim duration : BitVec 32) : Statement (.trimFor p trim duration) := by
  intro p' r h
  cases h
  exact ⟨by simp [Instr.wellFormed, Request.fits], Machine.requestCode_known _⟩

theorem readTime (p : Port) : Statement (.readTime p) := by
  intro p' r h
  cases h
  exact ⟨by simp [Instr.wellFormed, Request.fits], Machine.requestCode_known _⟩

theorem readMark (p : Port) : Statement (.readMark p) := by
  intro p' r h
  cases h
  exact ⟨by simp [Instr.wellFormed, Request.fits], Machine.requestCode_known _⟩

theorem setOffset (p : Port) (offset : Byte) : Statement (.setOffset p offset) := by
  intro p' r h
  cases h
  exact ⟨by simp [Instr.wellFormed, Request.fits], Machine.requestCode_known _⟩

theorem setMarkWatch (p : Port) (enable : Byte) : Statement (.setMarkWatch p enable) := by
  intro p' r h
  cases h
  exact ⟨by simp [Instr.wellFormed, Request.fits], Machine.requestCode_known _⟩

theorem setMonitor (p : Port) (enable watched tolerance : Byte) :
    Statement (.setMonitor p enable watched tolerance) := by
  intro p' r h
  cases h
  exact ⟨by simp [Instr.wellFormed, Request.fits], Machine.requestCode_known _⟩

theorem readMonitor (p : Port) : Statement (.readMonitor p) := by
  intro p' r h
  cases h
  exact ⟨by simp [Instr.wellFormed, Request.fits], Machine.requestCode_known _⟩

theorem receivedBit (bit : Bool) (later : Bool) : Statement (.receivedBit bit later) := by
  intro p' r h
  simp [Machine.commandRequest] at h

theorem pornHeldLow : Statement (.pornHeldLow) := by
  intro p' r h
  simp [Machine.commandRequest] at h

end Sys2Proof.Laws.RequestFits
end

