-- ==== Sys2Proof/Tests/Slice0.lean ====
section
/-! SUPPORT. Tests: an ill-formed command for each check of WellFormed, the manual's worked figures,
and, for every statement of Certificates/Slice0/Obligations.lean that has hypotheses, a state and
operands that meet them, clause by clause, at the boundary values of their ranges. -/

namespace Sys2Proof.Tests

open Sys2Proof Sys2Proof.Machine

/-! ### Ill-formed commands are refused, and their nearest well-formed neighbours are not -/

/-- A SUBMIT of the shortest body. -/
def shortSubmit : SubmitArgs :=
  { number := 7, version := 1, urgency := 2, event := 1, location := 2210, extent := 0
    direction := 0, spare := 0, areas := none, startsAt := none, endsAt := none, advice := none
    text := none, confirm := 0 }

theorem test_wf_tick_boundary :
    (Instr.tickBoundary ⟨0, 0⟩ [.noticeTest 96]).wellFormed = false ∧
      (Instr.tickBoundary ⟨0, 0⟩ [.minute, .withdrawLimit 96]).wellFormed = false ∧
      (Instr.tickBoundary ⟨0, 0⟩ [.noticeTest 95]).wellFormed = true := by decide

theorem test_wf_second_boundary :
    (Instr.secondBoundary ⟨0, 0⟩ [.noticeTest 96]).wellFormed = false ∧
      (Instr.secondBoundary ⟨0, 0⟩ [.withdrawLimit 95]).wellFormed = true := by decide

theorem test_wf_slots :
    (Instr.noticeStart 96).wellFormed = false ∧ (Instr.noticeExpiry 96).wellFormed = false ∧
      (Instr.withdrawLimit 96).wellFormed = false ∧ (Instr.noticeStart 95).wellFormed = true := by
  decide

theorem test_wf_timed_change :
    (Instr.timedChangeFire 8).wellFormed = false ∧ (Instr.timedChangeFire 7).wellFormed = true := by
  decide

theorem test_wf_unknown_request :
    (Instr.unknownRequest .site 0x61 []).wellFormed = false ∧
      (Instr.unknownRequest .site 0x62 (List.replicate 250 0)).wellFormed = false ∧
      (Instr.unknownRequest .site 0x62 (List.replicate 249 0)).wellFormed = true := by
  decide +kernel

theorem test_wf_submit :
    (Instr.submit .site { shortSubmit with text := some [] }).wellFormed = false ∧
      (Instr.submit .site { shortSubmit with text := some (List.replicate 238 65) }).wellFormed =
        false ∧
      (Instr.submit .site { shortSubmit with text := some (List.replicate 237 65) }).wellFormed =
        true := by decide +kernel

theorem test_wf_set_name :
    (Instr.setName .site 0 0 [] [65]).wellFormed = false ∧
      (Instr.setName .site 0 0 [65] (List.replicate 245 65)).wellFormed = false ∧
      (Instr.setName .site 0 0 [65] (List.replicate 244 65)).wellFormed = true ∧
      (Instr.setNameClear .site 0 0 (List.replicate 246 65)).wellFormed = false ∧
      (Instr.setNameClear .site 0 0 (List.replicate 245 65)).wellFormed = true := by decide +kernel

theorem test_wf_set_plan :
    (Instr.setPlan .site 0 (List.replicate 19 4)).wellFormed = false ∧
      (Instr.setPlan .site 0 (List.replicate 21 4)).wellFormed = false ∧
      (Instr.setPlan .site 0 (List.replicate 20 4)).wellFormed = true := by decide

/-! ### The manual's worked figures -/

/-- A LIVE notice without records. -/
def aNotice : Notice :=
  { number := 7, version := 1, urgency := .normal, event := 1, location := 2210, extent := 0
    direction := 0, areas := 0x8, origin := .derived, stranded := false, startsAt := none
    endsAt := 100, advice := none, text := none, owner := .site, acceptedAt := 0, state := .live
    records := Four.all none }

/-- The coded headers of 04 R76. -/
theorem test_headers :
    [Kind.fill, .status, .time, .name, .longName, .refer, .head, .place, .advice, .text,
        .withdraw].map (fun k => headerOf k.code) =
      [0x00#8, 0xE1#8, 0x99#8, 0x78#8, 0x55#8, 0xB4#8, 0xCC#8, 0x2D#8, 0xD2#8, 0x33#8, 0x4B#8] := by
  decide

set_option maxRecDepth 4000 in
/-- The check of the nine bytes 0x31 to 0x39 is 0x29B1 (09 R182). -/
theorem test_crc :
    crcBits (([0x31, 0x32, 0x33, 0x34, 0x35, 0x36, 0x37, 0x38, 0x39] : List Byte).flatMap msbBits) =
      0x29B1#16 := by decide +kernel

/-- The frame of a PING (09 R191). -/
theorem test_ping_frame :
    (requestFrame .ping).body = [0x01#8] ∧ (requestFrame .ping).check = 0x3E1F#16 := by
  decide +kernel

/-- HEAD of notice 4107 of 01 section 1.4, by the layout of 09 section 9.9. -/
theorem test_head_payload :
    headPayload { aNotice with
      number := 4107
      version := 2
      urgency := .high
      event := 101
      extent := 1
      text := some (List.replicate 23 0x41#8) } = 0x100B26419480#48 := by decide +kernel

/-- The time of day of 04 R80: second 46,800 with offset +2, and second 4,294,967,280. -/
theorem test_time_payload :
    timePayload 46800 2 = 0#16 ++ 780#11 ++ 0#1 ++ 2#5 ++ 0#15 ∧
      timePayload 4294967280 0 = 49710#16 ++ 388#11 ++ 0#1 ++ 0#5 ++ 0#15 := by decide +kernel

/-- Intervals by airings (03 section 3.6). -/
theorem test_intervals :
    interval ⟨10, 6⟩ 5 = 10 ∧ interval ⟨10, 6⟩ 6 = 20 ∧ interval ⟨10, 6⟩ 18 = 80 ∧
      interval ⟨30, 4⟩ 12 = 240 ∧ interval ⟨180, 2⟩ 5 = 720 ∧ interval ⟨600, 2⟩ 6 = 3600 ∧
      interval ⟨2, 0⟩ 99 = 2 := by decide

/-- The completion at tick number 6 of 04 section 4.7. -/
theorem test_completion :
    (Record.complete ⟨60, 4⟩ 2000002 ⟨.airing, 2000002, 3, 0, none⟩).due = 2002402 ∧
      (Record.complete ⟨60, 4⟩ 2000002 ⟨.airing, 2000002, 3, 0, none⟩).airings = 4 := by decide

/-- The sample map of 02 section 2.1. -/
def sampleMap : LocationMap :=
  { ranges := [⟨true, 2200, 2299, 3⟩, ⟨true, 2150, 2240, 4⟩, ⟨false, 0, 65535, 9⟩]
    defaultAreas := 1#16 }

theorem test_derivation :
    sampleMap.derive 2210 = 0x18#16 ∧ sampleMap.derive 2150 = 0x10#16 ∧
      sampleMap.derive 2299 = 0x08#16 ∧ sampleMap.derive 2300 = 1#16 ∧
      sampleMap.derive 17 = 1#16 := by decide +kernel

/-- The trimmed ticks of 07 section 7.7. -/
theorem test_trimmed_ticks :
    let x : SiteTime := { SiteTime.reset with temporary := some (20000, 100) }
    (x.nextTick.residue, x.nextTick.tickLength) = (88000000, 614278) ∧
      (x.nextTick.nextTick.residue, x.nextTick.nextTick.tickLength) = (76000000, 614277) ∧
      x.nextTick.nextTick.nextTick.residue = 64000000 := by decide +kernel

/-! ### Small states for the witnesses -/

/-- The reset state with one notice, in slot `i`. -/
def slotted (i : Nat) (nt : Notice) : State := State.reset.setSlot i (some nt)

theorem slotted_notice (i j : Nat) (nt : Notice) :
    (slotted i nt).notice j = if i = j ∧ j < 96 then some nt else none := by
  simp only [slotted, State.setSlot, State.setTable, State.notice, State.reset, Table.reset,
    Config.slots, List.getD_eq_getElem?_getD, List.getElem?_set, List.length_replicate,
    List.getElem?_replicate]
  by_cases h : i = j <;> by_cases hj : j < 96 <;> simp [h, hj]

theorem slotted_sound (i : Nat) (nt : Notice) : (slotted i nt).TableSound := by
  refine ⟨by simp [slotted, State.setSlot, State.setTable, State.reset, Table.reset, Config.slots],
    fun j _ k _ hs hn => ?_⟩
  simp only [State.numberAt, slotted_notice] at hs hn
  by_cases h : i = j <;> by_cases h' : i = k <;> simp_all

theorem reset_notice (i : Nat) : State.reset.notice i = none := by
  simp only [State.notice, State.reset, Table.reset, Config.slots, List.getD_eq_getElem?_getD,
    List.getElem?_replicate]
  by_cases h : i < 96 <;> simp [h]

theorem reset_sound : State.reset.TableSound :=
  ⟨rfl, fun _ _ _ _ h => by simp [reset_notice] at h⟩

/-- The reset state with these fields of site time. -/
def atTime (count seconds : Nat) : State :=
  State.reset.setTime { SiteTime.reset with
    tickCount := count
    tickNumber := count % 20
    seconds := seconds }

/-- A held submit on slot 0 with stream 0 remaining. -/
def aHold : Held :=
  { number := 7, slot := 0, remaining := 1, satisfied := 0, heardStream := none, limit := 600
    results := [], flags := RFlags.none }

/-- A state with a submit held on port `p`. -/
def holding (p : Port) (s : State) : State := s.setPort p { s.port p with held := some aHold }

/-- An airing record. -/
def aRecord : Record := ⟨.airing, 0, 0, 0, none⟩

/-- The mixed stream of 03 section 3.8: notices A, B and C give stream 2 a load of 24. -/
theorem test_load :
    let on (a : Nat) : Four (Option Record) := (Four.all none).set 2 (some ⟨.airing, 0, a, 0, none⟩)
    let text (k : Nat) : Option (List Byte) := some (List.replicate k 65)
    let s := (((slotted 0 { aNotice with urgency := .urgent, text := text 3, records := on 0 }).setSlot 1
      (some { aNotice with advice := some (1, 0), text := text 12, records := on 5 })).setSlot 2
      (some { aNotice with urgency := .background, text := text 30, records := on 9 }))
    s.load 2 = 24 := by decide +kernel

/-! ### The hypotheses of the statements are met -/

theorem test_hyps_StepRunsTheFrontCommand :
    ({ State.reset with pending := [.ping .site, .markEdge] } : State).pending =
      .ping .site :: [.markEdge] := rfl

/-- An idle step: at the last cycle of a tick and before it, with no frame in assembly, and with one whose
timer is a cycle from its end and further from it. -/
theorem test_hyps_StepRunsTheFrontCommand_idle :
    (State.reset.pending = [] ∧ State.reset.pornLow = false ∧ State.reset.due = [] ∧
      State.reset.time.phase + 1 < State.reset.time.tickLength ∧
      ({ State.reset with pornLow := true } : State).pornLow = true ∧
      614400 ≤ ({ SiteTime.reset with phase := 614399 } : SiteTime).phase + 1 ∧
      SiteTime.reset.tickLength = 614400) ∧
    (let s (k : Nat) : State :=
        State.reset.setPort .site { PortState.reset 2 with asm := .length, timer := k };
      s 0 = (s 0).flushDue ∧ (s 0).pending = [] ∧ ((s 0).port .site).asm ≠ .hunt ∧
        ((s 2457598).port .site).timer + 1 < 2457600 ∧
        2457600 ≤ ((s 2457599).port .site).timer + 1 ∧
        ((s 0).port .traffic).asm = .hunt) := by decide +kernel

theorem test_hyps_PornHeldLowStopsThePart :
    ({ State.reset with pornLow := true } : State).pornLow = true ∧
      ∀ lines, Instr.markEdge ≠ .powerOn lines := ⟨rfl, nofun⟩

theorem test_hyps_ABoundaryAdvancesSiteTime :
    (State.reset.pornLow = false ∧ State.reset.ClockSound ∧ State.reset.time.tickNumber < 19) ∧
      ((atTime 18 59).ClockSound ∧ (atTime 18 59).time.tickNumber < 19) ∧
      ((atTime 19 59).pornLow = false ∧ (atTime 19 59).ClockSound ∧
        (atTime 19 59).time.tickNumber = 19 ∧
        min 4294967295 ((atTime 19 59).time.seconds + 1) % 60 = 0 ∧ Work.minute ∉ ([] : List Work)) ∧
      ((atTime 19 4294967295).ClockSound ∧ (atTime 19 4294967295).time.tickNumber = 19) := by
  decide +kernel

/-- The counts that a boundary takes: the mark watch and the silence counter below their limits and
at them. -/
theorem test_hyps_ABoundaryAdvancesSiteTime_counts :
    (let s (k : Nat) : State :=
        State.reset.setTime { SiteTime.reset with watch := .watching, watchCtr := k };
      (s 58).pornLow = false ∧ (s 58).flushDue.time.watch = .watching ∧
        (s 58).flushDue.time.watchCtr < 59 ∧ 59 ≤ (s 59).flushDue.time.watchCtr ∧
        State.reset.flushDue.time.watch ≠ .watching) ∧
    (let s (k : Nat) (q : Bool) : State :=
        State.reset.setMonitor { Monitor.reset with state := .locked, silence := k, silent := q };
      (s 98 false).flushDue.monitor.state ≠ .off ∧ (s 98 false).flushDue.monitor.silence < 99 ∧
        99 ≤ (s 99 false).flushDue.monitor.silence ∧
        (s 99 false).flushDue.monitor.silent = false ∧
        (s 100 true).flushDue.monitor.silent = true ∧
        State.reset.flushDue.monitor.state = .off) := by decide +kernel

/-- The same for ATickBoundaryKeepsTheSettingsListed, for the first clause of
ATickBoundarySendsACellOnEveryRunningStream and the last of LeadsHangoversAndBulletinsEnd, and for
TrimsAreStored, whose one hypothesis this is. -/
theorem test_hyps_released (p : Port) :
    State.reset.pornLow = false ∧ State.reset.Ready p := by cases p <;> decide

theorem test_hyps_TrimsWithdrawalsAndHoldsEndAtTheirLimits :
    (let x : SiteTime := { SiteTime.reset with temporary := some (5, 0) };
      (State.reset.setTime x).time.temporary = some (5, 0)) ∧
    (let x : SiteTime := { SiteTime.reset with temporary := some (5, 1) };
      (State.reset.setTime x).time.temporary = some (5, 0 + 1)) ∧
    State.reset.time.temporary = none ∧
    (let nt : Notice := { aNotice with state := .withdrawing 3 };
      (slotted 95 nt).notice 95 = some nt ∧ nt.state = .withdrawing 3 ∧
      3 + 2400 ≤ (atTime 2403 0).time.tickCount ∧ (atTime 2402 0).time.tickCount < 3 + 2400) ∧
    ((holding .traffic State.reset).port .traffic).held = some aHold ∧
      aHold.limit ≤ (atTime 600 0).time.tickCount ∧ (atTime 599 0).time.tickCount < aHold.limit := by
  decide +kernel

theorem test_hyps_NoticesStartAndExpire :
    (let nt : Notice := { aNotice with state := .pending, startsAt := some 60 };
      let s (k : Nat) : State := { (slotted 0 nt).setTime (atTime 0 k).time with due := [.noticeTest 0] };
      (s 0).pornLow = false ∧ Work.noticeTest 0 ∈ (s 0).due ∧ (s 0).notice 0 = some nt ∧
        nt.state = .pending ∧ nt.endsAt ≤ (s 100).time.seconds ∧ (s 99).time.seconds < nt.endsAt ∧
        nt.startsAt.getD 0 ≤ (s 60).time.seconds ∧ (s 59).time.seconds < nt.startsAt.getD 0) ∧
    (let s (k : Nat) : State :=
        { (slotted 95 aNotice).setTime (atTime 0 k).time with due := [.noticeTest 95] };
      (s 0).pornLow = false ∧ Work.noticeTest 95 ∈ (s 0).due ∧ (s 0).notice 95 = some aNotice ∧
        aNotice.state = .live ∧ aNotice.endsAt ≤ (s 100).time.seconds ∧
        (s 99).time.seconds < aNotice.endsAt ∧ Work.noticeTest 94 ∉ (s 100).due) := by decide +kernel

/-- A second boundary of a table with one notice. -/
theorem test_hyps_NoticesStartAndExpire_boundary (nt : Notice) :
    let s := (slotted 95 nt).setTime (atTime 19 99).time
    s.pornLow = false ∧ s.TableSound ∧ s.time.tickNumber = 19 ∧ s.notice 95 = some nt :=
  ⟨rfl, slotted_sound 95 nt, rfl, slotted_notice 95 95 nt⟩

/-- A programme whose variants 0 and 3 have names. -/
def aProgramme : Programme :=
  { Programme.reset with
    code := 0xC412
    coverage := 0xF
    carries := true
    variants := ⟨some ⟨List.replicate 8 65, none⟩, none, none, some ⟨List.replicate 8 66, none⟩⟩ }

/-- Second 50 with entries 6 and 7 of programme 2 reached, and a name in variant 3 only for 6. -/
def timedState : State :=
  { atTime 1000 50 with
    due := [.timedFire]
    store :=
      { progs := Four.all aProgramme
        timed := List.replicate 6 ⟨false, 0, 0, 0, 0⟩ ++
          [⟨true, 2, 3, 50, 60⟩, ⟨true, 2, 1, 0, 0⟩] } }

theorem test_hyps_TimedChangesFire :
    (timedState.pornLow = false ∧ timedState.store.timed[6]? = some ⟨true, 2, 3, 50, 60⟩ ∧
      timedState.store.timed[7]? = some ⟨true, 2, 1, 0, 0⟩ ∧ 50 ≤ timedState.time.seconds ∧
      Work.timedFire ∈ timedState.due ∧ (timedState.prog 2).variants.get 1 = none ∧
      (timedState.prog 2).variants.get 3 ≠ none) ∧
    (∀ (j' : Nat) (f' : TimedEntry), 6 < j' → timedState.store.timed[j']? = some f' →
      f'.inUse = true → f'.target ≤ timedState.time.seconds → f'.prog = 2 →
      (timedState.prog 2).variants.get f'.variant = none) := by
  refine ⟨by decide, fun j' f' hj hf _ _ _ => ?_⟩
  obtain ⟨hlt, he⟩ := List.getElem?_eq_some_iff.mp hf
  have h7 : j' = 7 := by
    have : timedState.store.timed.length = 8 := rfl
    omega
  subst h7
  rw [← he]
  rfl

/-- The clauses of one entry: one that names an empty variant, one that does not, and a second boundary
that reaches it. -/
theorem test_hyps_TimedChangesFire_entry :
    let s (e : TimedEntry) : State :=
      { atTime 19 49 with store := { progs := Four.all aProgramme, timed := [e] } }
    (∀ v period : Nat, (s ⟨true, 2, 1, v, period⟩).store.timed[0]? =
        some ⟨true, 2, 1, v, period⟩) ∧
      ((s ⟨true, 2, 1, 0, 0⟩).prog 2).variants.get 1 = none ∧
      ((s ⟨true, 2, 3, 0, 0⟩).prog 2).variants.get 3 ≠ none ∧
      49 + ((49 - 49) / 604800 + 1) * 604800 ≤ 4294967295 ∧
      (s ⟨true, 2, 3, 50, 60⟩).pornLow = false ∧
      (s ⟨true, 2, 3, 50, 60⟩).time.tickNumber = 19 :=
  ⟨fun _ _ => rfl, by decide, by decide, by decide, rfl, rfl⟩

/-- The state after a command, and the state itself where the command stops. -/
def after (c : Instr) (s : State) : State :=
  match exec c s with
  | .next t => t
  | .fault _ | .refused _ => s

/-- `timedState` at the end of its second, with nothing outstanding: entry 6 was written with a target
already past. -/
def pastTarget : State :=
  { timedState.setTime { timedState.time with tickNumber := 19 } with due := [] }

/-- An entry written with a target already past fires at the next second boundary and not before, whether
its test is taken with the boundary or left to its own command (05 R111, R112). -/
theorem test_past_target_waits :
    (after (.timedChangeFire 6) pastTarget).store.timed[6]? = some ⟨true, 2, 3, 50, 60⟩ ∧
      (after (.tickBoundary ⟨0, 0⟩ []) pastTarget).store.timed[6]? = some ⟨true, 2, 3, 110, 60⟩ ∧
      (let t := after (.tickBoundary ⟨0, 0⟩ [.timedFire]) pastTarget;
        t.store.timed[6]? = some ⟨true, 2, 3, 50, 60⟩ ∧
        (after (.timedChangeFire 6) t).store.timed[6]? = some ⟨true, 2, 3, 110, 60⟩) := by
  decide +kernel

/-- A request taken before an outstanding test of a second boundary: the test finds entry 6 as the request
left it, on programme 1, and fires it once (05 R114). -/
theorem test_moved_entry_fires_once :
    let t := after (.timedChangeFire 6) (after (.setTimedChange .site 6 1 3 0 60)
      (after (.tickBoundary ⟨0, 0⟩ [.timedFire]) pastTarget))
    t.store.timed[6]? = some ⟨true, 1, 3, 60, 60⟩ ∧ (t.prog 1).current = 3 ∧
      (t.prog 2).current = 0 ∧ Work.timedFire ∉ t.due := by decide +kernel

/-- Stream 3 with a start pending, and one LIVE notice that its programme carries. -/
def startState (lines : BitVec 4) : State :=
  { (slotted 95 aNotice) with
    due := [.stream 3]
    mrdyPins := lines
    store := { Store.reset with progs := Four.all aProgramme }
    streams := (Four.all (Stream.reset false)).set 3 { Stream.reset false with startPending := true } }

theorem test_hyps_APendingStartIsTaken :
    ((startState 8).pornLow = false ∧ Work.stream 3 ∈ (startState 8).due ∧
      ((startState 8).stream 3).startPending = true ∧
      ((startState 8).stream 3).state = .stopped ∧ ((startState 8).stream 3).run = none ∧
      (startState 0).mrdyPins.getLsbD 3 = false) ∧
    ((startState 8).notice 95 = some aNotice ∧ aNotice.state = .live ∧
      ((startState 8).prog 3).carries = true ∧
      ((startState 8).prog 3).coverage &&& aNotice.areas ≠ 0#16) ∧
    (let nt : Notice := { aNotice with state := .pending };
      (slotted 0 nt).notice 0 = some nt ∧ nt.record 3 = none ∧ nt.state ≠ .live) := by
  decide +kernel

/-- Stream 0 STOPPING, with the only record of a notice in slot 0, on which a submit is held. -/
def stopState (again : Bool) (count : Nat) (st : NoticeState) : State :=
  { holding .site (slotted 0 { aNotice with
      state := st
      records := (Four.all none).set 0 (some aRecord) }) with
    due := [.stream 0]
    time := (atTime count 1).time
    streams := (Four.all (Stream.reset false)).set 0
      { Stream.reset false with state := .stopping, startPending := again } }

theorem test_hyps_AStoppingStreamEntersStopped :
    ((stopState false 19 .live).pornLow = false ∧
      Work.stream 0 ∈ (stopState false 19 .live).due ∧
      ((stopState false 19 .live).stream 0).state = .stopping ∧
      ((stopState false 19 .live).stream 0).startPending = false ∧
      (stopState false 19 .live).time.tickNumber ≠ 0) ∧
    (((stopState true 20 .live).stream 0).startPending = true ∧
      (stopState true 20 .live).time.tickNumber = 0) ∧
    (((stopState false 19 .live).port .site).held = some aHold ∧
      chMem aHold.remaining 0 = true ∧ aHold.slot < 96 ∧
      ∃ nt, (stopState false 19 .live).notice aHold.slot = some nt ∧ nt.record 0 ≠ none) :=
  ⟨by decide +kernel, by decide +kernel, by decide +kernel, by decide, by decide, _, rfl, by decide⟩

/-- Stream 0 at tick number 0 with a plan pending. -/
def planState (st : StreamState) : State :=
  { State.reset with
    due := [.stream 0]
    streams := (Four.all (Stream.reset false)).set 0
      { Stream.reset false with state := st, pendingPlan := some Stream.defaultPlan } }

theorem test_hyps_APendingPlanTakesEffect :
    (∀ st, (planState st).pornLow = false ∧ Work.stream 0 ∈ (planState st).due ∧
      (planState st).time.tickNumber = 0 ∧ (planState st).RunsSound ∧
      ((planState st).stream 0).pendingPlan = some Stream.defaultPlan ∧
      ((planState st).stream 0).state = st ∧
      ((planState st).stream 0).startPending = false) := by
  intro st
  cases st <;> decide

/-- A tick boundary that reaches a withdraw limit and a confirm limit, and one that does not. -/
theorem test_hyps_TrimsWithdrawalsAndHoldsEndAtTheirLimits_boundary (count : Nat) :
    let nt : Notice := { aNotice with state := .withdrawing 3 }
    let s := (holding .site (slotted 0 nt)).setTime (atTime count 0).time
    s.pornLow = false ∧ s.TableSound ∧ s.flushDue = s ∧ s.notice 0 = some nt ∧
      nt.withdrawStart = some 3 ∧ (s.port .site).held = some aHold ∧
      s.time.tickCount = count ∧ 3 + 2400 ≤ 2402 + 1 ∧ 2401 + 1 < 3 + 2400 ∧
      aHold.limit ≤ 599 + 1 ∧ 598 + 1 < aHold.limit :=
  ⟨rfl, slotted_sound 0 _, rfl, slotted_notice 0 0 _, rfl, rfl, rfl, by decide, by decide, by decide,
    by decide⟩

/-- A notice with an airing record on stream 0. -/
def onAirNotice : Notice := { aNotice with records := (Four.all none).set 0 (some aRecord) }

/-- Stream 0 RUNNING at tick number 1, with one cell left of its run of the notice in slot 0. -/
def runState : State :=
  { holding .site (slotted 0 onAirNotice) with
    due := [.stream 0]
    mrdyPins := 1
    time := (atTime 21 1).time
    streams := (Four.all (Stream.reset false)).set 0
      { Stream.reset true with state := .running, run := some ⟨7, 0, 1, 20⟩ } }

theorem test_hyps_ARunCompletes :
    (runState.pornLow = false ∧ Work.stream 0 ∈ runState.due ∧
      (runState.stream 0).state = .running ∧ runState.mrdyPins.getLsbD 0 = true ∧
      ((runState.stream 0).planAt runState.time.tickNumber)[runState.time.tickNumber]? =
        some .openSlot ∧
      (runState.stream 0).run = some ⟨7, 0, 1, 20⟩ ∧ runState.notice 0 = some onAirNotice ∧
      onAirNotice.record 0 = some aRecord ∧ onAirNotice.runLength ≤ 1 + 1) ∧
    ((runState.port .site).held = some aHold ∧ aHold.slot = 0 ∧
      chMem aHold.remaining 0 = true ∧ aHold.heardStream ≠ some 0) ∧
    (runState.arbitrated 0 .openSlot ∧ runState.arbitrated 0 .longName ∧
      runState.arbitrated 0 .refer) ∧
    ∀ h, (runState.port .traffic).held = some h → h.slot ≠ 0 :=
  ⟨by decide +kernel, by decide,
    ⟨.inl rfl, .inr (.inl ⟨rfl, fun _ h => by cases h⟩), .inr (.inr ⟨rfl, fun _ h => by cases h⟩)⟩,
    fun _ hh => by cases hh⟩

/-- Stream 0 RUNNING before a boundary, with every slot of its plan of one duty, a target of which its
referral is still active, a run perhaps, and one notice in the table. -/
def sendState (time : SiteTime) (d : Duty) (run : Option Run) (nt : Notice) : State :=
  { slotted 0 nt with
    time := time
    store := { Store.reset with progs := Four.all { aProgramme with
      target := some 1
      variants := (Four.all none).set 0 (some ⟨List.replicate 8 65, some [66]⟩) } }
    announce := (Four.all Announce.reset).set 0 { Announce.reset with closing := 1 }
    streams := (Four.all (Stream.reset true)).set 0
      { Stream.reset true with state := .running, run := run, plan := List.replicate 20 d } }

/-- Every clause of ATickBoundarySendsACellOnEveryRunningStream about the work of one stream. -/
theorem test_hyps_ATickBoundarySendsACell (time : SiteTime) (d : Duty) (run : Option Run)
    (nt : Notice) :
    let s := sendState time d run nt
    (s.pornLow = false ∧ s.flushDue = s ∧ (s.stream 0).state = .running ∧
      (1#4).getLsbD 0 = true ∧ ((s.stream 0).planAt 0)[0]? = some d ∧
      ((s.stream 0).planAt 19)[19]? = some d) ∧
    (∃ y, (s.prog 0).variants.get (s.prog 0).current = some y ∧ y.long = some [66]) ∧
    ((s.prog 0).target = some 1 ∧ (s.ann 1).flag = false ∧ 0 < (s.ann 0).closing) ∧
    (s.arbitrated 0 .openSlot ∧ (s.stream 0).run = run ∧ s.notice 0 = some nt) ∧
    (∀ rec, nt.record 0 = some rec → rec.due ≤ 21 → s.dueOn 0 21 0 nt rec) ∧
    (∀ j nt' rec, j ≠ 0 → ¬ s.dueOn 0 21 j nt' rec) ∧
    (nt.record 0 = none → ∀ i nt' rec, ¬ s.dueOn 0 21 i nt' rec) := by
  have h (j : Nat) : (sendState time d run nt).notice j = if 0 = j ∧ j < 96 then some nt else none :=
    slotted_notice 0 j nt
  refine ⟨⟨rfl, rfl, rfl, by decide, by cases d <;> rfl, by cases d <;> rfl⟩, ⟨_, rfl, rfl⟩,
    ⟨rfl, rfl, Nat.one_pos⟩, ⟨.inl rfl, rfl, h 0⟩, fun rec hr hd => ⟨by decide, h 0, hr, hd⟩,
    fun j nt' rec hj hd => ?_, fun hn i nt' rec hd => ?_⟩
  · have := hd.2.1
    rw [h] at this
    simp [Ne.symm hj] at this
  · obtain ⟨-, h1, h2, -⟩ := hd
    rw [h] at h1
    split at h1
    · cases h1
      rw [hn] at h2
      cases h2
    · cases h1

/-- The operands of those clauses: a minute's boundary, a run with cells left and at its last one, and
a record in each mode. -/
theorem test_hyps_ATickBoundarySendsACell_operands :
    (let x : SiteTime := { (atTime 19 59).time with isSet := true };
      x.tickNumber = 19 ∧ (x.seconds + 1) % 60 = 0 ∧ x.isSet = true) ∧
    (let nt : Notice := { onAirNotice with text := some (List.replicate 9 65) };
      1 + 1 < nt.runLength ∧ ¬ onAirNotice.runLength - 1 + 1 < onAirNotice.runLength) ∧
    (∀ k, (onAirNotice.withRecord 0 (some { aRecord with mode := .withdrawal k })).record 0 =
      some { aRecord with mode := .withdrawal k }) ∧
    onAirNotice.record 0 = some aRecord ∧ aRecord.mode = .airing ∧ aNotice.record 0 = none :=
  ⟨by decide, by decide, fun _ => rfl, rfl, rfl, rfl⟩

/-- The bit periods at their ends: the first, the last one's beginning and the last cycle of the
longest tick. -/
theorem test_hyps_ATickBoundarySendsACell_bits :
    (6400 * 0 ≤ State.reset.time.phase ∧ State.reset.time.phase < 6400 * (0 + 1)) ∧
      6400 * 95 ≤ 608000 ∧ 6400 * 95 ≤ 614522 ∧ (State.reset.stream 3).cell = none ∧
      ∀ c, ((State.reset.setStream 3 { Stream.reset true with cell := some c }).stream 3).cell =
        some c := ⟨by decide, by decide, by decide, rfl, fun _ => rfl⟩

/-- Programme 1 under its link cue, at tick count 200 with its work of the boundary outstanding. -/
def annState (cue : Bool) (st : AnnState) (lead hang : Nat) : State :=
  { atTime 200 10 with
    due := [.announce 1]
    cuePins := 0xF
    store := { Store.reset with progs := Four.all aProgramme }
    announce := (Four.all Announce.reset).set 1 { Announce.reset with
      source := .link
      linkCue := cue
      cueLevel := cue
      state := st
      leadCtr := lead
      hangCtr := hang
      maxSecs := 10
      bulletin := some ⟨0, 0, 0⟩ } }

theorem test_hyps_LeadsHangoversAndBulletinsEnd :
    (let s := annState true .leading 1 0;
      s.pornLow = false ∧ Work.announce 1 ∈ s.due ∧ (s.ann 1).state = .leading ∧
        (s.ann 1).leadCtr ≤ 1 ∧ (s.sampled 1).state = .leading ∧ 1 ≤ (s.ann 1).maxSecs) ∧
    (let s := annState false .hanging 0 1;
      (s.sampled 1).state = (s.ann 1).state ∧ (s.ann 1).state = .hanging ∧
        (s.ann 1).hangCtr ≤ 1) ∧
    (let s := annState true .onAir 0 0;
      (s.sampled 1).state = (s.ann 1).state ∧ (s.ann 1).bulletin = some ⟨0, 0, 0⟩ ∧
        (s.ann 1).maxSecs * 20 ≤ s.time.tickCount - 0 ∧ (s.ann 1).state = .onAir) ∧
    (let s := annState false .hanging 0 2;
      (s.sampled 1).state = (s.ann 1).state ∧ (s.ann 1).maxSecs * 20 ≤ s.time.tickCount - 0 ∧
        (s.ann 1).state = .hanging ∧ 1 < (s.ann 1).hangCtr) := by decide

theorem test_hyps_MarksAreCapturedAndWatched :
    (let x (k : Nat) : SiteTime := { SiteTime.reset with watch := .watching, watchCtr := k };
      Work.markWatch ∈ [Work.markWatch] ∧ (x 59).watch = .watching ∧ 59 ≤ (x 59).watchCtr ∧
        (x 58).watchCtr < 59 ∧ SiteTime.reset.watch ≠ .watching) ∧
    (let m (k : Nat) (q : Bool) : Monitor :=
        { Monitor.reset with state := .searching, silence := k, silent := q };
      Work.silence ∈ [Work.silence] ∧ (m 99 false).state ≠ .off ∧ (m 99 false).silent = false ∧
        99 ≤ (m 99 false).silence ∧ (m 98 false).silence < 99 ∧ (m 100 true).silent = true ∧
        Monitor.reset.state = .off) := by decide

/-- A monitor with a candidate. -/
def candState (st : MonState) (c : List Bool) : State :=
  { slotted 0 onAirNotice with
    store := { Store.reset with progs := Four.all aProgramme }
    monitor := { Monitor.reset with state := st, candidate := some c } }

/-- The 88 bits after the sync of a cell of the watched programme. -/
def cellBits (k : Kind) (v : BitVec 48) : List Bool := (msbBits (formCell 0xC412 k v)).drop 8

theorem test_hyps_ACandidateIsTalliedAndMovesTheLock :
    (let c := List.replicate 88 false;
      (candState .searching c).pornLow = false ∧
        (candState .searching c).monitor.candidate = some c ∧ 88 ≤ c.length ∧
        (judge 0xC412 c).isOwn = false ∧
        (candState .searching c).monitor.state = .searching) ∧
    (judge 0xC412 (cellBits .fill 0)).isOwn = true ∧
      (candState .locked (cellBits .fill 0)).monitor.state = .locked := by decide +kernel

/-- Five cells that the watched programme's monitor hears: the notice's own HEAD, the HEAD of another
version, of another number, a STATUS and a NAME. -/
theorem test_hyps_AnOwnCellIsCompared :
    (let v := headPayload onAirNotice;
      (candState .locked (cellBits .head v)).pornLow = false ∧ 88 ≤ (cellBits .head v).length ∧
        judge 0xC412 (cellBits .head v) = .own false 6#4 v ∧
        onAirNotice.number = headNumber v ∧ onAirNotice.version = headVersion v ∧
        onAirNotice.record 0 = some aRecord ∧ aRecord.mode = .airing) ∧
    (let v := headPayload { onAirNotice with version := 2 };
      judge 0xC412 (cellBits .head v) = .own false 6#4 v ∧ onAirNotice.number = headNumber v ∧
        onAirNotice.version ≠ headVersion v) ∧
    (let v := headPayload { onAirNotice with number := 8 };
      judge 0xC412 (cellBits .head v) = .own false 6#4 v ∧ onAirNotice.number ≠ headNumber v) ∧
    judge 0xC412 (cellBits .status 0) = .own false 1#4 0 ∧
      judge 0xC412 (cellBits .name 0) = .own false 3#4 0 := by decide +kernel

theorem test_hyps_AnOwnCellIsCompared_table (st : MonState) (c : List Bool) :
    (candState st c).TableSound ∧ (candState st c).notice 0 = some onAirNotice ∧
      ∀ i nt, (candState st c).notice i = some nt → nt.number ≠ 8 := by
  refine ⟨slotted_sound 0 onAirNotice, slotted_notice 0 0 onAirNotice, fun i nt h => ?_⟩
  have h' : (slotted 0 onAirNotice).notice i = some nt := h
  rw [slotted_notice] at h'
  split at h' <;> simp_all
  rw [← h']
  decide

theorem test_hyps_ReceivedBitsAndSyncMisses :
    (let m : Monitor := { Monitor.reset with state := .searching };
      m.state ≠ .off ∧ m.candidate = none ∧ m.missed = none ∧ m.window.length < 7) ∧
    (let w := [true, true, false, true, false, false, true];
      w.length = 7 ∧
      ((w ++ [true]).zip [true, true, false, true, false, false, true, false]).countP
          (fun x => x.1 != x.2) ≤ 1 ∧
      1 < ((List.replicate 7 false ++ [true]).zip
        [true, true, false, true, false, false, true, false]).countP (fun x => x.1 != x.2)) ∧
    (let m (k : Nat) : Monitor :=
        { Monitor.reset with state := .locked, candidate := some (List.replicate k true) };
      (m 87).candidate = some (List.replicate 87 true) ∧ (m 87).missed = none ∧
        (List.replicate 86 true).length < 87 ∧ (List.replicate 87 true).length = 87) ∧
    (let m (k f : Nat) : Monitor :=
        { Monitor.reset with state := .locked, missed := some k, faults := f };
      (m 87 4).missed = some 87 ∧ (m 87 4).candidate = none ∧ (m 86 4).missed = some 86 ∧
        (m 88 4).faults < 5 ∧ 5 ≤ (m 88 5).faults ∧ (m 88 5).state = .locked) := by
  decide +kernel

/-- A port in an assembly state. -/
def assembling (asm : Assembly) : State :=
  State.reset.setPort .site { PortState.reset 2 with asm := asm }

theorem test_hyps_BytesAreAssembledOrDiscarded :
    (State.reset.pornLow = false ∧ (State.reset.port .site).asm = .hunt ∧
      (State.reset.port .site).stray = false ∧ (0xA4#8 : Byte) ≠ 0xA5#8 ∧
      ((State.reset.setPort .site { PortState.reset 2 with stray := true }).port .site).stray) ∧
    ((assembling .length).port .site).asm = .length ∧
    (1 ≤ (1#8).toNat ∧ (250#8).toNat ≤ 250 ∧ (0#8).toNat = 0 ∧ 250 < (251#8).toNat) ∧
    ((assembling (.body 2 [])).port .site).asm = .body 2 [] ∧
      ((assembling (.body 1 [3])).port .site).asm = .body 1 [3] ∧
      ((assembling (.check [3] none)).port .site).asm = .check [3] none ∧
    ((assembling .length).time.tickLength - (assembling .length).time.phase = 614400 ∧
      1843199 + 614400 < 2457600 ∧ 2457600 ≤ 1843200 + 614400) := by decide

/-- A response that has nothing to follow it. -/
def aResponse : Response := refusal 0x10#8 .full

theorem test_hyps_ACompleteFrameIsTakenWaitsOrIsLost :
    (let s := assembling (.check [0x01#8] (some 0x3E#8));
      s.pornLow = false ∧ (s.port .site).asm = .check [0x01#8] (some 0x3E#8) ∧
        (s.port .site).queue = [] ∧ frameCheck [0x01#8] ≠ 0x3E#8 ++ 0x1E#8 ∧ s.PortsSound ∧
        frameCheck [0x01#8] = 0x3E#8 ++ 0x1F#8 ∧ requestBody .ping = [0x01#8] ∧
        Request.ping.fits = true ∧ commandRequest (.ping .site) = some (.site, .ping)) ∧
    ((0x01#8 : Byte) ∈ requestCodes ∧ (0x62#8 : Byte) ∉ requestCodes ∧
      (0x06#8 : Byte) ∈ requestCodes ∧ (0x06#8 : Byte) ∉
        ([0x01#8, 0x05#8, 0x10#8, 0x11#8, 0x12#8, 0x14#8, 0x15#8, 0x54#8] : List Byte) ∧
      (State.reset.port .traffic).held = none ∧
      ((holding .traffic State.reset).port .traffic).held ≠ none) ∧
    (let s (w : Option Frame) := State.reset.setPort .site { PortState.reset 2 with
        asm := .check [0x01#8] (some 0x3E#8)
        queue := [aResponse]
        waiting := w };
      ((s none).port .site).queue ≠ [] ∧ ((s none).port .site).waiting = none ∧
        ((s (some ⟨[1], 0⟩)).port .site).waiting ≠ none) := by decide +kernel

/-- A body of two bytes under the code of PING is no request's. -/
theorem test_hyps_ACompleteFrame_badLength (r : Request) : requestBody r ≠ [0x01#8, 0#8] := by
  cases r <;> simp [requestBody, requestCode, requestParams]

/-- A port with responses to send and, perhaps, a frame waiting. -/
def sending (q : List Response) (w : Option Frame) : State :=
  State.reset.setPort .site { PortState.reset 2 with queue := q, waiting := w }

theorem test_hyps_AResponseLeaves :
    ((sending [aResponse, aResponse] none).pornLow = false ∧
      ((sending [aResponse, aResponse] none).port .site).queue = aResponse :: [aResponse] ∧
      aResponse.next = none ∧ ((sending [aResponse] none).port .site).waiting = none) ∧
    (let s := sending [aResponse] (some ⟨[0x62#8], frameCheck [0x62#8] + 1⟩);
      (s.port .site).waiting = some ⟨[0x62#8], frameCheck [0x62#8] + 1⟩ ∧
        frameCheck [0x62#8] ≠ frameCheck [0x62#8] + 1 ∧ (0x62#8 : Byte) ∉ requestCodes ∧
        (s.port .site).held = none ∧ ((holding .site s).port .site).held ≠ none ∧
        ((holding .site s).port .site).waiting ≠ none) ∧
    (commandRequest (.ping .site) = some (.site, .ping) ∧ Request.ping.fits = true ∧
      ((sending [aResponse] (some ⟨requestBody .ping, frameCheck (requestBody .ping)⟩)).port
        .site).waiting = some ⟨requestBody .ping, frameCheck (requestBody .ping)⟩) ∧
    ({ aResponse with next := some (.setBaud .traffic 3) } : Response).next =
      some (.setBaud .traffic 3) := by decide +kernel

/-- The first byte of a response's frame on STX is the lead 0x5A: a start bit, 0 1 0 1 1 0 1 0, and a stop
bit (09 R178, R184). -/
theorem test_serial_lead :
    (List.range 10).map ((sending [aResponse] none).serialOut .site) =
      [false, false, true, false, true, true, false, true, false, true] := by decide +kernel

theorem test_hyps_ARestartIsPerformed :
    let r (a : After) : Response := { aResponse with next := some a }
    (sending [r .restartTable] none).pornLow = false ∧
      ((sending [r .restartTable] none).port .site).queue = [r .restartTable] ∧
      ((sending [r .restartAll] none).port .site).queue = [r .restartAll] ∧
      ((sending [r .restartTable] none).port .site).waiting = none ∧
      (sending [r .restartTable] none).TableSound :=
  ⟨rfl, rfl, rfl, rfl, reset_sound⟩

theorem test_hyps_TheDispatcherRefusesOrWaits :
    ((holding .traffic State.reset).pornLow = false ∧
      commandRequest (.ping .traffic) = some (.traffic, .ping) ∧
      ((holding .traffic State.reset).port .traffic).queue = [] ∧
      ((holding .traffic State.reset).port .traffic).held ≠ none ∧
      requestCode .ping ≠ 0x05#8) ∧
    (commandRequest (.readTime .traffic) = some (.traffic, .readTime) ∧
      commandRequest (.readMark .traffic) = some (.traffic, .readMark) ∧
      requestCode .readMark ∉ ([0x01#8, 0x05#8, 0x10#8, 0x11#8, 0x12#8, 0x14#8, 0x15#8, 0x54#8] :
        List Byte)) ∧
    (commandRequest (.setPlan .site 0 []) = some (.site, .setPlan 0 []) ∧
      (Request.setPlan 0 []).fits = false ∧ (State.reset.port .site).held = none) ∧
    ((0x62#8 : Byte) ∉ requestCodes ∧ (State.reset.port .site).queue = []) ∧
    ((sending [aResponse] none).port .site).queue ≠ [] ∧
      ((sending [aResponse] (some ⟨[1], 0⟩)).port .site).waiting ≠ none := by decide +kernel

theorem test_hyps_ReadsChangeNothing :
    (State.reset.Ready .site ∧ State.reset.MapSound ∧
      State.reset.map.ranges[(31#8).toNat]? = some ⟨false, 0, 0, 0⟩ ∧
      commandRequest (.readRange .site 31) = some (.site, .readRange 31) ∧
      commandRequest (.readRange .site 32) = some (.site, .readRange 32)) ∧
    (State.reset.Ready .traffic ∧
      commandRequest (.listNotices .traffic 95) = some (.traffic, .listNotices 95) ∧
      requestCode (.listNotices 95) ∈ ([0x01#8, 0x14#8, 0x15#8, 0x54#8] : List Byte) ∧
      95 < (96#8).toNat ∧ 3 < (4#8).toNat ∧ (3#8).toNat = (3 : Ch).val) := by decide +kernel

/-- QUERY NOTICE of a number in no slot, and of the notice in slot 95. -/
theorem test_hyps_ReadsChangeNothing_query :
    State.reset.TableSound ∧ (7#16 : BitVec 16) ≠ 0#16 ∧
      (∀ i nt, State.reset.notice i = some nt → nt.number ≠ (7#16).toNat) ∧
      (slotted 95 aNotice).TableSound ∧ (slotted 95 aNotice).notice 95 = some aNotice ∧
      aNotice.number = (7#16).toNat :=
  ⟨reset_sound, by decide, fun i nt h => by simp [reset_notice] at h, slotted_sound _ _,
    slotted_notice 95 95 aNotice, rfl⟩

theorem test_hyps_LinkAndRestartAreAnsweredFirst :
    State.reset.Ready .site ∧ 1 < (2#8).toNat ∧ 3 < (4#8).toNat ∧
      portOf? (1#8).toNat = some .traffic ∧ (3#8).toNat ≤ 3 := by decide

theorem test_hyps_AbandonEndsTheHold :
    (State.reset.pornLow = false ∧ (State.reset.port .site).queue = [] ∧
      (State.reset.port .site).held = none) ∧
    ((holding .traffic State.reset).port .traffic).queue = [] ∧
      ((holding .traffic State.reset).port .traffic).held = some aHold := by decide

theorem test_hyps_SetAttentionMaskReplacesTheMask :
    State.reset.Ready .traffic ∧ State.reset.Ready .site ∧
      State.reset.attention.mask = (0xFEFF#16).setWidth 11 ∧
      State.reset.attention.mask ≠ (0x07FF#16).setWidth 11 := by decide

/-- A SUBMIT of `shortSubmit` with an explicit area. -/
def placedSubmit : SubmitArgs := { shortSubmit with areas := some 8 }

theorem short_in_range (a : SubmitArgs) (h : a.spare = 0 ∧ a.number = 7 ∧ a.version.toNat ≤ 15 ∧
    a.urgency = 2 ∧ a.event = 1 ∧ a.extent = 0 ∧ a.direction = 0 ∧ a.areas ≠ some 0 ∧
    a.advice = none ∧ a.confirm = 0) : ¬ SubmitOutOfRange a := by
  obtain ⟨h1, h2, h3, h4, h5, h6, h7, h8, h9, h10⟩ := h
  simp [SubmitOutOfRange, h1, h2, h4, h5, h6, h7, h9, h10]
  exact ⟨h3, h8⟩

theorem test_hyps_SubmitIsCheckedInTurn :
    (State.reset.Ready .traffic ∧ shortSubmit.fits = true ∧
      SubmitOutOfRange { shortSubmit with number := 0 } ∧
      SubmitOutOfRange { shortSubmit with confirm := 3 }) ∧
    (¬ SubmitOutOfRange shortSubmit ∧ (slotted 0 aNotice).notice 0 = some aNotice ∧
      (slotted 0 aNotice).TableSound ∧ aNotice.number = shortSubmit.number.toNat ∧
      aNotice.owner = .site ∧ aNotice.version = shortSubmit.version.toNat) ∧
    (∀ i nt, (slotted 0 aNotice).notice i = some nt →
      nt.version ≠ ({ shortSubmit with version := 15 } : SubmitArgs).version.toNat) ∧
    (State.reset.submitStale { shortSubmit with endsAt := some 0 } ∧
      State.reset.submitStale { shortSubmit with startsAt := some 60, endsAt := some 60 } ∧
      ¬ State.reset.submitStale shortSubmit ∧ State.reset.submitAreas shortSubmit = 0#16) := by
  refine ⟨⟨by decide, by decide, .inr (.inl rfl), ?_⟩,
    ⟨short_in_range _ (by decide), rfl, slotted_sound _ _, rfl, rfl, rfl⟩, fun i nt h => ?_,
    ⟨.inl (by decide), .inr ⟨60, rfl, by decide⟩, ?_, by decide⟩⟩
  · simp [SubmitOutOfRange]
  · rw [slotted_notice] at h
    split at h <;> simp_all
    rw [← h]
    decide
  · rintro (⟨h, -⟩ | ⟨b, h, -⟩) <;> exact absurd h (by simp [shortSubmit])

theorem test_hyps_SubmitUpdatesANotice :
    let a : SubmitArgs := { placedSubmit with version := 0 }
    let s := slotted 95 aNotice
    s.Ready .site ∧ a.fits = true ∧ s.TableSound ∧ ¬ SubmitOutOfRange a ∧
      urgencyOf? a.urgency.toNat = some .normal ∧ s.notice 95 = some aNotice ∧
      aNotice.number = a.number.toNat ∧ aNotice.version ≠ a.version.toNat ∧
      ¬ s.submitStale a ∧ s.submitAreas a ≠ 0#16 :=
  ⟨by decide, by decide, slotted_sound _ _, short_in_range _ (by decide), rfl, rfl, rfl,
    by decide, by
      rintro (⟨h, -⟩ | ⟨b, h, -⟩) <;> exact absurd h (by simp [placedSubmit, shortSubmit]),
    by decide⟩

/-- The notice of slot `i` in a full table. -/
def crowd (u : Urgency) (i : Nat) : Notice := { aNotice with number := 100 + i, urgency := u }

/-- A full table of one class. -/
def full (u : Urgency) : State :=
  State.reset.setTable { Table.reset with slots := (List.range 96).map fun i => some (crowd u i) }

theorem full_notice (u : Urgency) (i : Nat) :
    (full u).notice i = if i < 96 then some (crowd u i) else none := by
  simp only [full, State.notice, State.setTable, List.getD_eq_getElem?_getD, List.getElem?_map]
  by_cases h : i < 96 <;> simp [h]

theorem full_sound (u : Urgency) : (full u).TableSound := by
  refine ⟨by simp [full, State.setTable, Config.slots], fun i hi j hj _ hn => ?_⟩
  simp only [Config.slots] at hi hj
  simp [State.numberAt, full_notice, hi, hj, crowd] at hn
  exact hn

theorem test_hyps_SubmitPlacesANewNotice :
    (State.reset.Ready .traffic ∧ placedSubmit.fits = true ∧ State.reset.TableSound ∧
      ¬ SubmitOutOfRange placedSubmit ∧ urgencyOf? placedSubmit.urgency.toNat = some .normal ∧
      (∀ i nt, State.reset.notice i = some nt → nt.number ≠ placedSubmit.number.toNat) ∧
      ¬ State.reset.submitStale placedSubmit ∧ State.reset.submitAreas placedSubmit ≠ 0#16 ∧
      State.reset.notice 0 = none) ∧
    ∀ u, (full u).TableSound ∧ (∀ i < 96, (full u).notice i ≠ none) ∧
      (∀ i nt, (full u).notice i = some nt → nt.number ≠ placedSubmit.number.toNat ∧
        (nt.state = .live ∧ nt.urgency = u) ∧ nt.endsAt = 100) := by
  refine ⟨⟨by decide, by decide, reset_sound, short_in_range _ (by decide), rfl, fun i nt h => ?_,
    ?_, by decide, rfl⟩, fun u => ⟨full_sound u, fun i hi => ?_, fun i nt h => ?_⟩⟩
  · simp [reset_notice] at h
  · rintro (⟨h, -⟩ | ⟨b, h, -⟩) <;> exact absurd h (by simp [placedSubmit, shortSubmit])
  · simp [full_notice, hi]
  · rw [full_notice] at h
    split at h <;> simp_all
    rw [← h]
    exact ⟨by simp [crowd, placedSubmit, shortSubmit]; omega, ⟨rfl, rfl⟩, rfl⟩

theorem test_hyps_SubmitPlacesANewNotice_ranks :
    ¬ Urgency.rank .normal < Urgency.rank .normal ∧
      Urgency.rank .normal < Urgency.rank .background ∧
      (full .background).notice 0 = some (crowd .background 0) ∧
      ∀ j < 96, j ≠ 0 → 0 < j := by
  refine ⟨by decide, by decide, full_notice _ 0, fun j _ h => Nat.pos_of_ne_zero h⟩

/-- The requests that name a notice: number 0, a number in no slot, and notice 7 in each state. -/
theorem test_hyps_WithdrawAndPurge :
    State.reset.Ready .site ∧ State.reset.Ready .traffic ∧ State.reset.TableSound ∧
      (∀ i nt, State.reset.notice i = some nt → nt.number ≠ (7#16).toNat) ∧ (7#16 : BitVec 16) ≠ 0 ∧
      ∀ st, let nt : Notice := { aNotice with state := st };
        (slotted 95 nt).Ready .site ∧ (slotted 95 nt).Ready .traffic ∧ (slotted 95 nt).TableSound ∧
          (slotted 95 nt).notice 95 = some nt ∧ nt.number = (7#16).toNat ∧ nt.owner = .site ∧
          nt.state = st :=
  ⟨by decide, by decide, reset_sound, fun i nt h => by simp [reset_notice] at h, by decide,
    fun _ => ⟨⟨rfl, rfl, rfl⟩, ⟨rfl, rfl, rfl⟩, slotted_sound _ _, rfl, rfl, rfl, rfl⟩⟩

theorem test_hyps_ClassAndLimitsAreClamped :
    State.reset.Ready .site ∧ 3 < (4#8).toNat ∧ (3#8).toNat = (3 : Ch).val := by decide

theorem test_hyps_ReadRangeReportsTheEntry :
    State.reset.Ready .traffic ∧ State.reset.Ready .site ∧ State.reset.map.ranges.length = 32 ∧
      31 < (32#8).toNat ∧ (31#8).toNat ≤ 31 := by decide

theorem test_hyps_DerivationIsTheUnionOrTheDefault :
    (∀ e ∈ sampleMap.ranges, e.area < 16) ∧
      (∃ e ∈ sampleMap.ranges, e.enabled = true ∧ e.first ≤ 2299 ∧ 2299 ≤ e.last) ∧
      ∀ e ∈ sampleMap.ranges, ¬ (e.enabled = true ∧ e.first ≤ 2300 ∧ 2300 ≤ e.last) := by decide

theorem test_hyps_AChangedMapDerivesNoticesAgain :
    (State.reset.Ready .site ∧ State.reset.TableSound ∧ State.reset.map.ranges.length = 32) ∧
    (31 < (32#8).toNat ∧ 1 < (2#8).toNat ∧ 15 < (16#8).toNat) ∧
    ((1#16).toNat < (2#16).toNat ∧ State.reset.map.ranges[(31#8).toNat]? = some ⟨false, 0, 0, 0⟩ ∧
      State.reset.map.ranges[(31#8).toNat]? ≠ some ⟨true, 65535, 65535, 15⟩ ∧
      State.reset.map.defaultAreas = 0#16 ∧ State.reset.map.defaultAreas ≠ 1#16) :=
  ⟨⟨by decide, reset_sound, by decide⟩, by decide, by decide +kernel⟩

/-- Programmes 0 and 1 with codes, stream 1 RUNNING. -/
def twoProgrammes : State :=
  { State.reset with
    store := { Store.reset with progs :=
      ⟨{ aProgramme with code := 1 }, { aProgramme with code := 2 }, Programme.reset,
        Programme.reset⟩ }
    streams := (Four.all (Stream.reset false)).set 1 { Stream.reset true with state := .running } }

theorem test_hyps_SetProgrammeStoresAndHandsOn :
    (twoProgrammes.Ready .site ∧ twoProgrammes.table = State.reset.table) ∧
    (3 < (4#8).toNat ∧ 1 < (2#8).toNat ∧ 3 < (0xFE#8).toNat ∧ (0xFE#8 : Byte) ≠ 0xFF#8) ∧
    ((3#8).toNat = (3 : Ch).val ∧ (1#8).toNat ≤ 1 ∧ 0xFF#8 = targetByte none ∧
      2#8 = targetByte (some 2)) ∧
    (((twoProgrammes.stream 1).state ≠ .stopped) ∧ (twoProgrammes.prog 1).code = 2#16) ∧
    ((twoProgrammes.stream 3).state = .stopped ∧ (twoProgrammes.stream 3).startPending = false ∧
      (∀ q, q ≠ 0 → (twoProgrammes.prog q).code ≠ 1#16) ∧
      decide ((twoProgrammes.prog 0).coverage ≠ 0xF#16 ∨ (twoProgrammes.prog 0).carries ≠ true) =
        false ∧
      decide ((twoProgrammes.prog 0).coverage ≠ 0xE#16 ∨ (twoProgrammes.prog 0).carries ≠ true) =
        true) ∧
    ((twoProgrammes.prog 0).carries = true ∧ decide ((0#8 : Byte) = 1#8) = false ∧
      (twoProgrammes.prog 3).carries = false ∧ decide ((1#8 : Byte) = 1#8) = true) := by decide

theorem test_hyps_NamesAreWrittenClearedAndSelected :
    (State.reset.Ready .site ∧ ([65#8] : List Byte) ≠ [] ∧
      5 + ([65#8] : List Byte).length + (List.replicate 244 65#8).length ≤ 250 ∧
      5 + (List.replicate 245 65#8).length ≤ 250 ∧ 3 < (4#8).toNat ∧ (3#8).toNat = (3 : Ch).val) ∧
    (twoProgrammes.Ready .site ∧ (twoProgrammes.prog 0).variants.get 1 = none ∧
      (twoProgrammes.prog 0).variants.get 3 = some ⟨List.replicate 8 66, none⟩ ∧
      (twoProgrammes.prog 0).current = 0) := by decide +kernel

theorem test_hyps_TimedChangesAreSetAndCleared :
    (State.reset.Ready .site ∧ 7 < (8#8).toNat ∧ (7#8).toNat ≤ 7 ∧ (3#8).toNat = (3 : Ch).val) ∧
      State.reset.Ready .traffic ∧ timedState.Ready .site ∧ timedState.store.timed.length = 8 ∧
      timedState.store.timed[(7#8).toNat]? = some ⟨true, 2, 1, 0, 0⟩ ∧
      timedState.store.timed[(0#8).toNat]? = some ⟨false, 0, 0, 0, 0⟩ ∧
      (pastTarget.pornLow = false ∧ pastTarget.due = [] ∧ pastTarget.Ready .site ∧
        pastTarget.store.timed[6]? = some ⟨true, 2, 3, 50, 60⟩ ∧ pastTarget.time.tickNumber = 19 ∧
        (atTime 18 50).time.tickNumber < 19) ∧
      (0 ≤ (pastTarget.time.seconds : Int) + (BitVec.ofInt 32 (-1)).toInt ∧
        (pastTarget.time.seconds : Int) + (1000000#32).toInt ≤ 4294967295) := by decide

/-- A plan with STATUS, NAME and `k` OPEN duties. -/
def planWith (k : Nat) : List Duty :=
  .status :: .name :: (List.replicate k .openSlot ++ List.replicate (18 - k) .refer)

theorem test_hyps_SetPlanMakesAPlanPending :
    let codes (k : Nat) : List Byte := (planWith k).map fun d => BitVec.ofNat 8 d.code
    let valid (k : Nat) : Prop := Duty.status ∈ planWith k ∧ Duty.name ∈ planWith k ∧
      4 ≤ (planWith k).count .openSlot ∧ (planWith k).count .openSlot ≤ 17
    State.reset.Ready .site ∧ (codes 4).length = 20 ∧ (codes 17).length = 20 ∧
      3 < (4#8).toNat ∧ (∃ c ∈ (5#8 :: List.replicate 19 4#8), 4 < c.toNat) ∧
      valid 4 ∧ valid 17 ∧ ¬ valid 3 ∧ ¬ valid 18 := by decide +kernel

theorem test_hyps_StartAndStopStream :
    twoProgrammes.Ready .site ∧ 3 < (4#8).toNat ∧ (3#8).toNat = (3 : Ch).val ∧
      (twoProgrammes.prog 3).code = 0#16 ∧ (twoProgrammes.stream 1).state = .running ∧
      (twoProgrammes.stream 0).state = .stopped ∧ (twoProgrammes.prog 0).code ≠ 0#16 ∧
      (twoProgrammes.prog 0).variants.get (twoProgrammes.prog 0).current ≠ none := by decide

/-- SET CUE and the cues on a state of `annState`: an end of the bulletin, a rise and a fall. -/
theorem test_hyps_SetCueAndCues :
    (let s := annState true .onAir 0 0;
      s.Ready .site ∧ 3 < (4#8).toNat ∧ 2 < (3#8).toNat ∧ (1#8).toNat = (1 : Ch).val ∧
        (1#8).toNat = CueSource.link.code ∧ (s.ann 1).source = .link ∧
        (s.ann 1).bulletin = some ⟨0, 0, 0⟩ ∧ (s.ann 1).maxSecs ≠ max 10 (min 1800 11)) ∧
    (let s := annState true .onAir 0 0;
      10 * 20 ≤ s.time.tickCount - 0 ∧ s.time.tickCount - 0 < 11 * 20) ∧
    (let s := annState true .onAir 0 0;
      (s.prog 1).carries = true ∧ (s.ann 1).linkCue = true ∧ (s.ann 1).linkCue ≠ false) ∧
    (let s := annState false .hanging 0 2;
      s.Ready .site ∧ (s.prog 1).carries = true ∧ (s.ann 1).linkCue ≠ true) ∧
    (State.reset.prog 3).carries = false := by decide

theorem test_hyps_TimeIsSetAndStepped :
    (State.reset.Ready .site ∧ State.reset.TableSound) ∧
    ((BitVec.ofInt 32 (-1000001)).toInt < -1000000 ∧ 1000000 < (1000001#32).toInt ∧
      (State.reset.time.seconds : Int) + (BitVec.ofInt 32 (-1)).toInt < 0) ∧
    (-1000000 ≤ (1000000#32).toInt ∧ (1000000#32).toInt ≤ 1000000 ∧
      0 ≤ (State.reset.time.seconds : Int) + (1000000#32).toInt ∧
      (State.reset.time.seconds : Int) + (1000000#32).toInt ≤ 4294967295) ∧
    (∀ w ∈ State.reset.due, w ≠ .minute ∧ (∀ i, w ≠ .noticeTest i) ∧ w ≠ .timedFire) ∧
    (let s (k : Nat) : State := { atTime k 1 with due := [.minute, .stream 0, .silence] };
      (s 20).Ready .site ∧ (s 20).TableSound ∧ (s 20).flushSeconds.due = [.silence] ∧
        (s 21).flushSeconds.due = [.stream 0, .silence]) :=
  ⟨⟨by decide, reset_sound⟩, by decide, by decide, fun w h => (List.not_mem_nil h).elim,
    by decide, reset_sound, by decide, by decide⟩

/-- A stream's work of tick 0 left outstanding forms its cell of the boundary's own site second, not of that
of the SET TIME which comes after: a TIME cell of minute 1 (07 R148; 04 R78, R86). -/
theorem test_time_cell_before_set_time :
    let s : State := { sendState { (atTime 20 60).time with isSet := true } .status none aNotice with
      due := [.stream 0]
      mrdyPins := 1 }
    ∃ t, exec (.setTime .site 5) s = .next t ∧ t.time.seconds = 5 ∧ t.due = [] ∧
      (t.stream 0).cell = some (formCell 0xC412 .time (timePayload 60 0)) :=
  ⟨_, rfl, by decide +kernel⟩

/-- A minute left outstanding by a second boundary takes its site second, not that of the SET TIME which
comes after (07 R148, 08 R173). -/
theorem test_minute_before_set_time :
    let s : State := { atTime 20 60 with due := [.minute] }
    ∃ t, exec (.setTime .site 5) s = .next t ∧ t.time.seconds = 5 ∧
      t.monitor.span.map (fun x => x.seconds) = some 60 := ⟨_, rfl, by decide +kernel⟩

theorem test_hyps_SetMonitorStartsAfresh :
    State.reset.Ready .site ∧ 1 < (2#8).toNat ∧ 3 < (4#8).toNat ∧ (1#8).toNat ≤ 1 ∧
      (0#8).toNat = (0 : Ch).val ∧
      decide (State.reset.monitor.state ≠ .off) = decide ((0#8 : Byte) = 1#8) ∧
      State.reset.monitor.watched = 0 ∧ State.reset.monitor.tolerance = min 1 (2#8).toNat ∧
      decide (State.reset.monitor.state ≠ .off) ≠ decide ((1#8 : Byte) = 1#8) := by decide

theorem test_hyps_Encodings :
    (Request.submit { placedSubmit with text := some (List.replicate 235 65) }).fits = true ∧
      commandRequest (.submit .site placedSubmit) = some (.site, .submit placedSubmit) ∧
      (State.reset.port .site).asm = .hunt ∧ State.reset.pornLow = false ∧
      (0xC412#16 : BitVec 16) ≠ 0#16 ∧ (cellBits .advice 5)[7]? = some false ∧
      (cellBits .advice 5)[0]? = some true ∧ msbBits (0#16) ≠ (cellBits .advice 5).drop 72 ∧
      (0xC413#16 : BitVec 16) ≠ 0xC412#16 := by
  decide +kernel

/-- The hypotheses of the statements about every step: a state that meets every invariant, and a step of
it. -/
theorem test_hyps_EveryStepKeeps :
    let s : State := { State.reset with pending := [.markEdge] }
    s.TableSound ∧ s.Carrying ∧ s.AnnounceSound ∧ s.ClockSound ∧ s.PlansValid ∧ s.Identified ∧
      s.PortsSound ∧ s.AttentionSound ∧ s.LimitsSound ∧ s.MapSound ∧ s.TimedSound ∧ s.RunsSound ∧
      ∃ t, step s = .next t := by
  refine ⟨reset_sound, fun i _ => ?_, by decide, by decide, by decide, by decide, by decide,
    by decide, by decide, by decide, by decide, by decide, _, rfl⟩
  have h : State.notice { State.reset with pending := [.markEdge] } i = none := reset_notice i
  simp [State.recordsFit, State.carriesRightly, h]

end Sys2Proof.Tests
end

section
/-! SUPPORT. PURGE (01 R25): the search of the notice table by number, the dispatcher's refusal of a
request that the traffic link may not use, and the proof of PurgeFreesAtOnce. -/

namespace Sys2Proof.Machine

/-! ### The slot in which a number stands (01 R1) -/

theorem State.notice_eq_some_iff (s : State) (i : Nat) (nt : Notice) :
    s.notice i = some nt ↔ ∃ h : i < s.table.slots.length, s.table.slots[i] = some nt := by
  simp [State.notice, List.getD_eq_getElem?_getD, ← List.getElem?_eq_some_iff,
    Option.getD_eq_iff]

theorem State.lt_slots_of_notice {s : State} (ht : s.TableSound) {i : Nat} {nt : Notice}
    (h : s.notice i = some nt) : i < Config.slots := by
  obtain ⟨hi, -⟩ := (s.notice_eq_some_iff i nt).1 h
  exact ht.1 ▸ hi

theorem holdsNumber_iff (number : Nat) (x : Option Notice) :
    holdsNumber number x = true ↔ ∃ nt, x = some nt ∧ nt.number = number := by
  cases x <;> simp [holdsNumber]

theorem State.findSlot_eq_none_iff (s : State) (number : Nat) :
    s.findSlot number = none ↔ ∀ i nt, s.notice i = some nt → nt.number ≠ number := by
  simp only [State.findSlot, List.findIdx?_eq_none_iff, ← Bool.not_eq_true, holdsNumber_iff,
    State.notice_eq_some_iff, List.forall_mem_iff_getElem]
  constructor
  · rintro h i nt ⟨hi, e⟩ hn
    exact h i hi ⟨nt, e, hn⟩
  · rintro h i hi ⟨nt, e, hn⟩
    exact h i nt ⟨hi, e⟩ hn

theorem State.notice_of_findSlot {s : State} {number i : Nat} (h : s.findSlot number = some i) :
    ∃ nt, s.notice i = some nt ∧ nt.number = number := by
  obtain ⟨hi, hx, -⟩ := List.findIdx?_eq_some_iff_getElem.1 h
  obtain ⟨nt, e, hn⟩ := (holdsNumber_iff _ _).1 hx
  exact ⟨nt, (s.notice_eq_some_iff i nt).2 ⟨hi, e⟩, hn⟩

/-- No two slots hold one number, so the search finds the slot in which it stands. -/
theorem State.findSlot_eq_some_iff {s : State} (ht : s.TableSound) (number i : Nat) :
    s.findSlot number = some i ↔ ∃ nt, s.notice i = some nt ∧ nt.number = number := by
  refine ⟨State.notice_of_findSlot, fun ⟨nt, h, hn⟩ => ?_⟩
  cases hf : s.findSlot number with
  | none => exact absurd hn ((s.findSlot_eq_none_iff number).1 hf i nt h)
  | some j =>
    obtain ⟨nt', h', hn'⟩ := State.notice_of_findSlot hf
    have same : s.numberAt j = s.numberAt i := by simp [State.numberAt, h, h', hn, hn']
    rw [ht.2 j (State.lt_slots_of_notice ht h') i (State.lt_slots_of_notice ht h)
      (by simp [h']) same]

/-! ### The dispatcher's answers (09 R185) -/

@[simp] theorem answered_refuse (p : Port) (code : Byte) (st : Status) (s : State) :
    answered p code (refuse st s) = s.send p (refusal code st) := rfl

@[simp] theorem answered_ok (p : Port) (code : Byte) (s : State) (results : List Byte) :
    answered p code (s, some (Reply.ok results)) = s.send p (okay code results) := rfl

theorem beBytes_one (n : Nat) : beBytes 1 n = [BitVec.ofNat 8 n] := by simp [beBytes]

/-- A request that only the site link may use, received on the traffic link (09 R185, R186). -/
theorem onRequest_notPermitted (r : Request) (s : State) (hr : s.Ready .traffic)
    (hc : trafficCodes.contains (requestCode r) = false) :
    onRequest .traffic r s = .next (s.send .traffic (refusal (requestCode r) .notPermitted)) := by
  obtain ⟨hp, hq, hh⟩ := hr
  have ha : s.admission .traffic (requestCode r) = some .notPermitted := by
    simp only [State.admission, hh, requestCode_known, hc]
    rfl
  simp [onRequest, running, hp, State.request, hq, State.dispatch, ha]

/-! ### PURGE -/

theorem exec_purge (p : Port) (number : BitVec 16) (s : State) :
    exec (.purge p number) s = onRequest p (.purge number) s := rfl

theorem exec_purge_site (number : BitVec 16) (s : State) (hr : s.Ready .site) :
    exec (.purge .site number) s = .next (answered .site 0x13#8 (handlePurge number s)) := by
  obtain ⟨hp, hq, hh⟩ := hr
  exact onRequest_idle .site (.purge number) s hp hq hh nofun (requestCode_known _) rfl

theorem handlePurge_zero (s : State) : handlePurge 0#16 s = refuse .outOfRange s := rfl

theorem handlePurge_notFound (number : BitVec 16) (s : State) (h0 : number ≠ 0#16)
    (h : ∀ i nt, s.notice i = some nt → nt.number ≠ number.toNat) :
    handlePurge number s = refuse .notFound s := by
  simp [handlePurge, h0, (s.findSlot_eq_none_iff _).2 h]

theorem handlePurge_found (number : BitVec 16) (s : State) (ht : s.TableSound) (i : Nat)
    (nt : Notice) (h0 : number ≠ 0#16) (h : s.notice i = some nt)
    (hn : nt.number = number.toNat) :
    handlePurge number s = (s.replaced i none, some (Reply.ok (beBytes 1 nt.state.code))) := by
  simp [handlePurge, h0, (State.findSlot_eq_some_iff ht _ i).2 ⟨nt, h, hn⟩, h, slotCode,
    State.freeAtOnce_eq s i nt h]

/-- Settles O37: the dispatcher refuses PURGE on the traffic link; on the site link the search of the
table by number decides, and in a sound table it finds the one slot that holds the number. -/
theorem purgeFreesAtOnce : Obligations.PurgeFreesAtOnce := by
  intro p number s hr ht
  refine ⟨?traffic, ?zero, ?notFound, ?found⟩
  case traffic =>
    rintro rfl
    rw [exec_purge, onRequest_notPermitted _ s hr rfl]
    rfl
  case zero =>
    rintro rfl rfl
    rw [exec_purge_site _ s hr, handlePurge_zero, answered_refuse]
  case notFound =>
    rintro rfl h0 h
    rw [exec_purge_site _ s hr, handlePurge_notFound number s h0 h, answered_refuse]
  case found =>
    rintro i nt rfl h0 h hn
    rw [exec_purge_site _ s hr, handlePurge_found number s ht i nt h0 h hn, answered_ok, beBytes_one]
    cases nt.state <;> rfl

end Sys2Proof.Machine
end

section
/-! SUPPORT. The derived area set (02 R39): which bits the union of the matching entries has, when it is
empty, and the proof of DerivationIsTheUnionOrTheDefault. -/

namespace Sys2Proof.Machine

/-! ### The entries that contain a code -/

theorem RangeEntry.contains_iff (e : RangeEntry) (code : Nat) :
    e.contains code = true ↔ e.enabled = true ∧ e.first ≤ code ∧ code ≤ e.last := by
  simp [RangeEntry.contains, and_assoc]

/-! ### The union of their areas -/

theorem getLsbD_areaBit {a : Nat} (ha : a < 16) (b : Nat) :
    (areaBit b).getLsbD a = true ↔ b = a := by
  simp only [areaBit, BitVec.getLsbD_shiftLeft, BitVec.getLsbD_one, Bool.and_eq_true,
    Bool.not_eq_true', decide_eq_true_eq, decide_eq_false_iff_not]
  omega

/-- The fold of `LocationMap.derive`, from any set. -/
def addAreas (code : Nat) (set : AreaSet) (ranges : List RangeEntry) : AreaSet :=
  ranges.foldl (fun set e => if e.contains code then set ||| areaBit e.area else set) set

theorem LocationMap.derive_eq (m : LocationMap) (code : Nat) :
    m.derive code =
      if addAreas code 0#16 m.ranges = 0#16 then m.defaultAreas
      else addAreas code 0#16 m.ranges := rfl

theorem addAreas_cons (code : Nat) (set : AreaSet) (e : RangeEntry) (es : List RangeEntry) :
    addAreas code set (e :: es) =
      addAreas code (if e.contains code then set ||| areaBit e.area else set) es := rfl

/-- An area is in the fold's result iff it was in the set at the start or a containing entry has it. -/
theorem getLsbD_addAreas {a : Nat} (ha : a < 16) (code : Nat) (ranges : List RangeEntry)
    (set : AreaSet) :
    (addAreas code set ranges).getLsbD a = true ↔
      set.getLsbD a = true ∨ ∃ e ∈ ranges, e.contains code = true ∧ e.area = a := by
  induction ranges generalizing set with
  | nil => simp [addAreas]
  | cons e es ih =>
    rw [addAreas_cons, ih]
    by_cases he : e.contains code = true
    · simp [he, getLsbD_areaBit ha, or_assoc]
    · simp [he]

theorem getLsbD_addAreas_zero {a : Nat} (ha : a < 16) (code : Nat) (ranges : List RangeEntry) :
    (addAreas code 0#16 ranges).getLsbD a = true ↔
      ∃ e ∈ ranges, e.contains code = true ∧ e.area = a := by
  simp [getLsbD_addAreas ha]

/-- The union is empty exactly when no entry contains the code: an entry that does adds its area. -/
theorem addAreas_zero_eq_zero_iff (code : Nat) (ranges : List RangeEntry)
    (hareas : ∀ e ∈ ranges, e.area < 16) :
    addAreas code 0#16 ranges = 0#16 ↔ ∀ e ∈ ranges, ¬ e.contains code = true := by
  constructor
  · intro hzero e he hc
    have hbit := (getLsbD_addAreas_zero (hareas e he) code ranges).2 ⟨e, he, hc, rfl⟩
    simp [hzero] at hbit
  · intro hnone
    refine BitVec.eq_of_getLsbD_eq fun a ha => ?_
    have hbit : ¬ (addAreas code 0#16 ranges).getLsbD a = true := by
      rw [getLsbD_addAreas_zero ha]
      rintro ⟨e, he, hc, -⟩
      exact hnone e he hc
    simpa using hbit

/-- Settles O40: the fold adds the area of each containing entry and no other, so its result is empty,
and the default taken, exactly when no entry contains the code. -/
theorem derivationIsTheUnionOrTheDefault : Obligations.DerivationIsTheUnionOrTheDefault := by
  intro m code hareas within
  have hempty := addAreas_zero_eq_zero_iff code m.ranges hareas
  simp only [within, ← RangeEntry.contains_iff]
  refine ⟨?union, ?default⟩
  case union =>
    rintro ⟨e, he, hc⟩ a ha
    rw [m.derive_eq, if_neg fun hzero => hempty.1 hzero e he hc, getLsbD_addAreas_zero ha]
  case default =>
    intro hnone
    rw [m.derive_eq, if_pos (hempty.2 hnone)]

end Sys2Proof.Machine
end

section
/-! SUPPORT. READ RANGE (02 R37): what an idle site link answers to a request, the entry read, and the
proof of ReadRangeReportsTheEntry. -/

namespace Sys2Proof.Machine

/-- A request of fitting parameters on an idle site link goes to its owning block (09 R182, R185). -/
theorem onRequest_site (r : Request) (s : State) (hr : s.Ready .site) (hf : r.fits = true) :
    onRequest .site r s = .next (answered .site (requestCode r) (handle .site r s)) := by
  obtain ⟨hp, hq, hh⟩ := hr
  exact onRequest_idle .site r s hp hq hh nofun (requestCode_known r) hf

theorem exec_readRange (p : Port) (entry : Byte) (s : State) :
    exec (.readRange p entry) s = onRequest p (.readRange entry) s := rfl

theorem exec_readRange_site (entry : Byte) (s : State) (hr : s.Ready .site) :
    exec (.readRange .site entry) s = .next (answered .site 0x21#8 (handleReadRange entry s)) :=
  onRequest_site (.readRange entry) s hr rfl

theorem handleReadRange_none (entry : Byte) (s : State)
    (h : s.map.ranges[entry.toNat]? = none) : handleReadRange entry s = refuse .outOfRange s := by
  simp [handleReadRange, h]

theorem handleReadRange_some (entry : Byte) (s : State) (e : RangeEntry)
    (h : s.map.ranges[entry.toNat]? = some e) :
    handleReadRange entry s = (s, some (Reply.ok (e.bytes ++ split2 s.map.defaultAreas))) := by
  simp [handleReadRange, h]

/-- Settles O39: the dispatcher refuses READ RANGE on the traffic link; on the site link the map's 32
entries decide whether there is one to report. -/
theorem readRangeReportsTheEntry : Obligations.ReadRangeReportsTheEntry := by
  intro p entry s hr hlen
  refine ⟨?traffic, ?outOfRange, ?entry⟩
  case traffic =>
    rintro rfl
    rw [exec_readRange, onRequest_notPermitted _ s hr rfl]
    rfl
  case outOfRange =>
    rintro rfl habove
    have hnone : s.map.ranges[entry.toNat]? = none := List.getElem?_eq_none (by omega)
    rw [exec_readRange_site entry s hr, handleReadRange_none entry s hnone, answered_refuse]
  case entry =>
    rintro rfl hle
    have hlt : entry.toNat < s.map.ranges.length := by omega
    have hsome := List.getElem?_eq_getElem hlt
    refine ⟨_, hsome, ?_⟩
    rw [exec_readRange_site entry s hr, handleReadRange_some entry s _ hsome, answered_ok,
      RangeEntry.bytes]

end Sys2Proof.Machine
end

section
/-! SUPPORT. ABANDON and PING (09 R190, R191): the dispatcher's tests for ABANDON, which a held port also
takes, two responses put in one transmit queue, and the proofs of AbandonEndsTheHold and
PingReportsThePart. -/

namespace Sys2Proof.Machine

/-! ### Two writes of one port, and a transmit queue (09 R184) -/

@[simp] theorem State.setPort_setPort (s : State) (p : Port) (x y : PortState) :
    (s.setPort p x).setPort p y = s.setPort p y := by
  cases p <;> rfl

/-- A response that finds another in the queue goes out at the rate already set. -/
theorem State.send_setPort_of_ne_nil (s : State) (p : Port) (x : PortState) (r : Response)
    (hx : x.queue ≠ []) :
    (s.setPort p x).send p r = s.setPort p { x with queue := x.queue ++ [r] } := by
  simp [State.send, hx]

/-! ### ABANDON -/

/-- ABANDON is not refused as BUSY, and both ports may use it (09 R185, R186). -/
theorem State.admission_abandon (s : State) (p : Port) : s.admission p abandonCode = none := by
  have hknown : requestCodes.contains abandonCode = true := requestCode_known .abandon
  have htraffic : trafficCodes.contains abandonCode = true := rfl
  simp only [State.admission, hknown, htraffic]
  simp

/-- ABANDON reaches its owning block on a HELD port as on an IDLE one. -/
theorem exec_abandon (p : Port) (s : State) (hp : s.pornLow = false)
    (hq : (s.port p).queue = []) :
    exec (.abandon p) s = .next (answered p abandonCode (handleAbandon p s)) := by
  change running s (s.request p .abandon) = _
  have hrequest : s.request p .abandon = s.dispatch p abandonCode (some .abandon) := if_pos hq
  simp [running_eq_next, hp, hrequest, State.dispatch, s.admission_abandon, handle]

theorem handleAbandon_idle (p : Port) (s : State) (h : (s.port p).held = none) :
    handleAbandon p s = refuse .notHeld s := by
  simp [handleAbandon, h]

theorem handleAbandon_held (p : Port) (s : State) (h : Held) (hh : (s.port p).held = some h) :
    handleAbandon p s =
      (s.setPort p ((s.port p).heldAnswered .abandoned), some (Reply.ok [])) := by
  simp [handleAbandon, hh, State.finishHeld_eq]

/-- The held submit answered on a port whose transmit queue is empty: its response begins to be sent,
at the port's rate. -/
theorem PortState.heldAnswered_of_queue_nil (x : PortState) (st : Status) (h : Held)
    (hh : x.held = some h) (hq : x.queue = []) :
    x.heldAnswered st = { x with
      held := none
      txBaud := x.baud
      queue := [⟨0x10#8, st, h.flags, h.results ++ [fourByte h.satisfied], none⟩] } := by
  simp [PortState.heldAnswered, hh, hq]

/-- Settles O28: on an IDLE port the block refuses; on a HELD one the submit's response is first in the
empty queue, so ABANDON's own stands second and leaves the rate that the first has set. -/
theorem abandonEndsTheHold : Obligations.AbandonEndsTheHold := by
  intro p s hp hq
  rw [exec_abandon p s hp hq]
  refine ⟨fun hidle => ?idle, fun h hheld => ?held⟩
  case idle => rw [handleAbandon_idle p s hidle, answered_refuse, abandonCode]
  case held =>
    rw [handleAbandon_held p s h hheld, answered_ok,
      PortState.heldAnswered_of_queue_nil _ _ h hheld hq,
      State.send_setPort_of_ne_nil _ _ _ _ (List.cons_ne_nil _ _), abandonCode,
      List.singleton_append]

/-! ### PING -/

@[simp] theorem length_beBytes (k n : Nat) : (beBytes k n).length = k := by
  induction k with
  | zero => rfl
  | succ k ih => simp [beBytes, ih]

theorem Response.length_body (r : Response) : r.body.length = r.results.length + 3 := rfl

theorem beBytes_portNum (p : Port) :
    beBytes 1 (portNum p) = [if p = .site then 0#8 else 1#8] := by
  cases p <;> rfl

theorem exec_ping (p : Port) (s : State) (hr : s.Ready p) :
    exec (.ping p) s = .next (answered p 0x01#8 (handlePing p s)) := by
  obtain ⟨hp, hq, hh⟩ := hr
  exact onRequest_idle p .ping s hp hq hh (fun _ => rfl) (requestCode_known .ping) rfl

theorem handlePing_eq (p : Port) (s : State) :
    handlePing p s = (s, some (Reply.ok
      (beBytes 2 640 ++ [1#8, if p = .site then 0#8 else 1#8] ++ beBytes 1 s.ports.site.baud ++
        beBytes 1 s.ports.traffic.baud ++ beBytes 2 s.ports.site.errors ++
        beBytes 2 s.ports.traffic.errors))) := by
  have hrevision : beBytes 1 Config.revision = [1#8] := rfl
  simp [handlePing, beBytes_portNum, hrevision, Config.identity]

/-- Settles O25: either port may use PING, its block answers with the state as it stands, and the frame's
check is the CRC over the two bytes 01 01. -/
theorem pingReportsThePart : Obligations.PingReportsThePart := by
  refine ⟨fun p s hr => ?response, rfl, ?check, fun a b c d => ?length⟩
  case response => rw [exec_ping p s hr, handlePing_eq, answered_ok]
  case check => decide +kernel
  case length => simp [Response.length_body, okay]

end Sys2Proof.Machine
end

section
/-! SUPPORT. SET ATTENTION MASK (10 R202): the mask written, its writing exchanged with the raising of an
event, the line ATTN, and the proof of SetAttentionMaskReplacesTheMask. -/

namespace Sys2Proof.Machine

/-! ### The mask written -/

/-- The attention unit's mask written, and nothing else. -/
def State.setMask (s : State) (m : BitVec 11) : State :=
  { s with attention := { s.attention with mask := m } }

@[simp] theorem State.setMask_pornLow (s : State) (m : BitVec 11) :
    (s.setMask m).pornLow = s.pornLow := rfl

@[simp] theorem State.setMask_mask (s : State) (m : BitVec 11) :
    (s.setMask m).attention.mask = m := rfl

@[simp] theorem State.setMask_pendingKinds (s : State) (m : BitVec 11) :
    (s.setMask m).attention.pendingKinds = s.attention.pendingKinds := rfl

/-! ### An event raised (10 R199) -/

@[simp] theorem Attention.mergeDetail_mask (a : Attention) (e : AttnEvent) :
    (a.mergeDetail e).mask = a.mask := by
  cases e <;> rfl

@[simp] theorem State.raise_mask (s : State) (e : AttnEvent) :
    (s.raise e).attention.mask = s.attention.mask := s.attention.mergeDetail_mask e

@[simp] theorem State.raise_pendingKinds (s : State) (e : AttnEvent) :
    (s.raise e).attention.pendingKinds = s.attention.pendingKinds ||| kindBit e.kind := rfl

/-- No detail depends on the mask, so the event and the mask may come in either order. -/
theorem State.raise_setMask (s : State) (e : AttnEvent) (m : BitVec 11) :
    (s.raise e).setMask m = (s.setMask m).raise e := by
  cases e <;> rfl

/-- What an event makes of the attention unit does not depend on a response sent before it. -/
@[simp] theorem State.raise_send_attention (s : State) (p : Port) (r : Response) (e : AttnEvent) :
    ((s.send p r).raise e).attention = (s.raise e).attention := rfl

/-! ### The line (10 R200) -/

theorem State.attnLow_iff (s : State) (hp : s.pornLow = false) :
    s.attnLow = true ↔ s.attention.pendingKinds &&& s.attention.mask ≠ 0#11 := by
  simp [State.attnLow, hp]

/-! ### SET ATTENTION MASK -/

@[simp] theorem answered_unchanged (p : Port) (code : Byte) (s : State) (results : List Byte) :
    answered p code (s, some (Reply.unchanged results)) = s.send p (sameAlready code results) := rfl

theorem exec_setAttentionMask (p : Port) (mask : BitVec 16) (s : State) :
    exec (.setAttentionMask p mask) s = onRequest p (.setAttentionMask mask) s := rfl

theorem exec_setAttentionMask_site (mask : BitVec 16) (s : State) (hr : s.Ready .site) :
    exec (.setAttentionMask .site mask) s =
      .next (answered .site 0x03#8 (handleSetAttentionMask mask s)) :=
  onRequest_site (.setAttentionMask mask) s hr rfl

theorem handleSetAttentionMask_same (mask : BitVec 16) (s : State)
    (h : s.attention.mask = mask.setWidth 11) :
    handleSetAttentionMask mask s = (s, some (Reply.unchanged s.attention.maskBytes)) := if_pos h

theorem handleSetAttentionMask_new (mask : BitVec 16) (s : State)
    (h : s.attention.mask ≠ mask.setWidth 11) :
    handleSetAttentionMask mask s =
      (s.setMask (mask.setWidth 11),
        some (Reply.ok (s.setMask (mask.setWidth 11)).attention.maskBytes)) := if_neg h

theorem Attention.maskBytes_eq (a : Attention) :
    a.maskBytes = split2 (a.mask.setWidth 16) ++ split2 (a.pendingKinds.setWidth 16) := rfl

/-- SET ATTENTION MASK with a mask other than the one in force, on an idle site link. -/
theorem exec_setAttentionMask_new (mask : BitVec 16) (s : State) (hr : s.Ready .site)
    (h : s.attention.mask ≠ mask.setWidth 11) :
    exec (.setAttentionMask .site mask) s =
      .next ((s.setMask (mask.setWidth 11)).send .site
        (okay 0x03#8 (s.setMask (mask.setWidth 11)).attention.maskBytes)) := by
  rw [exec_setAttentionMask_site mask s hr, handleSetAttentionMask_new mask s h, answered_ok]

/-- Settles O30: the dispatcher refuses the request on the traffic link; on the site link the mask in
force decides. An event raised first leaves the link ready and the mask in force, so the request is
taken as without it, and raising an event and writing the mask may be exchanged. -/
theorem setAttentionMaskReplacesTheMask : Obligations.SetAttentionMaskReplacesTheMask := by
  intro p mask s hr
  refine ⟨?traffic, ?same, ?new⟩
  case traffic =>
    rintro rfl
    rw [exec_setAttentionMask, onRequest_notPermitted _ s hr rfl]
    rfl
  case same =>
    rintro rfl h
    rw [exec_setAttentionMask_site mask s hr, handleSetAttentionMask_same mask s h,
      answered_unchanged, Attention.maskBytes_eq, h]
  case new =>
    rintro rfl h
    have hp : s.pornLow = false := hr.1
    refine ⟨_, exec_setAttentionMask_new mask s hr h, rfl, ?line, fun e => ?event⟩
    case line => simp [State.attnLow_iff, hp]
    case event =>
      have hmask : (s.raise e).attention.mask ≠ mask.setWidth 11 := by simpa using h
      refine ⟨_, exec_setAttentionMask_new mask (s.raise e) hr hmask, ?unit, ?lineAfter⟩
      case unit => rw [State.send_attention, State.raise_send_attention, State.raise_setMask]
      case lineAfter => simp [State.attnLow_iff, hp]

end Sys2Proof.Machine
end

section
/-! SUPPORT. The parts of State, and which of them each shared operation can
change: one lemma for each operation, in the order of the model's files. An invariant that reads none
of an operation's parts is kept by it; no invariant reads the last three. -/

namespace Sys2Proof.Machine

/-! ### Parts -/

/-- State cut so that most operations change few parts. All of it but the streams' outputs, segment
counters, stored levels and overcommit flags. -/
inductive Part
  | slots
  | limits
  | map
  | cover
  | names
  | timed
  | plans
  | runs
  | states
  | announce
  | time
  | ports
  | attention
  | target
  | monitor
  | env
deriving DecidableEq

/-- The data of a part. -/
abbrev Part.Value : Part → Type
  | .slots => List (Option Notice)
  | .limits => Four ClassParams × Nat × Nat × Nat
  | .map => LocationMap
  | .cover => Ch → AreaSet × Bool
  | .names => Ch → BitVec 16 × Four (Option Names) × Ch
  | .timed => List TimedEntry
  | .plans => Ch → List Duty × Option (List Duty)
  | .runs => Ch → Option Run
  | .states => Ch → StreamState × Bool
  | .announce => Four Announce
  | .time => SiteTime
  | .ports => Ports PortState
  | .attention => Attention
  | .target => Ch → Option Ch
  | .monitor => Monitor
  | .env => List Instr × List Work × Bool × BitVec 4 × BitVec 4

/-- A part of State. -/
def State.part (s : State) : (k : Part) → k.Value
  | .slots => s.table.slots
  | .limits => (s.table.classes, s.table.withdrawCells, s.table.lifetime, s.table.confirmSecs)
  | .map => s.map
  | .cover => fun p => ((s.prog p).coverage, (s.prog p).carries)
  | .names => fun p => ((s.prog p).code, (s.prog p).variants, (s.prog p).current)
  | .timed => s.store.timed
  | .plans => fun n => ((s.stream n).plan, (s.stream n).pendingPlan)
  | .runs => fun n => (s.stream n).run
  | .states => fun n => ((s.stream n).state, (s.stream n).startPending)
  | .announce => s.announce
  | .time => s.time
  | .ports => s.ports
  | .attention => s.attention
  | .target => fun p => (s.prog p).target
  | .monitor => s.monitor
  | .env => (s.pending, s.due, s.pornLow, s.cuePins, s.mrdyPins)

/-- The parts that no invariant reads. -/
abbrev Part.unread : List Part := [.target, .monitor, .env]

/-- `t` is `s` in every part but those of `ks`. -/
def State.OnlyIn (s t : State) (ks : List Part) : Prop := ∀ k, k ∉ ks → t.part k = s.part k

variable {s t u : State} {ks ls ms : List Part}

theorem State.OnlyIn.refl (s : State) (ks : List Part) : s.OnlyIn s ks := fun _ _ => rfl

theorem State.OnlyIn.mono (h : s.OnlyIn t ks) (hk : ks ⊆ ls) : s.OnlyIn t ls :=
  fun k hn => h k fun hm => hn (hk hm)

theorem State.OnlyIn.trans (h : s.OnlyIn t ks) (h' : t.OnlyIn u ls) (hk : ks ⊆ ms) (hl : ls ⊆ ms) : s.OnlyIn u ms :=
  fun k hn => (h' k fun hm => hn (hl hm)).trans (h k fun hm => hn (hk hm))

/-! ### Folds over slots, channels and ports -/

/-- A property that every slot's work keeps is kept by the work of all. -/
theorem forSlots_keeps {P : State → Prop} {f : Nat → State → State}
    (h : ∀ i, i < Config.slots → ∀ s, P s → P (f i s)) (s : State) (hs : P s) : P (forSlots f s) := by
  have key : ∀ (l : List Nat), (∀ i ∈ l, i < Config.slots) → ∀ s, P s →
      P (l.foldl (fun t i => f i t) s) := by
    intro l
    induction l with
    | nil => exact fun _ _ hs => hs
    | cons i l ih =>
      intro hl s hs
      exact ih (fun j hj => hl j (List.mem_cons_of_mem _ hj)) _
        (h i (hl i List.mem_cons_self) s hs)
  exact key slotNumbers (fun i hi => List.mem_range.1 hi) s hs

theorem forChannels_keeps {P : State → Prop} {f : Ch → State → State}
    (h : ∀ n s, P s → P (f n s)) (s : State) (hs : P s) : P (forChannels f s) :=
  h 3 _ (h 2 _ (h 1 _ (h 0 _ hs)))

theorem forPorts_keeps {P : State → Prop} {f : Port → State → State}
    (h : ∀ p s, P s → P (f p s)) (s : State) (hs : P s) : P (forPorts f s) :=
  h .traffic _ (h .site _ hs)

theorem forSlots_onlyIn {f : Nat → State → State} (h : ∀ i (s : State), s.OnlyIn (f i s) ks) (s : State) :
    s.OnlyIn (forSlots f s) ks :=
  forSlots_keeps (P := fun t => s.OnlyIn t ks)
    (fun i _ t ht => ht.trans (h i t) (List.Subset.refl _) (List.Subset.refl _)) s (.refl s ks)

theorem forChannels_onlyIn {f : Ch → State → State} (h : ∀ n (s : State), s.OnlyIn (f n s) ks) (s : State) :
    s.OnlyIn (forChannels f s) ks :=
  forChannels_keeps (P := fun t => s.OnlyIn t ks)
    (fun n t ht => ht.trans (h n t) (List.Subset.refl _) (List.Subset.refl _)) s (.refl s ks)

/-! ### Writes of one part -/

theorem State.stream_setStream (s : State) (n m : Ch) (x : Stream) :
    (s.setStream n x).stream m = if m = n then x else s.stream m := by
  split
  · next e => rw [e, State.stream_setStream_self]
  · next e => exact s.stream_setStream_ne n m x e

theorem State.prog_setProg (s : State) (p q : Ch) (x : Programme) :
    (s.setProg p x).prog q = if q = p then x else s.prog q := by
  split
  · next e => rw [e, State.prog_setProg_self]
  · next e => exact s.prog_setProg_ne p q x e

/-- A stream written: what of its parts is not among `ks` must be as it was. -/
theorem onlyIn_setStream {n : Ch} {x : Stream}
    (hp : .plans ∈ ks ∨ (x.plan = (s.stream n).plan ∧ x.pendingPlan = (s.stream n).pendingPlan))
    (hr : .runs ∈ ks ∨ x.run = (s.stream n).run)
    (hs : .states ∈ ks ∨
      (x.state = (s.stream n).state ∧ x.startPending = (s.stream n).startPending)) :
    s.OnlyIn (s.setStream n x) ks := by
  intro k hk
  cases k with
  | plans =>
    obtain ⟨h, h'⟩ := hp.resolve_left hk
    funext m
    simp only [State.part, State.stream_setStream]
    split <;> simp [*]
  | runs =>
    have h := hr.resolve_left hk
    funext m
    simp only [State.part, State.stream_setStream]
    split <;> simp [*]
  | states =>
    obtain ⟨h, h'⟩ := hs.resolve_left hk
    funext m
    simp only [State.part, State.stream_setStream]
    split <;> simp [*]
  | _ => rfl

/-- A programme written: what of its parts is not among `ks` must be as it was. -/
theorem onlyIn_setProg {p : Ch} {x : Programme}
    (hc : .cover ∈ ks ∨ (x.coverage = (s.prog p).coverage ∧ x.carries = (s.prog p).carries))
    (hn : .names ∈ ks ∨ (x.code = (s.prog p).code ∧ x.variants = (s.prog p).variants ∧
      x.current = (s.prog p).current))
    (ht : .target ∈ ks ∨ x.target = (s.prog p).target) :
    s.OnlyIn (s.setProg p x) ks := by
  intro k hk
  cases k with
  | cover =>
    obtain ⟨h, h'⟩ := hc.resolve_left hk
    funext q
    simp only [State.part, State.prog_setProg]
    split <;> simp [*]
  | names =>
    obtain ⟨h, h', h''⟩ := hn.resolve_left hk
    funext q
    simp only [State.part, State.prog_setProg]
    split <;> simp [*]
  | target =>
    have h := ht.resolve_left hk
    funext q
    simp only [State.part, State.prog_setProg]
    split <;> simp [*]
  | _ => rfl

theorem onlyIn_setSlot (s : State) (i : Nat) (x : Option Notice) :
    s.OnlyIn (s.setSlot i x) [.slots] := by
  intro k hk
  cases k with
  | slots => exact absurd (by simp) hk
  | _ => rfl

theorem onlyIn_setAnn (s : State) (p : Ch) (a : Announce) :
    s.OnlyIn (s.setAnn p a) [.announce] := by
  intro k hk
  cases k with
  | announce => exact absurd (by simp) hk
  | _ => rfl

theorem onlyIn_setPort (s : State) (p : Port) (x : PortState) :
    s.OnlyIn (s.setPort p x) [.ports] := by
  intro k hk
  cases k with
  | ports => exact absurd (by simp) hk
  | _ => rfl

theorem onlyIn_send (s : State) (p : Port) (r : Response) : s.OnlyIn (s.send p r) [.ports] :=
  onlyIn_setPort s p _

theorem onlyIn_setTime (s : State) (x : SiteTime) : s.OnlyIn (s.setTime x) [.time] := by
  intro k hk
  cases k with
  | time => exact absurd (by simp) hk
  | _ => rfl

theorem onlyIn_setMonitor (s : State) (x : Monitor) : s.OnlyIn (s.setMonitor x) [.monitor] := by
  intro k hk
  cases k with
  | monitor => exact absurd (by simp) hk
  | _ => rfl

theorem onlyIn_raise (s : State) (e : AttnEvent) : s.OnlyIn (s.raise e) [.attention] := by
  intro k hk
  cases k with
  | attention => exact absurd (by simp) hk
  | _ => rfl

theorem onlyIn_pending (s : State) (x : List Instr) : s.OnlyIn { s with pending := x } [.env] := by
  intro k hk
  cases k with
  | env => exact absurd (by simp) hk
  | _ => rfl

theorem onlyIn_due (s : State) (x : List Work) : s.OnlyIn { s with due := x } [.env] := by
  intro k hk
  cases k with
  | env => exact absurd (by simp) hk
  | _ => rfl

theorem onlyIn_withLines (s : State) (l : Lines) : s.OnlyIn (s.withLines l) [.env] := by
  intro k hk
  cases k with
  | env => exact absurd (by simp) hk
  | _ => rfl

/-! ### Held submits, runs and records -/

theorem OnlyPorts.onlyIn {f : State → State} (h : OnlyPorts f) (s : State) :
    s.OnlyIn (f s) [.ports] := by
  obtain ⟨x, hx⟩ := h s
  intro k hk
  rw [hx]
  cases k with
  | ports => exact absurd (by simp) hk
  | _ => rfl

theorem onlyIn_cutRun (s : State) (n : Ch) (i : Nat) : s.OnlyIn (s.cutRun n i) [.runs] := by
  unfold State.cutRun
  split
  · split
    · exact onlyIn_setStream (.inr ⟨rfl, rfl⟩) (.inl (by decide)) (.inr ⟨rfl, rfl⟩)
    · exact .refl _ _
  · exact .refl _ _

theorem onlyIn_cutRuns (s : State) (i : Nat) : s.OnlyIn (s.cutRuns i) [.runs] :=
  forChannels_onlyIn (fun n t => onlyIn_cutRun t n i) s

/-- A slot's holds ended, its runs cut and its content replaced. -/
theorem onlyIn_superseded (s : State) (i : Nat) (x : Option Notice) :
    s.OnlyIn (((s.supersede i).cutRuns i).setSlot i x) [.slots, .runs, .ports] :=
  (((onlyPorts_supersede i).onlyIn s).trans (onlyIn_cutRuns _ i) (ms := [.runs, .ports]) (by decide) (by decide)).trans
    (onlyIn_setSlot _ i x) (by decide) (by decide)

theorem onlyIn_freeAtOnce (s : State) (i : Nat) :
    s.OnlyIn (s.freeAtOnce i) [.slots, .runs, .ports] := by
  unfold State.freeAtOnce
  split
  · exact .refl _ _
  · exact onlyIn_superseded s i none

theorem onlyIn_beginWithdrawal (s : State) (i : Nat) :
    s.OnlyIn (s.beginWithdrawal i) [.slots, .runs, .ports] := by
  unfold State.beginWithdrawal
  split
  · exact .refl _ _
  · dsimp only
    split <;> exact onlyIn_superseded s i _

theorem onlyIn_removeRecord (s : State) (n : Ch) (i : Nat) :
    s.OnlyIn (s.removeRecord n i) [.slots] := by
  unfold State.removeRecord
  split
  · exact .refl _ _
  · dsimp only
    split <;> exact onlyIn_setSlot s i _

theorem onlyIn_reconcile (s : State) (i : Nat) (n : Ch) :
    s.OnlyIn (s.reconcile i n) [.slots, .runs, .ports] := by
  unfold State.reconcile
  split
  · exact .refl _ _
  · split
    · split
      · exact .refl _ _
      · exact (onlyIn_setSlot s i _).mono (by decide)
    · split
      · exact ((onlyIn_setSlot s i _).trans (onlyIn_cutRun _ n i) (ms := [.slots, .runs]) (by decide) (by decide)).trans
          ((onlyPorts_leaveRemaining i n).onlyIn _) (by decide) (by decide)
      · exact .refl _ _

/-! ### The arbiter -/

theorem onlyIn_emit (s : State) (n : Ch) (k : Kind) (v : BitVec 48) : s.OnlyIn (s.emit n k v) [] :=
  onlyIn_setStream (.inr ⟨rfl, rfl⟩) (.inr rfl) (.inr ⟨rfl, rfl⟩)

theorem onlyIn_completeRun (s : State) (n : Ch) (i head : Nat) :
    s.OnlyIn (s.completeRun n i head) [.slots, .runs, .ports] := by
  have hcut : s.OnlyIn (s.setStream n { s.stream n with run := none }) [.runs] :=
    onlyIn_setStream (.inr ⟨rfl, rfl⟩) (.inl (by decide)) (.inr ⟨rfl, rfl⟩)
  unfold State.completeRun
  dsimp only
  split
  · exact hcut.mono (by decide)
  · split
    · exact hcut.mono (by decide)
    · exact (hcut.trans (onlyIn_setSlot _ i _) (ms := [.slots, .runs]) (by decide) (by decide)).trans
        ((onlyPorts_testHeld i n _).onlyIn _) (by decide) (by decide)

theorem onlyIn_sendRunCell (s : State) (n : Ch) (run : Run) :
    s.OnlyIn (s.sendRunCell n run) [.slots, .runs, .ports] := by
  unfold State.sendRunCell
  split
  · exact (onlyIn_emit s n _ _).mono (by decide)
  · dsimp only
    split
    · exact (onlyIn_emit s n _ _).trans (ls := [.runs])
        (onlyIn_setStream (.inr ⟨rfl, rfl⟩) (.inl (by decide)) (.inr ⟨rfl, rfl⟩)) (by decide) (by decide)
    · exact (onlyIn_emit s n _ _).trans (onlyIn_completeRun _ n _ _) (by decide) (by decide)

theorem onlyIn_sendWithdraw (s : State) (n : Ch) (i : Nat) (nt : Notice) (r : Record) :
    s.OnlyIn (s.sendWithdraw n i nt r) [.slots] := by
  unfold State.sendWithdraw
  dsimp only
  split
  · exact (onlyIn_emit s n _ _).mono (by decide)
  · split
    · exact (onlyIn_emit s n _ _).trans (onlyIn_removeRecord _ n i) (by decide) (by decide)
    · exact (onlyIn_emit s n _ _).trans (onlyIn_setSlot _ i _) (by decide) (by decide)

theorem onlyIn_sendHead (s : State) (n : Ch) (i : Nat) (nt : Notice) :
    s.OnlyIn (s.sendHead n i nt) [.runs] :=
  (onlyIn_emit s n _ _).trans (ls := [.runs])
    (onlyIn_setStream (.inr ⟨rfl, rfl⟩) (.inl (by decide)) (.inr ⟨rfl, rfl⟩)) (by decide) (by decide)

theorem onlyIn_arbitrate (s : State) (n : Ch) :
    s.OnlyIn (s.arbitrate n) [.slots, .runs, .ports] := by
  unfold State.arbitrate
  split
  · exact onlyIn_sendRunCell s n _
  · split
    · exact (onlyIn_sendWithdraw s n _ _ _).mono (by decide)
    · split
      · exact (onlyIn_sendHead s n _ _).mono (by decide)
      · exact (onlyIn_emit s n _ _).mono (by decide)

/-! ### The location map's pass and the notice table -/

theorem onlyIn_rederiveSlot (i : Nat) (s : State) :
    s.OnlyIn (rederiveSlot i s) [.slots, .runs, .ports] := by
  unfold rederiveSlot
  split
  · exact .refl _ _
  · split
    · dsimp only
      split
      · exact (onlyIn_setSlot s i _).trans (ls := [.slots, .runs, .ports])
          (forChannels_onlyIn (fun n u => onlyIn_reconcile u i n) _) (by decide) (by decide)
      · exact (onlyIn_setSlot s i _).mono (by decide)
    · exact .refl _ _

/-- The pass derives every slot again, and then may raise PLACEMENT (02 R41, R43). -/
theorem State.rederivePass_cases (s : State) :
    s.rederivePass.1 = forSlots rederiveSlot s ∨
      ∃ k, s.rederivePass.1 = (forSlots rederiveSlot s).raise (.placement k) := by
  unfold State.rederivePass
  generalize forSlots rederiveSlot s = t
  dsimp only
  split
  · exact .inr ⟨_, rfl⟩
  · exact .inl rfl

theorem onlyIn_rederivePass (s : State) :
    s.OnlyIn s.rederivePass.1 [.slots, .runs, .ports, .attention] := by
  have h : s.OnlyIn (forSlots rederiveSlot s) [.slots, .runs, .ports] :=
    forSlots_onlyIn onlyIn_rederiveSlot s
  rcases s.rederivePass_cases with e | ⟨k, e⟩
  · rw [e]
    exact h.mono (by decide)
  · rw [e]
    exact h.trans (onlyIn_raise _ (.placement k)) (by decide) (by decide)

theorem onlyIn_reevaluate (s : State) (n : Ch) :
    s.OnlyIn (s.reevaluate n) [.slots, .runs, .ports] := by
  refine forSlots_onlyIn (fun i t => ?_) s
  unfold reevaluateSlot
  split
  · split
    · exact onlyIn_reconcile t i n
    · exact .refl _ _
  · exact .refl _ _

theorem onlyIn_startNotice (s : State) (i : Nat) : s.OnlyIn (s.startNotice i) [.slots] := by
  unfold State.startNotice
  split
  · exact .refl _ _
  · split <;> exact onlyIn_setSlot s i _

theorem onlyIn_testNotice (i : Nat) (s : State) :
    s.OnlyIn (testNotice i s) [.slots, .runs, .ports] := by
  unfold testNotice
  split
  · exact .refl _ _
  · split
    · exact (onlyIn_startNotice s i).mono (by decide)
    · split
      · exact onlyIn_beginWithdrawal s i
      · exact .refl _ _

theorem onlyIn_testWithdrawLimit (i : Nat) (s : State) :
    s.OnlyIn (testWithdrawLimit i s) [.slots, .runs] := by
  unfold testWithdrawLimit
  split
  · exact (onlyIn_cutRuns s i).trans (onlyIn_setSlot _ i none) (by decide) (by decide)
  · exact .refl _ _

theorem onlyIn_testConfirmLimit (p : Port) (s : State) :
    s.OnlyIn (testConfirmLimit p s) [.ports] := by
  unfold testConfirmLimit
  split
  · exact (onlyPorts_finishHeld p _).onlyIn s
  · exact .refl _ _

theorem onlyIn_acceptSubmit (s : State) (p : Port) (i : Nat) (st : Status) (f : RFlags) (d c : Nat) :
    s.OnlyIn (s.acceptSubmit p i st f d c).1 [.ports] := by
  unfold State.acceptSubmit
  split
  · exact .refl _ _
  · dsimp only
    split
    · exact .refl _ _
    · exact onlyIn_setPort s p _

/-! ### Announcement control -/

theorem onlyIn_putAnn (s : State) (p : Ch) (a : Announce) : s.OnlyIn (s.putAnn p a) [.announce] := by
  rw [State.putAnn_eq]
  intro k hk
  cases k with
  | announce => exact absurd (by simp) hk
  | _ => rfl

theorem onlyIn_overrunAt (s : State) (p : Ch) :
    s.OnlyIn (s.overrunAt p) [.announce, .attention] :=
  (onlyIn_putAnn s p _).trans (onlyIn_raise _ _) (by decide) (by decide)

theorem onlyIn_announceWork (p : Ch) (s : State) :
    s.OnlyIn (announceWork p s) [.announce, .attention] := by
  unfold announceWork
  dsimp only
  split
  · exact (onlyIn_putAnn s p _).trans (onlyIn_overrunAt _ p) (by decide) (by decide)
  · exact (onlyIn_putAnn s p _).mono (by decide)

theorem onlyIn_carriesChanged (s : State) (p : Ch) (on : Bool) :
    s.OnlyIn (s.carriesChanged p on) [.announce] := by
  unfold State.carriesChanged
  split
  · exact onlyIn_setAnn s p _
  · exact onlyIn_putAnn s p _

/-! ### The programme store -/

theorem onlyIn_nameEvent (s : State) (p : Ch) : s.OnlyIn (s.nameEvent p) [] :=
  onlyIn_setStream (.inr ⟨rfl, rfl⟩) (.inr rfl) (.inr ⟨rfl, rfl⟩)

theorem onlyIn_makeCurrent (s : State) (p v : Ch) : s.OnlyIn (s.makeCurrent p v) [.names] := by
  have h : s.OnlyIn (s.setProg p { s.prog p with current := v }) [.names] :=
    onlyIn_setProg (.inr ⟨rfl, rfl⟩) (.inl (by decide)) (.inr rfl)
  exact h.trans (onlyIn_nameEvent _ p) (by decide) (by decide)

theorem onlyIn_writeVariant (s : State) (p v : Ch) (x : Names) :
    s.OnlyIn (s.writeVariant p v x) [.names] := by
  have h : s.OnlyIn (s.setProg p
      { s.prog p with variants := (s.prog p).variants.set v (some x) }) [.names] :=
    onlyIn_setProg (.inr ⟨rfl, rfl⟩) (.inl (by decide)) (.inr rfl)
  unfold State.writeVariant
  dsimp only
  split
  · exact h.trans (onlyIn_makeCurrent _ p v) (by decide) (by decide)
  · split
    · exact h.trans (onlyIn_nameEvent _ p) (by decide) (by decide)
    · exact h

/-- The timed changes written, whole. -/
theorem onlyIn_timed (s : State) (x : List TimedEntry) :
    s.OnlyIn { s with store := { s.store with timed := x } } [.timed] := by
  intro k hk
  cases k with
  | timed => exact absurd (by simp) hk
  | _ => rfl

theorem onlyIn_timedWork (p : Ch) (s : State) :
    s.OnlyIn (timedWork p s) [.timed, .names, .attention] := by
  have h := onlyIn_timed s
    (s.store.timed.map fun e => if e.prog = p && e.fires s.time.seconds
      then e.advance s.time.seconds else e)
  unfold timedWork
  extract_lets now store t1 t2
  have h2 : s.OnlyIn t2 [.timed, .attention] := by
    dsimp only [t2]
    split
    · exact h.trans (onlyIn_raise t1 _) (by decide) (by decide)
    · exact h.mono (by decide)
  split
  · exact h2.trans (onlyIn_makeCurrent t2 p _) (by decide) (by decide)
  · exact h2.mono (by decide)

theorem onlyIn_applyProgramme (s : State) (p : Ch) (code : BitVec 16) (cov : AreaSet) (on : Bool)
    (y : Option Ch) :
    s.OnlyIn (s.applyProgramme p code cov on y)
      [.cover, .names, .target, .slots, .runs, .ports, .announce] := by
  unfold State.applyProgramme
  extract_lets old t1 t2 t3
  have h1 : s.OnlyIn t1 [.cover, .names, .target] :=
    onlyIn_setProg (.inl (by decide)) (.inl (by decide)) (.inl (by decide))
  have h2 : t1.OnlyIn t2 [.slots, .runs, .ports] := by
    dsimp only [t2]
    split
    · exact .refl _ _
    · exact onlyIn_reevaluate t1 p
  have h3 : t2.OnlyIn t3 [.announce] := by
    dsimp only [t3]
    split
    · exact .refl _ _
    · exact onlyIn_carriesChanged t2 p on
  have h13 : s.OnlyIn t3 [.cover, .names, .target, .slots, .runs, .ports, .announce] :=
    (h1.trans h2 (ms := [.cover, .names, .target, .slots, .runs, .ports])
      (by decide) (by decide)).trans h3 (by decide) (by decide)
  split
  · exact h13
  · exact h13.trans (onlyIn_setAnn t3 p _) (by decide) (by decide)

/-! ### The stream engines -/

theorem onlyIn_takePlan (s : State) (n : Ch) : s.OnlyIn (s.takePlan n) [.plans] := by
  unfold State.takePlan
  split
  · exact onlyIn_setStream (.inl (by decide)) (.inr rfl) (.inr ⟨rfl, rfl⟩)
  · exact .refl _ _

theorem onlyIn_testOvercommit (s : State) (n : Ch) : s.OnlyIn (s.testOvercommit n) [.attention] := by
  have h : ∀ b, s.OnlyIn (s.setStream n { s.stream n with overcommit := b }) [] := fun _ =>
    onlyIn_setStream (.inr ⟨rfl, rfl⟩) (.inr rfl) (.inr ⟨rfl, rfl⟩)
  unfold State.testOvercommit
  dsimp only
  split
  · split
    · exact .refl _ _
    · exact (h true).trans (onlyIn_raise _ _) (by decide) (by decide)
  · split
    · exact (h false).mono (by decide)
    · exact .refl _ _

theorem onlyIn_discardRecord (n : Ch) (i : Nat) (s : State) :
    s.OnlyIn (discardRecord n i s) [.slots, .ports] := by
  unfold discardRecord
  split
  · exact .refl _ _
  · split
    · exact .refl _ _
    · exact (onlyIn_removeRecord s n i).trans ((onlyPorts_leaveRemaining i n).onlyIn _) (by decide) (by decide)

theorem onlyIn_enterStopped (s : State) (n : Ch) :
    s.OnlyIn (s.enterStopped n) [.slots, .runs, .states, .ports] := by
  have h : s.OnlyIn (s.setStream n { s.stream n with state := .stopped, run := none })
      [.runs, .states] :=
    onlyIn_setStream (.inr ⟨rfl, rfl⟩) (.inl (by decide)) (.inl (by decide))
  exact h.trans (forSlots_onlyIn (onlyIn_discardRecord n) _) (by decide) (by decide)

theorem onlyIn_startRecord (n : Ch) (i : Nat) (s : State) :
    s.OnlyIn (startRecord n i s) [.slots] := by
  unfold startRecord
  split
  · exact .refl _ _
  · split
    · exact onlyIn_setSlot s i _
    · exact .refl _ _

theorem onlyIn_takeStart (s : State) (n : Ch) : s.OnlyIn (s.takeStart n) [.slots, .states] := by
  have h : s.OnlyIn (s.setStream n
      { s.stream n with startPending := false, nameCtr := 0, longCtr := 0, state := .running })
      [.states] :=
    onlyIn_setStream (.inr ⟨rfl, rfl⟩) (.inr rfl) (.inl (by decide))
  exact h.trans (forSlots_onlyIn (onlyIn_startRecord n) _) (by decide) (by decide)

theorem onlyIn_stopStep (n : Ch) (s : State) :
    s.OnlyIn (stopStep n s) [.slots, .runs, .states, .ports] := by
  unfold stopStep
  split
  · exact onlyIn_enterStopped s n
  · exact .refl _ _

theorem onlyIn_startStep (n : Ch) (s : State) : s.OnlyIn (startStep n s) [.slots, .states] := by
  unfold startStep
  split
  · exact onlyIn_takeStart s n
  · exact .refl _ _

theorem onlyIn_planStep (n : Ch) (s : State) : s.OnlyIn (planStep n s) [.plans, .attention] := by
  unfold planStep
  split
  · exact (onlyIn_takePlan s n).trans (onlyIn_testOvercommit _ n) (by decide) (by decide)
  · exact .refl _ _

theorem onlyIn_storeLevel (s : State) (n : Ch) : s.OnlyIn (s.storeLevel n) [.attention] := by
  have h : s.OnlyIn (s.setStream n { s.stream n with modLevel := s.lineFound n }) [] :=
    onlyIn_setStream (.inr ⟨rfl, rfl⟩) (.inr rfl) (.inr ⟨rfl, rfl⟩)
  unfold State.storeLevel
  split
  · exact .refl _ _
  · exact h.trans (onlyIn_raise _ _) (by decide) (by decide)

theorem onlyIn_sampleModulator (s : State) (n : Ch) :
    s.OnlyIn (s.sampleModulator n) [.attention, .runs, .states] :=
  (onlyIn_storeLevel s n).trans (ls := [.runs, .states])
    (onlyIn_setStream (.inr ⟨rfl, rfl⟩) (.inl (by decide)) (.inl (by decide))) (by decide) (by decide)

theorem onlyIn_sendStatus (s : State) (n : Ch) : s.OnlyIn (s.sendStatus n) [] := by
  unfold State.sendStatus
  split <;> exact onlyIn_emit s n _ _

theorem onlyIn_sendName (s : State) (n : Ch) : s.OnlyIn (s.sendName n) [] :=
  (onlyIn_emit s n _ _).trans (ls := [])
    (onlyIn_setStream (.inr ⟨rfl, rfl⟩) (.inr rfl) (.inr ⟨rfl, rfl⟩)) (by decide) (by decide)

theorem onlyIn_sendLongName (s : State) (n : Ch) (long : List Byte) :
    s.OnlyIn (s.sendLongName n long) [] :=
  (onlyIn_emit s n _ _).trans (ls := [])
    (onlyIn_setStream (.inr ⟨rfl, rfl⟩) (.inr rfl) (.inr ⟨rfl, rfl⟩)) (by decide) (by decide)

theorem onlyIn_sendRefer (s : State) (x y : Ch) : s.OnlyIn (s.sendRefer x y) [.announce] := by
  unfold State.sendRefer State.reportRefer
  split
  · exact (onlyIn_emit s x _ _).mono (by decide)
  · exact (onlyIn_emit s x _ _).trans (onlyIn_setAnn _ x _) (by decide) (by decide)

theorem onlyIn_sendCell (s : State) (n : Ch) :
    s.OnlyIn (s.sendCell n) [.slots, .runs, .ports, .announce] := by
  have harb := (onlyIn_arbitrate s n).mono (ls := [.slots, .runs, .ports, .announce]) (by decide)
  unfold State.sendCell
  split
  · exact (onlyIn_sendStatus s n).mono (by decide)
  · exact (onlyIn_sendName s n).mono (by decide)
  · split
    · exact (onlyIn_sendLongName s n _).mono (by decide)
    · exact harb
  · split
    · split
      · exact (onlyIn_sendRefer s n _).mono (by decide)
      · exact harb
    · exact harb
  · exact harb

theorem onlyIn_cellStep (n : Ch) (s : State) :
    s.OnlyIn (cellStep n s) [.slots, .runs, .ports, .announce] := by
  unfold cellStep
  split
  · exact onlyIn_sendCell s n
  · exact onlyIn_setStream (.inr ⟨rfl, rfl⟩) (.inr rfl) (.inr ⟨rfl, rfl⟩)

/-! ### Site time and the monitor -/

theorem onlyIn_watchWork (s : State) : s.OnlyIn (watchWork s) [.time, .attention] := by
  unfold watchWork
  split
  · split
    · exact (onlyIn_setTime s _).trans (onlyIn_raise _ _) (by decide) (by decide)
    · exact (onlyIn_setTime s _).mono (by decide)
  · exact .refl _ _
  · exact .refl _ _

theorem onlyIn_silenceWork (s : State) : s.OnlyIn (silenceWork s) [.monitor, .attention] := by
  unfold silenceWork
  dsimp only
  split
  · exact .refl _ _
  · split
    · exact (onlyIn_setMonitor s _).mono (by decide)
    · split
      · exact .refl _ _
      · exact (onlyIn_setMonitor s _).trans (onlyIn_raise _ _) (by decide) (by decide)

theorem onlyIn_hearHead (s : State) (v : BitVec 48) : s.OnlyIn (s.hearHead v) [.monitor, .slots, .ports] := by
  have htally : ∀ f, s.OnlyIn (s.tally f) [.monitor, .slots, .ports] := fun f =>
    (onlyIn_setMonitor s _).mono (by decide)
  unfold State.hearHead
  dsimp only
  split
  · exact htally _
  · split
    · exact htally _
    · split
      · split
        · exact ((onlyIn_setMonitor s _).trans (onlyIn_setSlot _ _ _) (ms := [.monitor, .slots])
            (by decide) (by decide)).trans ((onlyPorts_testHeld _ _ _).onlyIn _) (by decide) (by decide)
        · exact htally _
      · exact htally _

theorem onlyIn_actOnOwn (s : State) (k : BitVec 4) (v : BitVec 48) :
    s.OnlyIn (s.actOnOwn k v) [.monitor, .slots, .ports] := by
  unfold State.actOnOwn State.compareStatus State.compareName
  split
  · exact onlyIn_hearHead s v
  · split
    · split
      · exact .refl _ _
      · exact (onlyIn_setMonitor s _).mono (by decide)
    · split
      · split
        · exact .refl _ _
        · exact (onlyIn_setMonitor s _).mono (by decide)
      · exact .refl _ _

theorem onlyIn_actOnVerdict (s : State) (v : Verdict) :
    s.OnlyIn (s.actOnVerdict v) [.monitor, .slots, .ports] := by
  have h := onlyIn_setMonitor s { s.monitor with holding := s.monitor.holding.countVerdict v }
  unfold State.actOnVerdict
  dsimp only
  split
  · exact (h.trans (onlyIn_setMonitor _ _) (ms := [.monitor]) (by decide) (by decide)).trans
      (onlyIn_actOnOwn _ _ _) (by decide) (by decide)
  all_goals exact h.mono (by decide)

theorem onlyIn_lockStep (s : State) (own : Bool) : s.OnlyIn (s.lockStep own) [.monitor, .attention] := by
  unfold State.lockStep State.lockFault
  split
  · exact (onlyIn_setMonitor s _).mono (by decide)
  · split
    · exact (onlyIn_setMonitor s _).mono (by decide)
    · dsimp only
      split
      · exact (onlyIn_setMonitor s _).trans (onlyIn_raise _ _) (by decide) (by decide)
      · exact (onlyIn_setMonitor s _).mono (by decide)
  · exact .refl _ _

theorem onlyIn_judgeCandidate (s : State) (c : List Bool) :
    s.OnlyIn (s.judgeCandidate c) [.monitor, .slots, .ports, .attention] :=
  ((onlyIn_actOnVerdict s _).trans (onlyIn_lockStep _ _)
    (ms := [.monitor, .slots, .ports, .attention]) (by decide) (by decide)).trans
      (onlyIn_setMonitor _ _) (by decide) (by decide)

theorem onlyIn_syncMiss (s : State) : s.OnlyIn s.syncMiss [.monitor, .attention] :=
  (onlyIn_lockStep s false).trans (onlyIn_setMonitor _ _) (by decide) (by decide)

end Sys2Proof.Machine
end

section
/-! SUPPORT. What one step can do: the parts that each work of a boundary and each request can change, and
the theorem that a property withstanding them is kept by every step (`Kept.step`). A property that does
not read the ports needs only what touches the parts it reads (`Kept.of_reads`). -/

namespace Sys2Proof.Machine

variable {s t u : State} {ks ls ms : List Part}

/-! ### Works -/

/-- The parts that a work can change. -/
def workTouches : Work → List Part
  | .trimExpiry => [.time]
  | .noticeTest _ => [.slots, .runs, .ports]
  | .timedFire => [.timed, .names, .attention]
  | .minute => [.monitor]
  | .stream _ => [.slots, .runs, .states, .plans, .ports, .attention, .announce]
  | .announce _ => [.announce, .attention]
  | .withdrawLimit _ => [.slots, .runs]
  | .confirmLimit _ => [.ports]
  | .silence => [.monitor, .attention]
  | .markWatch => [.time, .attention]

theorem onlyIn_streamWork (n : Ch) (s : State) :
    s.OnlyIn (streamWork n s) [.slots, .runs, .states, .plans, .ports, .attention, .announce] := by
  have h12 : s.OnlyIn (startStep n (stopStep n s)) [.slots, .runs, .states, .ports] :=
    (onlyIn_stopStep n s).trans (onlyIn_startStep n _) (by decide) (by decide)
  have h34 : (startStep n (stopStep n s)).OnlyIn
      ((planStep n (startStep n (stopStep n s))).sampleModulator n)
      [.plans, .attention, .runs, .states] :=
    (onlyIn_planStep n _).trans (onlyIn_sampleModulator _ n) (by decide) (by decide)
  exact (h12.trans h34 (ms := [.slots, .runs, .states, .plans, .ports, .attention]) (by decide) (by decide)).trans
    (onlyIn_cellStep n _) (by decide) (by decide)

theorem onlyIn_take (w : Work) (s : State) : s.OnlyIn (s.take w) (workTouches w) := by
  cases w with
  | trimExpiry => exact onlyIn_setTime s _
  | noticeTest i => exact onlyIn_testNotice i s
  | timedFire => exact forChannels_onlyIn onlyIn_timedWork s
  | minute => exact onlyIn_setMonitor s _
  | stream n => exact onlyIn_streamWork n s
  | announce p => exact onlyIn_announceWork p s
  | withdrawLimit i => exact onlyIn_testWithdrawLimit i s
  | confirmLimit p => exact onlyIn_testConfirmLimit p s
  | silence => exact onlyIn_silenceWork s
  | markWatch => exact onlyIn_watchWork s

theorem takeAll_keeps {P : State → Prop} (h : ∀ w s, P s → P (s.take w)) (ws : List Work)
    (s : State) (hs : P s) : P (s.takeAll ws) := by
  induction ws generalizing s with
  | nil => exact hs
  | cons w ws ih => exact ih _ (h w s hs)

/-! ### Requests -/

/-- The parts that a request can change by itself. SET TIME and STEP TIME, which have outstanding works
taken, stand apart. -/
def requestTouches : Request → List Part
  | .readAttention | .setAttentionMask _ => [.attention]
  | .abandon => [.ports]
  | .submit _ => [.slots, .runs, .ports, .attention]
  | .withdraw _ | .withdrawAll | .purge _ => [.slots, .runs, .ports]
  | .setClass _ _ _ | .setNoticeLimits _ _ _ => [.limits]
  | .setRange _ _ _ _ _ | .setDefaultAreas _ => [.map, .slots, .runs, .ports, .attention]
  | .setProgramme _ _ _ _ _ => [.cover, .names, .target, .slots, .runs, .ports, .announce]
  | .setName _ _ _ _ | .selectName _ _ => [.names]
  | .setTimedChange _ _ _ _ _ | .clearTimedChange _ => [.timed]
  | .setPlan _ _ => [.plans]
  | .startStream _ => [.states]
  | .stopStream _ => [.runs, .states]
  | .setCue _ _ _ _ _ => [.announce, .attention]
  | .cueOn _ | .cueOff _ => [.announce]
  | .setMonitor _ _ _ => [.monitor]
  | .setTrim _ | .trimFor _ _ | .readMark | .setOffset _ | .setMarkWatch _ => [.time]
  | .ping | .setLink _ _ | .restart _ | .queryNotice _ | .listNotices _ | .readRange _
  | .readStream _ | .readProgramme _ | .readAnnouncement _ | .setTime _ | .stepTime _ | .readTime
  | .readMonitor => []

theorem onlyIn_submitExisting (p : Port) (a : SubmitArgs) (u : Urgency) (i : Nat) (old : Notice)
    (s : State) :
    s.OnlyIn (submitExisting p a u i old s).1 [.slots, .runs, .ports, .attention] := by
  unfold submitExisting
  split
  · exact .refl _ _
  · split
    · exact .refl _ _
    · split
      · exact .refl _ _
      · split
        · exact .refl _ _
        · exact (onlyIn_superseded s i _).trans (onlyIn_acceptSubmit _ p i _ _ _ _) (by decide) (by decide)

theorem onlyIn_submitNew (p : Port) (a : SubmitArgs) (u : Urgency) (s : State) :
    s.OnlyIn (submitNew p a u s).1 [.slots, .runs, .ports, .attention] := by
  unfold submitNew
  split
  · exact .refl _ _
  · split
    · exact .refl _ _
    · dsimp only
      split
      · exact (onlyIn_setSlot s _ _).trans (onlyIn_acceptSubmit _ p _ _ _ _ _) (by decide) (by decide)
      · split
        · exact .refl _ _
        · next i v _ =>
          have hfree := (onlyIn_freeAtOnce s i).mono (ls := [.slots, .runs, .ports, .attention]) (by decide)
          have hplace : ∀ x, s.OnlyIn ((s.freeAtOnce i).setSlot i x)
              [.slots, .runs, .ports, .attention] := fun x => hfree.trans (onlyIn_setSlot _ i x) (by decide) (by decide)
          have hraise : ∀ x e, s.OnlyIn (((s.freeAtOnce i).setSlot i x).raise e)
              [.slots, .runs, .ports, .attention] := fun x e => (hplace x).trans (onlyIn_raise _ e) (by decide) (by decide)
          exact (hraise _ _).trans (onlyIn_acceptSubmit _ p i _ _ _ _) (by decide) (by decide)

theorem onlyIn_handleSubmit (p : Port) (a : SubmitArgs) (s : State) :
    s.OnlyIn (handleSubmit p a s).1 [.slots, .runs, .ports, .attention] := by
  unfold handleSubmit
  split
  · exact .refl _ _
  · split
    · exact .refl _ _
    · split
      · exact onlyIn_submitNew p a _ s
      · split
        · exact onlyIn_submitExisting p a _ _ _ s
        · exact onlyIn_submitNew p a _ s

theorem onlyIn_handleWithdraw (p : Port) (number : BitVec 16) (s : State) :
    s.OnlyIn (handleWithdraw p number s).1 [.slots, .runs, .ports] := by
  unfold handleWithdraw
  split
  · exact .refl _ _
  · split
    · exact .refl _ _
    · split
      · exact .refl _ _
      · split
        · exact .refl _ _
        · split
          · exact .refl _ _
          · exact ((onlyPorts_supersede _).onlyIn s).trans (onlyIn_setSlot _ _ none) (by decide) (by decide)
          · exact onlyIn_beginWithdrawal s _

theorem onlyIn_withdrawAllSlot (p : Port) (i : Nat) (s : State) :
    s.OnlyIn (withdrawAllSlot p i s) [.slots, .runs, .ports] := by
  unfold withdrawAllSlot
  split
  · exact .refl _ _
  · split
    · split
      · exact ((onlyPorts_supersede _).onlyIn s).trans (onlyIn_setSlot _ _ none) (by decide) (by decide)
      · exact onlyIn_beginWithdrawal s _
      · exact .refl _ _
    · exact .refl _ _

theorem onlyIn_handlePurge (number : BitVec 16) (s : State) :
    s.OnlyIn (handlePurge number s).1 [.slots, .runs, .ports] := by
  unfold handlePurge
  split
  · exact .refl _ _
  · split
    · exact .refl _ _
    · exact onlyIn_freeAtOnce s _

/-- The map written, whole. -/
theorem onlyIn_map (s : State) (m : LocationMap) : s.OnlyIn { s with map := m } [.map] := by
  intro k hk
  cases k with
  | map => exact absurd (by simp) hk
  | _ => rfl

/-- The attention unit written, whole. -/
theorem onlyIn_attention (s : State) (a : Attention) :
    s.OnlyIn { s with attention := a } [.attention] := by
  intro k hk
  cases k with
  | attention => exact absurd (by simp) hk
  | _ => rfl

theorem onlyIn_handleSetRange (entry enabled : Byte) (first last : BitVec 16) (area : Byte)
    (s : State) :
    s.OnlyIn (handleSetRange entry enabled first last area s).1
      [.map, .slots, .runs, .ports, .attention] := by
  unfold handleSetRange
  split
  · exact .refl _ _
  · split
    · exact .refl _ _
    · split
      · exact .refl _ _
      · split
        · exact .refl _ _
        · dsimp only
          split
          · exact .refl _ _
          · exact (onlyIn_map s _).trans (onlyIn_rederivePass _) (by decide) (by decide)

theorem onlyIn_handleSetDefaultAreas (areas : BitVec 16) (s : State) :
    s.OnlyIn (handleSetDefaultAreas areas s).1 [.map, .slots, .runs, .ports, .attention] := by
  unfold handleSetDefaultAreas
  split
  · exact .refl _ _
  · exact (onlyIn_map s _).trans (onlyIn_rederivePass _) (by decide) (by decide)

theorem onlyIn_handleSetProgramme (prog : Byte) (code coverage : BitVec 16) (carries target : Byte)
    (s : State) :
    s.OnlyIn (handleSetProgramme prog code coverage carries target s).1
      [.cover, .names, .target, .slots, .runs, .ports, .announce] := by
  unfold handleSetProgramme
  split
  · exact .refl _ _
  · split
    · exact .refl _ _
    · split
      · exact .refl _ _
      · split
        · exact .refl _ _
        · split
          · exact .refl _ _
          · split
            · exact .refl _ _
            · exact onlyIn_applyProgramme s _ _ _ _ _

theorem onlyIn_handleSetName (prog variant : Byte) (short long : List Byte) (s : State) :
    s.OnlyIn (handleSetName prog variant short long s).1 [.names] := by
  unfold handleSetName setNameClear setNameWrite
  split
  · split
    · dsimp only
      split
      · exact .refl _ _
      · split
        · exact .refl _ _
        · exact onlyIn_setProg (.inr ⟨rfl, rfl⟩) (.inl (by decide)) (.inr rfl)
    · exact onlyIn_writeVariant s _ _ _
  · exact .refl _ _

theorem onlyIn_handleSelectName (prog variant : Byte) (s : State) :
    s.OnlyIn (handleSelectName prog variant s).1 [.names] := by
  unfold handleSelectName
  split
  · split
    · exact .refl _ _
    · exact onlyIn_makeCurrent s _ _
  · exact .refl _ _

theorem onlyIn_handleSetTimedChange (entry prog variant : Byte) (target period : BitVec 32)
    (s : State) :
    s.OnlyIn (handleSetTimedChange entry prog variant target period s).1 [.timed] := by
  unfold handleSetTimedChange
  split
  · exact .refl _ _
  · split
    · exact onlyIn_timed s _
    · exact .refl _ _

theorem onlyIn_handleClearTimedChange (entry : Byte) (s : State) :
    s.OnlyIn (handleClearTimedChange entry s).1 [.timed] := by
  unfold handleClearTimedChange
  split
  · exact .refl _ _
  · split
    · exact onlyIn_timed s _
    · exact .refl _ _

theorem onlyIn_handleSetPlan (stream : Byte) (codes : List Byte) (s : State) :
    s.OnlyIn (handleSetPlan stream codes s).1 [.plans] := by
  unfold handleSetPlan
  split
  · exact .refl _ _
  · split
    · exact .refl _ _
    · split
      · exact onlyIn_setStream (.inl (by decide)) (.inr rfl) (.inr ⟨rfl, rfl⟩)
      · exact .refl _ _

theorem onlyIn_handleStartStream (stream : Byte) (s : State) :
    s.OnlyIn (handleStartStream stream s).1 [.states] := by
  have hset : ∀ n, s.OnlyIn (s.setStream n { s.stream n with startPending := true }) [.states] :=
    fun _ => onlyIn_setStream (.inr ⟨rfl, rfl⟩) (.inr rfl) (.inl (by decide))
  unfold handleStartStream
  split
  · exact .refl _ _
  · dsimp only
    split
    · exact .refl _ _
    · exact .refl _ _
    · split
      · exact .refl _ _
      · exact hset _
    · split
      · exact .refl _ _
      · split
        · exact .refl _ _
        · exact hset _

theorem onlyIn_handleStopStream (stream : Byte) (s : State) :
    s.OnlyIn (handleStopStream stream s).1 [.runs, .states] := by
  unfold handleStopStream
  split
  · exact .refl _ _
  · dsimp only
    split
    all_goals first
      | exact onlyIn_setStream (.inr ⟨rfl, rfl⟩) (.inl (by decide)) (.inl (by decide))
      | split
    all_goals first
      | exact onlyIn_setStream (.inr ⟨rfl, rfl⟩) (.inl (by decide)) (.inl (by decide))
      | exact .refl _ _

theorem onlyIn_applyCue (s : State) (p : Ch) (src : CueSource) (l h m : Nat) :
    s.OnlyIn (s.applyCue p src l h m) [.announce, .attention] := by
  unfold State.applyCue
  extract_lets old a t
  have ht : s.OnlyIn t [.announce] := onlyIn_putAnn s p _
  split
  · exact ht.trans (onlyIn_overrunAt t p) (by decide) (by decide)
  · exact ht.mono (by decide)

theorem onlyIn_handleSetCue (prog source lead hangover : Byte) (m : BitVec 16) (s : State) :
    s.OnlyIn (handleSetCue prog source lead hangover m s).1 [.announce, .attention] := by
  unfold handleSetCue
  split
  · exact onlyIn_applyCue s _ _ _ _ _
  · exact .refl _ _

theorem onlyIn_handleLinkCue (prog : Byte) (on : Bool) (s : State) :
    s.OnlyIn (handleLinkCue prog on s).1 [.announce] := by
  unfold handleLinkCue
  split
  · exact .refl _ _
  · split
    · split
      · exact .refl _ _
      · exact onlyIn_putAnn s _ _
    · exact .refl _ _

/-- The table's parameters written. -/
theorem onlyIn_setLimits (s : State) (x : Table) (h : x.slots = s.table.slots) :
    s.OnlyIn (s.setTable x) [.limits] := by
  intro k hk
  cases k with
  | slots => exact h
  | limits => simp at hk
  | _ => rfl

/-- SET TIME and STEP TIME. -/
def changesTime : Request → Bool
  | .setTime _ | .stepTime _ => true
  | _ => false

/-- What a request can change, but for a time change. -/
theorem onlyIn_handle (p : Port) (r : Request) (s : State) (h : changesTime r = false) :
    s.OnlyIn (handle p r s).1 (requestTouches r) := by
  cases r with
  | ping | restart _ | queryNotice _ | listNotices _ | readRange _ | readStream _
  | readProgramme _ | readAnnouncement _ | readTime | readMonitor =>
    simp only [handle, handlePing, handleRestart, handleQueryNotice, handleListNotices,
      handleReadRange, handleReadStream, handleReadProgramme, handleReadAnnouncement,
      handleReadTime, handleReadMonitor]
    repeat' split
    all_goals exact .refl _ _
  | setLink port baud =>
    simp only [handle, handleSetLink]
    repeat' split
    all_goals exact .refl _ _
  | readAttention => exact onlyIn_attention s _
  | setAttentionMask mask =>
    simp only [handle, handleSetAttentionMask]
    split
    · exact .refl _ _
    · exact onlyIn_attention s _
  | abandon =>
    simp only [handle, handleAbandon]
    split
    · exact .refl _ _
    · exact (onlyPorts_finishHeld p _).onlyIn s
  | submit a => exact onlyIn_handleSubmit p a s
  | withdraw number => exact onlyIn_handleWithdraw p number s
  | withdrawAll =>
    simp only [handle, handleWithdrawAll]
    exact forSlots_onlyIn (onlyIn_withdrawAllSlot p) s
  | purge number => exact onlyIn_handlePurge number s
  | setClass cls base settle =>
    simp only [handle, handleSetClass]
    split
    · exact .refl _ _
    · exact onlyIn_setLimits s _ rfl
  | setNoticeLimits w lifetime confirm => exact onlyIn_setLimits s _ rfl
  | setRange entry enabled first last area => exact onlyIn_handleSetRange _ _ _ _ _ s
  | setDefaultAreas areas => exact onlyIn_handleSetDefaultAreas areas s
  | setProgramme prog code coverage carries target => exact onlyIn_handleSetProgramme _ _ _ _ _ s
  | setName prog variant short long => exact onlyIn_handleSetName _ _ _ _ s
  | selectName prog variant => exact onlyIn_handleSelectName _ _ s
  | setTimedChange entry prog variant target period =>
    exact onlyIn_handleSetTimedChange _ _ _ _ _ s
  | clearTimedChange entry => exact onlyIn_handleClearTimedChange _ s
  | setPlan stream duties => exact onlyIn_handleSetPlan _ _ s
  | startStream stream => exact onlyIn_handleStartStream _ s
  | stopStream stream => exact onlyIn_handleStopStream _ s
  | setCue prog source lead hangover maxSecs => exact onlyIn_handleSetCue _ _ _ _ _ s
  | cueOn prog => exact onlyIn_handleLinkCue _ true s
  | cueOff prog => exact onlyIn_handleLinkCue _ false s
  | setTime _ | stepTime _ => exact absurd h (by simp [changesTime])
  | setTrim trim => exact onlyIn_setTime s _
  | trimFor trim duration => exact onlyIn_setTime s _
  | readMark => exact onlyIn_setTime s _
  | setOffset offset =>
    simp only [handle, handleSetOffset]
    split
    · exact .refl _ _
    · exact onlyIn_setTime s _
  | setMarkWatch enable =>
    simp only [handle, handleSetMarkWatch]
    repeat' split
    all_goals first | exact .refl _ _ | exact onlyIn_setTime s _
  | setMonitor enable watched tolerance =>
    simp only [handle, handleSetMonitor]
    repeat' split
    all_goals first | exact .refl _ _ | exact onlyIn_setMonitor s _

/-! ### Site time -/

/-- What a command makes of site time, but for the works of a boundary and the requests that have no
time change. -/
inductive SiteTime.Moves (x : SiteTime) : SiteTime → Prop
  | boundary : x.Moves x.boundary
  | phase (k : Nat) : x.Moves { x with phase := k }
  | edge : x.Moves x.edge
  | seconds (v : Nat) (b : Bool) (h : v ≤ Config.maxSeconds) :
      x.Moves { x with seconds := v, isSet := b }

/-- The time change of SET TIME or STEP TIME, or nothing where it is refused (07 R148, R149). -/
theorem handle_timeChange (p : Port) (r : Request) (s : State) (h : changesTime r = true) :
    (handle p r s).1 = s ∨
      ∃ f : SiteTime → SiteTime, (∀ x : SiteTime, x.Moves (f x)) ∧ (handle p r s).1 = s.timeChange f := by
  cases r with
  | setTime secs =>
    refine .inr ⟨fun x => { x with seconds := secs.toNat, isSet := true },
      fun x => .seconds secs.toNat true ?_, by simp only [handle, handleSetTime]⟩
    have := secs.isLt
    simp only [Config.maxSeconds]
    omega
  | stepTime delta =>
    simp only [handle, handleStepTime]
    split
    · exact .inl rfl
    · split
      · exact .inl rfl
      · next hrange =>
        refine .inr ⟨fun x => { x with seconds := (↑s.time.seconds + delta.toInt).toNat },
          fun x => .seconds (↑s.time.seconds + delta.toInt).toNat x.isSet ?_, by simp only⟩
        omega
  | _ => simp [changesTime] at h

/-! ### A step -/

/-- What a property withstands that every step keeps. -/
structure Kept (P : State → Prop) : Prop where
  free : ∀ s t, s.OnlyIn t Part.unread → P s → P t
  powerOn : ∀ s, State.reset.OnlyIn s Part.unread → P s
  take : ∀ w s, P s → P (s.take w)
  time : ∀ s x, s.time.Moves x → P s → P (s.setTime x)
  raise : ∀ s e, P s → P (s.raise e)
  judge : ∀ s c, P s → P (s.judgeCandidate c)
  miss : ∀ s, P s → P s.syncMiss
  timer : ∀ k p s, P s → P (timerRun k p s)
  silence : ∀ s p, P s → P (s.silenceEnd p)
  char : ∀ s p c, P s → P (s.receiveChar p c)
  request : ∀ s p r, P s → P (s.request p r)
  raw : ∀ s p code rest, P s → P (s.rawRequest p code rest)
  sent : ∀ s p lines, P s → P (s.responseSent p lines)

theorem onlyIn_powerOn (s : State) (lines : Lines) : ∃ t : State, State.reset.OnlyIn t [.env] ∧
    s.powerOn lines = t.beginTickZero := by
  refine ⟨_, ?_, rfl⟩
  intro k hk
  cases k with
  | env => simp at hk
  | plans | runs | states =>
    funext n
    simp [State.part, State.stream, State.reset, Stream.reset]
  | _ => rfl

theorem onlyIn_restartAll (s : State) (lines : Lines) : ∃ t : State,
    State.reset.OnlyIn t [.ports, .env] ∧ s.restartAll lines = t.beginTickZero := by
  refine ⟨_, ?_, rfl⟩
  intro k hk
  cases k with
  | plans | runs | states =>
    funext n
    simp [State.part, State.stream, State.reset, Stream.reset, State.withLines]
  | ports | env => simp at hk
  | _ => rfl

theorem running_keeps {P : State → Prop} (s t u : State) (hs : P s) (ht : P s → P t)
    (h : Machine.running s t = .next u) : P u := by
  rw [running_eq_next] at h
  cases h
  split
  · exact hs
  · exact ht hs

section

variable {P : State → Prop} (hk : Kept P)

include hk

theorem Kept.flushDue (s : State) (hs : P s) : P s.flushDue :=
  hk.free _ _ ((onlyIn_due _ []).mono (by decide)) (takeAll_keeps hk.take s.due s hs)

theorem Kept.works (s : State) (second : Bool) (later : List Work) (hs : P s) :
    P (s.works second later) :=
  hk.free _ _ ((onlyIn_due _ _).mono (by decide)) (takeAll_keeps hk.take _ s hs)

theorem Kept.tickBoundary (s : State) (lines : Lines) (later : List Work) (hs : P s) :
    P (s.tickBoundary lines later) := by
  have hticked := forPorts_keeps (hk.timer (s.flushDue.time.tickLength - s.flushDue.time.phase)) _
    (hk.flushDue s hs)
  exact hk.works _ _ _ (hk.time _ _ .boundary
    (hk.free _ _ ((onlyIn_withLines _ lines).mono (by decide)) hticked))

theorem Kept.takeWork (s : State) (w : Work) (hs : P s) : P (s.takeWork w) :=
  hk.free _ _ ((onlyIn_due _ _).mono (by decide)) (hk.take w s hs)

theorem Kept.takeWhen (due : Bool) (w : Work) (s : State) (hs : P s) : P (takeWhen due w s) := by
  unfold Machine.takeWhen
  split
  · exact hk.takeWork s w hs
  · exact hs

theorem Kept.timeChange (s : State) (f : SiteTime → SiteTime) (hf : ∀ x : SiteTime, x.Moves (f x))
    (hs : P s) : P (s.timeChange f) := by
  have hflush : P s.flushSeconds := hk.free _ _ ((onlyIn_due _ _).mono (by decide)) (takeAll_keeps hk.take _ s hs)
  have htests : ∀ t, P t → P t.testNotices :=
    forSlots_keeps fun i _ t ht => hk.take (.noticeTest i) t ht
  exact hk.take .timedFire _ (htests _ (hk.time _ _ (hf _) hflush))

theorem Kept.finishFrame (s : State) (hs : P s) : P s.finishFrame := by
  unfold State.finishFrame
  split
  · exact hk.judge s _ hs
  · split
    · exact hk.miss s hs
    · exact hs

theorem Kept.receiveBit (s : State) (b later : Bool) (hs : P s) : P (s.receiveBit b later) := by
  have hbit : P (s.finishFrame.setMonitor (s.finishFrame.monitor.takeBit b)) :=
    hk.free _ _ ((onlyIn_setMonitor _ _).mono (by decide)) (hk.finishFrame s hs)
  unfold State.receiveBit
  split
  · exact hs
  · dsimp only
    split
    · exact hbit
    · exact hk.finishFrame _ hbit

theorem Kept.referenceCycle (s : State) (hs : P s) : P s.referenceCycle := by
  unfold State.referenceCycle
  split
  · exact hs
  · split
    · exact hk.tickBoundary s _ _ hs
    · exact hk.time _ _ (.phase _) (forPorts_keeps (hk.timer 1) _ (hk.flushDue s hs))

theorem Kept.powerOn_keeps (s : State) (lines : Lines) : P (s.powerOn lines) := by
  obtain ⟨t, ht, e⟩ := onlyIn_powerOn s lines
  rw [e]
  exact hk.works _ _ _ (hk.powerOn t (ht.mono (by decide)))

/-- Every command keeps the property. -/
theorem Kept.exec (i : Instr) (s t : State) (hs : P s) (h : exec i s = .next t) : P t := by
  cases i with
  | powerOn lines =>
    cases h
    exact hk.powerOn_keeps s lines
  | pornHeldLow =>
    cases h
    refine hk.free s _ (fun k h => ?_) hs
    cases k <;> first | rfl | simp at h
  | tickBoundary lines later => exact running_keeps s _ t hs (hk.tickBoundary s lines later) h
  | secondBoundary lines later =>
    refine running_keeps s _ t hs (fun hs => ?_) h
    split
    · exact hk.tickBoundary s lines later hs
    · exact hs
  | temporaryTrimExpiry | noticeStart _ | noticeExpiry _ | withdrawLimit _ | confirmLimit _
  | timedChangeFire _ | startTaken _ | enterStopped _ | planTakesEffect _ | runCompletion _
  | leadExpiry _ | hangoverExpiry _ | maximumDuration _ | markWatchExpiry | silenceExpiry =>
    exact running_keeps s _ t hs (hk.takeWhen _ _ s) h
  | markEdge =>
    exact running_keeps s _ t hs (fun hs => hk.raise _ _ (hk.time s _ .edge hs)) h
  | candidateComplete =>
    refine running_keeps s _ t hs (fun hs => ?_) h
    split
    · exact hk.judge s _ hs
    · exact hs
  | syncMiss =>
    refine running_keeps s _ t hs (fun hs => ?_) h
    split
    · exact hk.miss s hs
    · exact hs
  | byteReceived p c => exact running_keeps s _ t hs (hk.char s p c) h
  | linkSilenceTimeout p => exact running_keeps s _ t hs (hk.silence s p) h
  | responseSent p lines => exact running_keeps s _ t hs (hk.sent s p lines) h
  | unknownRequest p code rest => exact running_keeps s _ t hs (hk.raw s p code rest) h
  | receivedBit bit later => exact running_keeps s _ t hs (hk.receiveBit s bit later) h
  | _ => exact running_keeps s _ t hs (hk.request s _ _) h

/-- A property that withstands what `Kept` lists is kept by every step. -/
theorem Kept.step (s t : State) (hs : P s) (h : step s = .next t) : P t := by
  unfold Machine.step at h
  split at h
  · cases h
    exact hk.referenceCycle s hs
  · next c rest _ => exact hk.exec c _ t (hk.free _ _ ((onlyIn_pending s rest).mono (by decide)) hs) h

end

/-! ### Properties that do not read the ports -/

/-- The property depends on the parts `rs` alone. -/
def Reads (P : State → Prop) (rs : List Part) : Prop :=
  ∀ s t, (∀ k ∈ rs, t.part k = s.part k) → P s → P t

theorem Reads.of_onlyIn {P : State → Prop} {rs : List Part} (hr : Reads P rs)
    (h : s.OnlyIn t ks) (hd : ∀ k ∈ rs, k ∉ ks) (hs : P s) : P t :=
  hr s t (fun k hk => h k (hd k hk)) hs

/-- What a property that reads the parts `rs` has to withstand: the operations that touch one of them. -/
structure Withstands (P : State → Prop) (rs : List Part) : Prop where
  reads : Reads P rs
  ports : .ports ∉ rs
  unread : ∀ k ∈ rs, k ∉ Part.unread
  reset : P State.reset
  take : ∀ w s, (∃ k ∈ rs, k ∈ (workTouches w)) → P s → P (s.take w)
  time : .time ∈ rs → ∀ s x, s.time.Moves x → P s → P (s.setTime x)
  raise : .attention ∈ rs → ∀ s e, P s → P (s.raise e)
  hear : .slots ∈ rs → ∀ s v, P s → P (s.hearHead v)
  free : .slots ∈ rs ∨ .runs ∈ rs → ∀ s i, P s → P (s.freeAtOnce i)
  handle : ∀ p r s, (∃ k ∈ rs, k ∈ (requestTouches r)) → P s → P (handle p r s).1

section

variable {P : State → Prop} {rs : List Part} (hw : Withstands P rs)

include hw

theorem Withstands.of_onlyIn (h : s.OnlyIn t ks) (hd : ∀ k ∈ rs, k ∉ ks) (hs : P s) : P t :=
  hw.reads.of_onlyIn h hd hs

theorem Withstands.untouched (h : s.OnlyIn t Part.unread) (hs : P s) : P t :=
  hw.of_onlyIn h hw.unread hs

theorem Withstands.onMonitor (s : State) (m : Monitor) (hs : P s) : P (s.setMonitor m) :=
  hw.untouched ((onlyIn_setMonitor s m).mono (by decide)) hs

theorem Withstands.onDue (s : State) (ws : List Work) (hs : P s) : P { s with due := ws } :=
  hw.untouched ((onlyIn_due s ws).mono (by decide)) hs

theorem Withstands.onPorts (h : s.OnlyIn t [.ports]) (hs : P s) : P t :=
  hw.of_onlyIn h (fun _ hk e => hw.ports (List.mem_singleton.1 e ▸ hk)) hs

theorem Withstands.onRaise (s : State) (e : AttnEvent) (hs : P s) : P (s.raise e) := by
  by_cases ha : .attention ∈ rs
  · exact hw.raise ha s e hs
  · exact hw.of_onlyIn (onlyIn_raise s e) (fun k hk e => ha (List.mem_singleton.1 e ▸ hk)) hs

theorem Withstands.onTime (s : State) (x : SiteTime) (hx : s.time.Moves x) (hs : P s) :
    P (s.setTime x) := by
  by_cases ht : .time ∈ rs
  · exact hw.time ht s x hx hs
  · exact hw.of_onlyIn (onlyIn_setTime s x) (fun k hk e => ht (List.mem_singleton.1 e ▸ hk)) hs

theorem Withstands.onTake (w : Work) (s : State) (hs : P s) : P (s.take w) := by
  by_cases hd : ∃ k ∈ rs, k ∈ (workTouches w)
  · exact hw.take w s hd hs
  · exact hw.of_onlyIn (onlyIn_take w s) (fun _ hk e => hd ⟨_, hk, e⟩) hs

theorem Withstands.onHear (s : State) (v : BitVec 48) (hs : P s) : P (s.hearHead v) := by
  by_cases hd : .slots ∈ rs
  · exact hw.hear hd s v hs
  · refine hw.of_onlyIn (onlyIn_hearHead s v) (fun k hk e => ?_) hs
    simp only [List.mem_cons, List.not_mem_nil, or_false] at e
    rcases e with rfl | rfl | rfl
    · exact absurd (by decide) (hw.unread _ hk)
    · exact hd hk
    · exact hw.ports hk

theorem Withstands.onFree (s : State) (i : Nat) (hs : P s) : P (s.freeAtOnce i) := by
  by_cases hd : .slots ∈ rs ∨ .runs ∈ rs
  · exact hw.free hd s i hs
  · refine hw.of_onlyIn (onlyIn_freeAtOnce s i) (fun k hk e => ?_) hs
    simp only [List.mem_cons, List.not_mem_nil, or_false] at e
    rcases e with rfl | rfl | rfl
    · exact hd (.inl hk)
    · exact hd (.inr hk)
    · exact hw.ports hk

theorem Withstands.onLock (s : State) (own : Bool) (hs : P s) : P (s.lockStep own) := by
  unfold State.lockStep State.lockFault
  split
  · exact hw.onMonitor s _ hs
  · split
    · exact hw.onMonitor s _ hs
    · dsimp only
      split
      · exact hw.onRaise _ _ (hw.onMonitor s _ hs)
      · exact hw.onMonitor s _ hs
  · exact hs

theorem Withstands.onVerdict (s : State) (v : Verdict) (hs : P s) : P (s.actOnVerdict v) := by
  have htally : ∀ t f, P t → P (State.tally t f) := fun t f => hw.onMonitor t _
  unfold State.actOnVerdict
  extract_lets t
  have ht : P t := htally s _ hs
  split
  · have hheard := hw.onMonitor t t.monitor.heardOwn ht
    unfold State.actOnOwn State.compareStatus State.compareName
    split
    · exact hw.onHear _ _ hheard
    · repeat' split
      all_goals first | exact hheard | exact htally _ _ hheard
  all_goals exact ht

theorem Withstands.onDiscard (s : State) (p : Port) (hs : P s) : P (s.discard p) :=
  hw.onRaise _ _ (hw.onPorts (onlyIn_setPort s p _) hs)

theorem Withstands.onStray (s : State) (p : Port) (hs : P s) : P (s.strayByte p) := by
  unfold State.strayByte
  split
  · exact hs
  · exact hw.onDiscard _ p (hw.onPorts (onlyIn_setPort s p _) hs)

theorem Withstands.onTimer (k : Nat) (p : Port) (s : State) (hs : P s) : P (timerRun k p s) := by
  unfold timerRun
  split
  · exact hs
  · split
    · exact hw.onDiscard s p hs
    · exact hw.onPorts (onlyIn_setPort s p _) hs

theorem Withstands.onTimeChange (s : State) (f : SiteTime → SiteTime) (hf : ∀ x : SiteTime, x.Moves (f x))
    (hs : P s) : P (s.timeChange f) := by
  have hflush : P s.flushSeconds :=
    hw.onDue _ _ (takeAll_keeps hw.onTake _ s hs)
  have htests : ∀ t, P t → P t.testNotices :=
    forSlots_keeps fun i _ t ht => hw.onTake (.noticeTest i) t ht
  exact hw.onTake .timedFire _ (htests _ (hw.onTime _ _ (hf _) hflush))

theorem Withstands.onHandle (p : Port) (r : Request) (s : State) (hs : P s) :
    P (Machine.handle p r s).1 := by
  cases htime : changesTime r with
  | true =>
    rcases handle_timeChange p r s htime with e | ⟨f, hf, e⟩
    · rw [e]; exact hs
    · rw [e]; exact hw.onTimeChange s f hf hs
  | false =>
    by_cases hd : ∃ k ∈ rs, k ∈ (requestTouches r)
    · exact hw.handle p r s hd hs
    · exact hw.of_onlyIn (onlyIn_handle p r s htime) (fun _ hk e => hd ⟨_, hk, e⟩) hs

theorem Withstands.onAnswered (p : Port) (code : Byte) (a : Answer) (ha : P a.1) :
    P (answered p code a) := by
  unfold answered
  split
  · exact hw.onPorts (onlyIn_send _ p _) ha
  · exact ha

theorem Withstands.onDispatch (s : State) (p : Port) (code : Byte) (r : Option Request) (hs : P s) :
    P (s.dispatch p code r) := by
  refine hw.onAnswered p code _ ?_
  split
  · exact hs
  · split
    · exact hs
    · exact hw.onHandle p _ s hs

theorem Withstands.onTakeFrame (s : State) (p : Port) (f : Frame) (hs : P s) :
    P (s.takeFrame p f) := by
  unfold State.takeFrame
  dsimp only
  split
  · exact hw.onAnswered p _ _ hs
  · exact hw.onDispatch s p _ _ hs

theorem Withstands.onPutWaiting (s : State) (p : Port) (f : Frame) (hs : P s) :
    P (s.putWaiting p f) := by
  unfold State.putWaiting
  split
  · exact hw.onPorts (onlyIn_setPort s p _) hs
  · exact hw.onDiscard s p hs

theorem Withstands.onFrame (s : State) (p : Port) (f : Frame) (hs : P s) :
    P (s.frameArrives p f) := by
  unfold State.frameArrives
  split
  · exact hw.onTakeFrame s p f hs
  · exact hw.onPutWaiting s p f hs

theorem Withstands.onRequest (s : State) (p : Port) (r : Request) (hs : P s) :
    P (s.request p r) := by
  unfold State.request
  split
  · exact hw.onDispatch s p _ _ hs
  · exact hw.onPutWaiting s p _ hs

theorem Withstands.onByte (s : State) (p : Port) (b : Byte) (hs : P s) : P (s.takeByte p b).1 := by
  unfold State.takeByte
  split
  · exact hw.onPorts (onlyIn_setPort s p _) hs
  · exact hw.onStray s p hs
  · exact hw.onDiscard s p hs
  · exact hw.onPorts (onlyIn_setPort s p _) hs

theorem Withstands.onChar (s : State) (p : Port) (c : RxChar) (hs : P s) :
    P (s.receiveChar p c) := by
  unfold State.receiveChar
  split
  · unfold State.framingError
    split
    · exact hw.onStray s p hs
    · exact hw.onDiscard s p hs
  · split
    · exact hw.onByte s p _ hs
    · exact hw.onFrame _ p _ (hw.onByte s p _ hs)

theorem Withstands.onPerform (s : State) (a : Option After) (lines : Lines) (hs : P s) :
    P (s.perform a lines) := by
  unfold State.perform
  split
  · exact hs
  · next q code =>
    unfold State.changeBaud
    dsimp only
    refine hw.onPorts (onlyIn_setPort _ q _) ?_
    split
    · exact hs
    · exact hw.onDiscard s q hs
  · exact forSlots_keeps (fun i _ t ht => hw.onFree t i ht) s hs
  · obtain ⟨t, ht, e⟩ := onlyIn_restartAll s lines
    rw [e]
    have hreset : P t := hw.of_onlyIn ht (fun k hk e => by
      simp only [List.mem_cons, List.not_mem_nil, or_false] at e
      rcases e with rfl | rfl
      · exact hw.ports hk
      · exact hw.unread _ hk (by decide)) hw.reset
    exact hw.onDue _ _ (takeAll_keeps hw.onTake _ t hreset)

theorem Withstands.onBegin (s : State) (p : Port) (hs : P s) : P (s.beginNext p) := by
  unfold State.beginNext
  split
  · exact hs
  · exact hw.onPorts (onlyIn_setPort s p _) hs

theorem Withstands.onSent (s : State) (p : Port) (lines : Lines) (hs : P s) :
    P (s.responseSent p lines) := by
  unfold State.responseSent
  split
  · exact hs
  · next r rest _ =>
    have hperformed := hw.onPerform _ r.next lines
      (hw.onPorts (onlyIn_setPort s p { s.port p with queue := rest }) hs)
    have hnext := hw.onBegin _ p hperformed
    unfold State.takeWaiting
    split
    · split
      · exact hw.onTakeFrame _ p _ (hw.onPorts (onlyIn_setPort _ p _) hnext)
      · exact hnext
    · exact hnext

/-- A property that does not read the ports and withstands what touches its parts is kept. -/
theorem Withstands.kept : Kept P where
  free := fun _ _ h hs => hw.untouched h hs
  powerOn := fun _ h => hw.untouched h hw.reset
  take := hw.onTake
  time := hw.onTime
  raise := hw.onRaise
  judge := fun s _ hs => hw.onMonitor _ _ (hw.onLock _ _ (hw.onVerdict s _ hs))
  miss := fun s hs => hw.onMonitor _ _ (hw.onLock s false hs)
  timer := hw.onTimer
  silence := fun s p hs => by
    unfold State.silenceEnd
    split
    · exact hs
    · exact hw.onDiscard s p hs
  char := hw.onChar
  request := hw.onRequest
  raw := fun s p _ _ hs => hw.onFrame s p _ hs
  sent := hw.onSent

end

end Sys2Proof.Machine
end

section
/-! SUPPORT. The invariants of the location map, the timed changes, the notice limits, site time, the slot
plans, the runs and the identities of the streams, and the reset state: the proofs of
TheResetStateIsSound and EveryStepKeepsClockPlansAndIdentity. -/

namespace Sys2Proof.Machine

/-! ### The reset state -/

theorem State.notice_reset (i : Nat) : State.reset.notice i = none := by
  simp only [State.notice, State.reset, Table.reset, List.getD_eq_getElem?_getD,
    List.getElem?_replicate]
  split <;> rfl

theorem reset_tableSound : State.reset.TableSound :=
  ⟨List.length_replicate, fun i _ _ _ h => by simp [State.notice_reset] at h⟩

theorem reset_carrying : State.reset.Carrying := fun i _ => by
  simp [State.recordsFit, State.carriesRightly, State.notice_reset]

/-- Settles O55: every part of the reset state is a literal, so all but the two statements over the slots
are evaluated; no slot is occupied. -/
theorem theResetStateIsSound : Obligations.TheResetStateIsSound :=
  ⟨reset_tableSound, by decide, reset_carrying, by decide, by decide, by decide, by decide, by decide,
    by decide, by decide, by decide, by decide⟩

/-! ### The location map (02 R34) -/

theorem reads_mapSound : Reads State.MapSound [.map] := by
  intro s t h hs
  have hmap : t.map = s.map := h .map (by simp)
  rw [State.MapSound, hmap]
  exact hs

theorem forall_mem_set {α : Type} {p : α → Prop} {l : List α} (hl : ∀ x ∈ l, p x) (i : Nat)
    (a : α) (ha : p a) : ∀ x ∈ l.set i a, p x :=
  fun _ hx => (List.mem_or_eq_of_mem_set hx).elim (hl _) fun e => e ▸ ha

theorem setRange_keeps_mapSound (entry enabled : Byte) (first last : BitVec 16) (area : Byte)
    (s : State) (hs : s.MapSound) : (handleSetRange entry enabled first last area s).1.MapSound := by
  have hpass : ∀ t : State, t.MapSound → t.rederivePass.1.MapSound := fun t =>
    reads_mapSound.of_onlyIn (onlyIn_rederivePass t) (by decide)
  unfold handleSetRange
  split
  · exact hs
  · split
    · exact hs
    · split
      · exact hs
      · split
        · exact hs
        · dsimp only
          split
          · exact hs
          · refine hpass _ ⟨(List.length_set).trans hs.1, forall_mem_set hs.2 _ _ ?_⟩
            have := last.isLt
            dsimp only
            omega

theorem setDefaultAreas_keeps_mapSound (areas : BitVec 16) (s : State) (hs : s.MapSound) :
    (handleSetDefaultAreas areas s).1.MapSound := by
  unfold handleSetDefaultAreas
  split
  · exact hs
  · exact reads_mapSound.of_onlyIn (onlyIn_rederivePass _) (by decide) (show State.MapSound _ from hs)

theorem mapSound_withstands : Withstands State.MapSound [.map] where
  reads := reads_mapSound
  reset := theResetStateIsSound.2.2.2.1
  ports := by decide
  unread := by decide
  time := by simp
  raise := by simp
  hear := by simp
  free := by simp
  take := fun w s ht _ => by cases w <;> simp [workTouches] at ht
  handle := fun p r s ht hs => by
    cases r <;> simp [requestTouches] at ht
    case setRange => exact setRange_keeps_mapSound _ _ _ _ _ s hs
    case setDefaultAreas => exact setDefaultAreas_keeps_mapSound _ s hs

/-! ### The timed changes (05 R110) -/

/-- What `TimedSound` says of an entry. -/
def TimedEntry.InRange (e : TimedEntry) : Prop :=
  e.target ≤ 4294967295 ∧ (e.period = 0 ∨ 60 ≤ e.period ∧ e.period ≤ 604800)

theorem reads_timedSound : Reads State.TimedSound [.timed] := by
  intro s t h hs
  have htimed : t.store.timed = s.store.timed := h .timed (by simp)
  rw [State.TimedSound, htimed]
  exact hs

theorem TimedEntry.advance_inRange (e : TimedEntry) (now : Nat) (he : e.InRange) :
    (e.advance now).InRange := by
  unfold TimedEntry.advance
  split
  · exact he
  · dsimp only
    split
    · exact he
    · next h => exact ⟨by simpa [Config.maxSeconds] using h, he.2⟩

theorem timedWork_keeps_timedSound (p : Ch) (s : State) (hs : s.TimedSound) :
    (timedWork p s).TimedSound := by
  have hmap : ∀ e ∈ s.store.timed.map fun e =>
      if e.prog = p && e.fires s.time.seconds then e.advance s.time.seconds else e, e.InRange := by
    intro e he
    obtain ⟨e0, he0, rfl⟩ := List.mem_map.1 he
    split
    · exact e0.advance_inRange _ (hs.2 e0 he0)
    · exact hs.2 e0 he0
  unfold timedWork
  extract_lets now store t1 t2
  have h1 : t1.TimedSound := ⟨(List.length_map _).trans hs.1, hmap⟩
  have h2 : t2.TimedSound := by
    dsimp only [t2]
    split
    · exact reads_timedSound.of_onlyIn (onlyIn_raise t1 _) (by decide) h1
    · exact h1
  split
  · exact reads_timedSound.of_onlyIn (onlyIn_makeCurrent t2 p _) (by decide) h2
  · exact h2

theorem setTimed_keeps_timedSound (s : State) (i : Nat) (e : TimedEntry) (he : e.InRange)
    (hs : s.TimedSound) : (s.setTimed i e).TimedSound :=
  ⟨(List.length_set).trans hs.1, forall_mem_set hs.2 i e he⟩

theorem clamp_le {lo hi n : Nat} (h : lo ≤ hi) : lo ≤ clamp lo hi n ∧ clamp lo hi n ≤ hi := by
  unfold clamp
  omega

theorem setTimedChange_keeps_timedSound (entry prog variant : Byte) (target period : BitVec 32)
    (s : State) (hs : s.TimedSound) :
    (handleSetTimedChange entry prog variant target period s).1.TimedSound := by
  unfold handleSetTimedChange
  split
  · exact hs
  · split
    · refine setTimed_keeps_timedSound s _ _ ⟨?_, ?_⟩ hs
      · have := target.isLt
        dsimp only
        omega
      · dsimp only
        split
        · exact .inl rfl
        · exact .inr (clamp_le (by decide))
    · exact hs

theorem clearTimedChange_keeps_timedSound (entry : Byte) (s : State) (hs : s.TimedSound) :
    (handleClearTimedChange entry s).1.TimedSound := by
  unfold handleClearTimedChange
  split
  · exact hs
  · next e he =>
    split
    · exact setTimed_keeps_timedSound s _ _ (hs.2 e (List.mem_of_getElem? he)) hs
    · exact hs

theorem timedSound_withstands : Withstands State.TimedSound [.timed] where
  reads := reads_timedSound
  reset := theResetStateIsSound.2.2.2.2.1
  ports := by decide
  unread := by decide
  time := by simp
  raise := by simp
  hear := by simp
  free := by simp
  take := fun w s ht hs => by
    cases w <;> simp [workTouches] at ht
    case timedFire => exact forChannels_keeps timedWork_keeps_timedSound s hs
  handle := fun p r s ht hs => by
    cases r <;> simp [requestTouches] at ht
    case setTimedChange => exact setTimedChange_keeps_timedSound _ _ _ _ _ s hs
    case clearTimedChange => exact clearTimedChange_keeps_timedSound _ s hs

/-! ### The notice limits (01 R28, 03 R67) -/

theorem reads_limitsSound : Reads State.LimitsSound [.limits] := by
  intro s t h hs
  obtain ⟨hclasses, hcells, hlife, hconfirm⟩ : t.table.classes = s.table.classes ∧
      t.table.withdrawCells = s.table.withdrawCells ∧ t.table.lifetime = s.table.lifetime ∧
      t.table.confirmSecs = s.table.confirmSecs := by
    simpa [State.part] using h .limits (by simp)
  rw [State.LimitsSound, hclasses, hcells, hlife, hconfirm]
  exact hs

theorem setClass_keeps_limitsSound (cls : Byte) (base : BitVec 16) (settle : Byte) (s : State)
    (hs : s.LimitsSound) : (handleSetClass cls base settle s).1.LimitsSound := by
  unfold handleSetClass
  split
  · exact hs
  · next u _ =>
    refine ⟨fun c => ?_, hs.2⟩
    by_cases hc : c = u.ix
    · subst hc
      simp only [State.setTable, Four.get_set_self]
      exact ⟨(clamp_le (by decide)).1, (clamp_le (by decide)).2, (clamp_le (by decide)).2⟩
    · simpa [State.setTable, hc] using hs.1 c

theorem setNoticeLimits_keeps_limitsSound (w : Byte) (lifetime : BitVec 32) (confirm : BitVec 16)
    (s : State) (hs : s.LimitsSound) :
    (handleSetNoticeLimits w lifetime confirm s).1.LimitsSound := by
  have hw := clamp_le (lo := 1) (hi := 8) (n := w.toNat) (by decide)
  have hl := clamp_le (lo := 60) (hi := 86400) (n := lifetime.toNat) (by decide)
  have hc := clamp_le (lo := 5) (hi := 300) (n := confirm.toNat) (by decide)
  exact ⟨hs.1, hw.1, hw.2, hl.1, hl.2, hc⟩

theorem limitsSound_withstands : Withstands State.LimitsSound [.limits] where
  reads := reads_limitsSound
  reset := theResetStateIsSound.2.1
  ports := by decide
  unread := by decide
  time := by simp
  raise := by simp
  hear := by simp
  free := by simp
  take := fun w s ht _ => by cases w <;> simp [workTouches] at ht
  handle := fun p r s ht hs => by
    cases r <;> simp [requestTouches] at ht
    case setClass => exact setClass_keeps_limitsSound _ _ _ s hs
    case setNoticeLimits => exact setNoticeLimits_keeps_limitsSound _ _ _ s hs

/-! ### Site time (07 R141) -/

/-- What `ClockSound` says of site time. -/
def SiteTime.Sound (x : SiteTime) : Prop :=
  x.tickNumber = x.tickCount % Config.ticksPerSecond ∧
    -Config.maxTrim ≤ x.standing ∧ x.standing ≤ Config.maxTrim ∧
    -Config.maxTrim ≤ x.effectiveTrim ∧ x.effectiveTrim ≤ Config.maxTrim ∧
    -Config.residueUnit < x.residue ∧ x.residue < Config.residueUnit ∧
    614277 ≤ x.tickLength ∧ x.tickLength ≤ 614523 ∧ x.seconds ≤ Config.maxSeconds

theorem reads_clockSound : Reads State.ClockSound [.time] := by
  intro s t h hs
  have htime : t.time = s.time := h .time (by simp)
  rw [State.ClockSound, htime]
  exact hs

/-- The trim in force is the standing one, or that of a temporary trim with ticks left. -/
theorem SiteTime.effectiveTrim_eq (x : SiteTime) :
    x.effectiveTrim = match x.temporary with
      | some (v, _ + 1) => v
      | _ => x.standing := by
  unfold SiteTime.effectiveTrim SiteTime.trimNow
  rcases x.temporary with _ | ⟨v, _ | k⟩ <;> rfl

theorem SiteTime.sound_useTrim (x : SiteTime) (hx : x.Sound) : x.useTrim.Sound := by
  obtain ⟨hn, hs1, hs2, he1, he2, hr1, hr2, hl1, hl2, hsec⟩ := hx
  unfold SiteTime.useTrim
  split
  · next v k hk =>
    refine ⟨hn, hs1, hs2, ?_, ?_, hr1, hr2, hl1, hl2, hsec⟩ <;>
      (rw [SiteTime.effectiveTrim_eq] at *
       rcases k with _ | _ | k <;> simp_all)
  · exact ⟨hn, hs1, hs2, he1, he2, hr1, hr2, hl1, hl2, hsec⟩

/-- Division truncated toward zero leaves less than the divisor, on either side of 0. -/
theorem tdiv_bounds (r : Int) (hlo : -12400000000 < r) (hhi : r < 12400000000) :
    -123 ≤ Int.tdiv r 100000000 ∧ Int.tdiv r 100000000 ≤ 123 ∧
      -100000000 < r - Int.tdiv r 100000000 * 100000000 ∧
      r - Int.tdiv r 100000000 * 100000000 < 100000000 := by
  rcases Int.le_total 0 r with h | h
  · rw [Int.tdiv_eq_ediv_of_nonneg h]
    omega
  · have hneg : Int.tdiv r 100000000 = -(-r / 100000000) := by
      rw [← Int.tdiv_eq_ediv_of_nonneg (by omega), Int.neg_tdiv, Int.neg_neg]
    rw [hneg]
    omega

/-- The residue is what the whole cycles taken leave, and a tick is at most 123 cycles away from the
nominal one, since the raised residue is below 124 whole cycles (07 R143). -/
theorem SiteTime.sound_computeLength (x : SiteTime) (hx : x.Sound) : x.computeLength.Sound := by
  obtain ⟨hn, hs1, hs2, he1, he2, hr1, hr2, hl1, hl2, hsec⟩ := hx
  have heff : x.computeLength.effectiveTrim = x.effectiveTrim := rfl
  have hraised : x.raised = x.residue + x.effectiveTrim * 614400 := rfl
  have hlength : x.computeLength.tickLength = (614400 - x.shortening).toNat := rfl
  have hresidue : x.computeLength.residue = x.raised - x.shortening * 100000000 := rfl
  have hshort : x.shortening = Int.tdiv x.raised 100000000 := rfl
  simp only [Config.maxTrim, Config.residueUnit] at *
  have hbounds := tdiv_bounds x.raised (by omega) (by omega)
  rw [← hshort] at hbounds
  refine ⟨hn, hs1, hs2, heff ▸ he1, heff ▸ he2, ?_, ?_, ?_, ?_, hsec⟩ <;>
    simp only [Config.residueUnit, hlength, hresidue] <;> omega

theorem SiteTime.sound_nextTick (x : SiteTime) (hx : x.Sound) : x.nextTick.Sound := by
  refine SiteTime.sound_useTrim _ (SiteTime.sound_computeLength _ ?_)
  obtain ⟨hn, hrest⟩ := hx
  refine ⟨?_, hrest⟩
  simp only [Config.ticksPerSecond] at *
  split <;> omega

theorem SiteTime.sound_boundary (x : SiteTime) (hx : x.Sound) : x.boundary.Sound := by
  have hnext := x.sound_nextTick hx
  unfold SiteTime.boundary
  split
  · obtain ⟨hn, hs1, hs2, he1, he2, hr1, hr2, hl1, hl2, hsec⟩ := hnext
    exact ⟨hn, hs1, hs2, he1, he2, hr1, hr2, hl1, hl2, Nat.min_le_left _ _⟩
  · exact hnext

theorem SiteTime.sound_moves (x y : SiteTime) (h : x.Moves y) (hx : x.Sound) : y.Sound := by
  cases h with
  | boundary => exact x.sound_boundary hx
  | phase k => exact hx
  | edge => exact hx
  | seconds v b hv =>
    obtain ⟨hn, hs1, hs2, he1, he2, hr1, hr2, hl1, hl2, -⟩ := hx
    exact ⟨hn, hs1, hs2, he1, he2, hr1, hr2, hl1, hl2, hv⟩

theorem SiteTime.sound_dropTrim (x : SiteTime) (hx : x.Sound) : x.dropTrim.Sound := by
  have heff := x.effectiveTrim_dropTrim
  obtain ⟨hn, hs1, hs2, he1, he2, hr1, hr2, hl1, hl2, hsec⟩ := hx
  rw [← heff] at he1 he2
  unfold SiteTime.dropTrim at *
  split
  · next h =>
    rw [if_pos h] at he1 he2
    exact ⟨hn, hs1, hs2, he1, he2, hr1, hr2, hl1, hl2, hsec⟩
  · next h =>
    rw [if_neg h] at he1 he2
    exact ⟨hn, hs1, hs2, he1, he2, hr1, hr2, hl1, hl2, hsec⟩

theorem watchWork_keeps_clockSound (s : State) (hs : s.ClockSound) : (watchWork s).ClockSound := by
  unfold watchWork
  split
  · split <;> exact hs
  · exact hs
  · exact hs

theorem clampInt_le {lo hi z : Int} (h : lo ≤ hi) :
    lo ≤ clampInt lo hi z ∧ clampInt lo hi z ≤ hi := by
  unfold clampInt
  omega

theorem setTrim_keeps_clockSound (trim : BitVec 32) (s : State) (hs : s.ClockSound) :
    (handleSetTrim trim s).1.ClockSound := by
  obtain ⟨hn, -, -, he1, he2, hr⟩ := hs
  have hv := clampInt_le (lo := -Config.maxTrim) (hi := Config.maxTrim) (z := trim.toInt) (by decide)
  refine ⟨hn, hv.1, hv.2, ?_, ?_, hr⟩ <;>
    (simp only [handleSetTrim, State.setTime]
     rw [SiteTime.effectiveTrim_eq] at *
     dsimp only
     split <;> simp_all)

theorem trimFor_keeps_clockSound (trim duration : BitVec 32) (s : State) (hs : s.ClockSound) :
    (handleTrimFor trim duration s).1.ClockSound := by
  obtain ⟨hn, hs1, hs2, -, -, hr⟩ := hs
  have hv := clampInt_le (lo := -Config.maxTrim) (hi := Config.maxTrim) (z := trim.toInt) (by decide)
  refine ⟨hn, hs1, hs2, ?_, ?_, hr⟩ <;>
    (simp only [handleTrimFor, State.setTime]
     rw [SiteTime.effectiveTrim_eq]
     dsimp only
     split <;> simp_all)

theorem clockSound_withstands : Withstands State.ClockSound [.time] where
  reads := reads_clockSound
  reset := theResetStateIsSound.2.2.2.2.2.2.2.2.2.1
  ports := by decide
  unread := by decide
  raise := by simp
  hear := by simp
  free := by simp
  take := fun w s ht hs => by
    cases w <;> simp [workTouches] at ht
    case trimExpiry => exact s.time.sound_dropTrim hs
    case markWatch => exact watchWork_keeps_clockSound s hs
  time := fun _ s x hx hs => s.time.sound_moves x hx hs
  handle := fun p r s ht hs => by
    cases r <;> simp [requestTouches] at ht
    case setTrim => exact setTrim_keeps_clockSound _ s hs
    case trimFor => exact trimFor_keeps_clockSound _ _ s hs
    case readMark => exact hs
    case setOffset =>
      simp only [handle, handleSetOffset]
      split <;> exact hs
    case setMarkWatch =>
      simp only [handle, handleSetMarkWatch]
      repeat' split
      all_goals exact hs

end Sys2Proof.Machine
end

section
/-! SUPPORT. The invariants of the slot plans, the runs and the identities of the streams, and the proof of
EveryStepKeepsClockPlansAndIdentity. -/

namespace Sys2Proof

@[simp] theorem Four.set_set {α : Type} (f : Four α) (n : Ch) (a b : α) :
    (f.set n a).set n b = f.set n b := by
  match n with
  | 0 | 1 | 2 | 3 => rfl

end Sys2Proof

namespace Sys2Proof.Machine

variable {s t : State}

/-! ### The slot plans (04 R84) -/

theorem reads_plansValid : Reads State.PlansValid [.plans] := by
  intro s t h hs n
  obtain ⟨hplan, hpending⟩ : (t.stream n).plan = (s.stream n).plan ∧
      (t.stream n).pendingPlan = (s.stream n).pendingPlan := by
    simpa [State.part] using congrFun (h .plans (by simp)) n
  rw [hplan, Stream.pendingValid, hpending]
  exact hs n

theorem setStream_keeps_plansValid (s : State) (n : Ch) (x : Stream)
    (hplan : planValid x.plan = true) (hpending : x.pendingValid = true) (hs : s.PlansValid) :
    (s.setStream n x).PlansValid := by
  intro m
  rw [State.stream_setStream]
  split
  · exact ⟨hplan, hpending⟩
  · exact hs m

theorem takePlan_keeps_plansValid (s : State) (n : Ch) (hs : s.PlansValid) :
    (s.takePlan n).PlansValid := by
  unfold State.takePlan
  split
  · next plan hplan =>
    refine setStream_keeps_plansValid s n _ ?_ rfl hs
    simpa [Stream.pendingValid, hplan] using (hs n).2
  · exact hs

theorem streamWork_keeps_plansValid (n : Ch) (s : State) (hs : s.PlansValid) :
    (streamWork n s).PlansValid := by
  have hplan : ∀ t : State, t.PlansValid → (planStep n t).PlansValid := by
    intro t ht
    unfold planStep
    split
    · exact reads_plansValid.of_onlyIn (onlyIn_testOvercommit _ n) (by decide)
        (takePlan_keeps_plansValid t n ht)
    · exact ht
  refine reads_plansValid.of_onlyIn (onlyIn_cellStep n _) (by decide)
    (reads_plansValid.of_onlyIn (onlyIn_sampleModulator _ n) (by decide) (hplan _ ?_))
  exact reads_plansValid.of_onlyIn (onlyIn_startStep n _) (by decide)
    (reads_plansValid.of_onlyIn (onlyIn_stopStep n s) (by decide) hs)

theorem setPlan_keeps_plansValid (stream : Byte) (codes : List Byte) (s : State)
    (hs : s.PlansValid) : (handleSetPlan stream codes s).1.PlansValid := by
  unfold handleSetPlan
  split
  · exact hs
  · split
    · exact hs
    · split
      · next n _ _ _ hvalid => exact setStream_keeps_plansValid s _ _ (hs _).1 hvalid hs
      · exact hs

theorem plansValid_withstands : Withstands State.PlansValid [.plans] where
  reads := reads_plansValid
  reset := theResetStateIsSound.2.2.2.2.2.2.1
  ports := by decide
  unread := by decide
  time := by simp
  raise := by simp
  hear := by simp
  free := by simp
  take := fun w s ht hs => by
    cases w <;> simp [workTouches] at ht
    case stream n => exact streamWork_keeps_plansValid n s hs
  handle := fun p r s ht hs => by
    cases r <;> simp [requestTouches] at ht
    case setPlan => exact setPlan_keeps_plansValid _ _ s hs

/-! ### The runs (03 R62, R63; 04 R94) -/

theorem reads_runsSound : Reads State.RunsSound [.runs, .states] := by
  intro s t h hs n
  have hrun : (t.stream n).run = (s.stream n).run := congrFun (h .runs (by simp)) n
  have hstate : (t.stream n).state = (s.stream n).state :=
    congrArg Prod.fst (congrFun (h .states (by simp)) n)
  rw [hrun, hstate]
  exact hs n

theorem setStream_keeps_runsSound (s : State) (n : Ch) (x : Stream)
    (hx : x.run ≠ none → x.state = .running) (hs : s.RunsSound) : (s.setStream n x).RunsSound := by
  intro m
  rw [State.stream_setStream]
  split
  · exact hx
  · exact hs m

theorem cutRun_keeps_runsSound (n : Ch) (i : Nat) (s : State) (hs : s.RunsSound) :
    (s.cutRun n i).RunsSound := by
  unfold State.cutRun
  split
  · split
    · exact setStream_keeps_runsSound s n _ (fun h => absurd rfl h) hs
    · exact hs
  · exact hs

theorem superseded_keeps_runsSound (s : State) (i : Nat) (x : Option Notice) (hs : s.RunsSound) :
    (((s.supersede i).cutRuns i).setSlot i x).RunsSound := by
  refine reads_runsSound.of_onlyIn (onlyIn_setSlot _ i x) (by decide) ?_
  exact forChannels_keeps (fun n t => cutRun_keeps_runsSound n i t) _
    (reads_runsSound.of_onlyIn ((onlyPorts_supersede i).onlyIn s) (by decide) hs)

theorem freeAtOnce_keeps_runsSound (s : State) (i : Nat) (hs : s.RunsSound) :
    (s.freeAtOnce i).RunsSound := by
  unfold State.freeAtOnce
  split
  · exact hs
  · exact superseded_keeps_runsSound s i none hs

theorem beginWithdrawal_keeps_runsSound (s : State) (i : Nat) (hs : s.RunsSound) :
    (s.beginWithdrawal i).RunsSound := by
  unfold State.beginWithdrawal
  split
  · exact hs
  · dsimp only
    split <;> exact superseded_keeps_runsSound s i _ hs

theorem reconcile_keeps_runsSound (i : Nat) (n : Ch) (s : State) (hs : s.RunsSound) :
    (s.reconcile i n).RunsSound := by
  have hslot : ∀ x, (s.setSlot i x).RunsSound := fun x =>
    reads_runsSound.of_onlyIn (onlyIn_setSlot s i x) (by decide) hs
  unfold State.reconcile
  split
  · exact hs
  · split
    · split
      · exact hs
      · exact hslot _
    · split
      · exact reads_runsSound.of_onlyIn ((onlyPorts_leaveRemaining i n).onlyIn _) (by decide)
          (cutRun_keeps_runsSound n i _ (hslot _))
      · exact hs

theorem rederivePass_keeps_runsSound (s : State) (hs : s.RunsSound) :
    s.rederivePass.1.RunsSound := by
  have hslot : ∀ i, i < Config.slots → ∀ t : State, t.RunsSound → (rederiveSlot i t).RunsSound := by
    intro i _ t ht
    have hset : ∀ x, (t.setSlot i x).RunsSound := fun x =>
      reads_runsSound.of_onlyIn (onlyIn_setSlot t i x) (by decide) ht
    unfold rederiveSlot
    split
    · exact ht
    · split
      · dsimp only
        split
        · exact forChannels_keeps (fun n u => reconcile_keeps_runsSound i n u) _ (hset _)
        · exact hset _
      · exact ht
  have hall := forSlots_keeps hslot s hs
  rcases s.rederivePass_cases with e | ⟨k, e⟩
  · rw [e]
    exact hall
  · rw [e]
    exact reads_runsSound.of_onlyIn (onlyIn_raise _ (.placement k)) (by decide) hall

theorem reevaluate_keeps_runsSound (s : State) (n : Ch) (hs : s.RunsSound) :
    (s.reevaluate n).RunsSound := by
  refine forSlots_keeps (fun i _ t ht => ?_) s hs
  unfold reevaluateSlot
  split
  · split
    · exact reconcile_keeps_runsSound i n t ht
    · exact ht
  · exact ht

theorem testNotice_keeps_runsSound (i : Nat) (s : State) (hs : s.RunsSound) :
    (testNotice i s).RunsSound := by
  unfold testNotice
  split
  · exact hs
  · split
    · exact reads_runsSound.of_onlyIn (onlyIn_startNotice s i) (by decide) hs
    · split
      · exact beginWithdrawal_keeps_runsSound s i hs
      · exact hs

theorem testWithdrawLimit_keeps_runsSound (i : Nat) (s : State) (hs : s.RunsSound) :
    (testWithdrawLimit i s).RunsSound := by
  unfold testWithdrawLimit
  split
  · exact reads_runsSound.of_onlyIn (onlyIn_setSlot _ i none) (by decide)
      (forChannels_keeps (fun n t => cutRun_keeps_runsSound n i t) s hs)
  · exact hs

theorem enterStopped_keeps_runsSound (s : State) (n : Ch) (hs : s.RunsSound) :
    (s.enterStopped n).RunsSound :=
  reads_runsSound.of_onlyIn (forSlots_onlyIn (onlyIn_discardRecord n) _) (by decide)
    (setStream_keeps_runsSound s n _ (fun h => absurd rfl h) hs)

theorem takeStart_keeps_runsSound (s : State) (n : Ch) (hs : s.RunsSound) :
    (s.takeStart n).RunsSound :=
  reads_runsSound.of_onlyIn (forSlots_onlyIn (onlyIn_startRecord n) _) (by decide)
    (setStream_keeps_runsSound s n _ (fun _ => rfl) hs)

theorem stateOf_storeLevel (s : State) (n : Ch) :
    ((s.storeLevel n).stream n).state = (s.stream n).state := by
  unfold State.storeLevel
  split <;> simp

theorem StreamState.onLevel_running (st : StreamState) (ready : Bool)
    (h : StreamState.onLevel st ready ≠ .paused) (hst : st = .running) :
    StreamState.onLevel st ready = .running := by
  subst hst
  cases ready <;> simp_all [StreamState.onLevel]

/-- A stream that enters PAUSED cuts its run, and one that was RUNNING otherwise stays RUNNING. -/
theorem sampleModulator_keeps_runsSound (s : State) (n : Ch) (hs : s.RunsSound) :
    (s.sampleModulator n).RunsSound := by
  have hlevel : (s.storeLevel n).RunsSound :=
    reads_runsSound.of_onlyIn (onlyIn_storeLevel s n) (by decide) hs
  refine setStream_keeps_runsSound _ n _ ?_ hlevel
  dsimp only
  split
  · exact fun h => absurd rfl h
  · next hp => exact fun h => StreamState.onLevel_running _ _ hp (hlevel n h)

theorem emit_keeps_runsSound (s : State) (n : Ch) (k : Kind) (v : BitVec 48) (hs : s.RunsSound) :
    (s.emit n k v).RunsSound := reads_runsSound.of_onlyIn (onlyIn_emit s n k v) (by decide) hs

theorem completeRun_keeps_runsSound (s : State) (n : Ch) (i head : Nat) (hs : s.RunsSound) :
    (s.completeRun n i head).RunsSound := by
  unfold State.completeRun
  extract_lets x t
  have ht : t.RunsSound := setStream_keeps_runsSound s n _ (fun h => absurd rfl h) hs
  split
  · exact ht
  · split
    · exact ht
    · exact reads_runsSound.of_onlyIn ((onlyPorts_testHeld i n _).onlyIn _) (by decide)
        (reads_runsSound.of_onlyIn (onlyIn_setSlot t i _) (by decide) ht)

/-- On a RUNNING stream the arbiter may leave any run. -/
theorem arbitrate_keeps_runsSound (s : State) (n : Ch) (hn : (s.stream n).state = .running)
    (hs : s.RunsSound) : (s.arbitrate n).RunsSound := by
  have hemit := emit_keeps_runsSound s n
  have hstate : ∀ k v, ((s.emit n k v).stream n).state = .running := fun k v => by
    simpa [State.emit] using hn
  unfold State.arbitrate
  split
  · unfold State.sendRunCell
    split
    · exact hemit _ _ hs
    · dsimp only
      split
      · exact setStream_keeps_runsSound _ n _ (fun _ => hstate _ _) (hemit _ _ hs)
      · exact completeRun_keeps_runsSound _ n _ _ (hemit _ _ hs)
  · split
    · exact reads_runsSound.of_onlyIn (onlyIn_sendWithdraw s n _ _ _) (by decide) hs
    · split
      · exact setStream_keeps_runsSound _ n _ (fun _ => hstate _ _) (hemit _ _ hs)
      · exact hemit _ _ hs

theorem sendCell_keeps_runsSound (s : State) (n : Ch) (hn : (s.stream n).state = .running)
    (hs : s.RunsSound) : (s.sendCell n).RunsSound := by
  have harb := arbitrate_keeps_runsSound s n hn hs
  unfold State.sendCell
  split
  · exact reads_runsSound.of_onlyIn (onlyIn_sendStatus s n) (by decide) hs
  · exact reads_runsSound.of_onlyIn (onlyIn_sendName s n) (by decide) hs
  · split
    · exact reads_runsSound.of_onlyIn (onlyIn_sendLongName s n _) (by decide) hs
    · exact harb
  · split
    · split
      · exact reads_runsSound.of_onlyIn (onlyIn_sendRefer s n _) (by decide) hs
      · exact harb
    · exact harb
  · exact harb

theorem streamWork_keeps_runsSound (n : Ch) (s : State) (hs : s.RunsSound) :
    (streamWork n s).RunsSound := by
  have hstop : (stopStep n s).RunsSound := by
    unfold stopStep
    split
    · exact enterStopped_keeps_runsSound s n hs
    · exact hs
  have hstart : ∀ t : State, t.RunsSound → (startStep n t).RunsSound := by
    intro t ht
    unfold startStep
    split
    · exact takeStart_keeps_runsSound t n ht
    · exact ht
  have hplan : ∀ t : State, t.RunsSound → (planStep n t).RunsSound := fun t =>
    reads_runsSound.of_onlyIn (onlyIn_planStep n t) (by decide)
  have hcell : ∀ t : State, t.RunsSound → (cellStep n t).RunsSound := by
    intro t ht
    unfold cellStep
    split
    · next h => exact sendCell_keeps_runsSound t n h ht
    · exact setStream_keeps_runsSound t n _ (ht n) ht
  exact hcell _ (sampleModulator_keeps_runsSound _ n (hplan _ (hstart _ hstop)))

theorem handleSubmit_keeps_runsSound (p : Port) (a : SubmitArgs) (s : State) (hs : s.RunsSound) :
    (handleSubmit p a s).1.RunsSound := by
  have haccept : ∀ (t : State) i st f d c, t.RunsSound → (t.acceptSubmit p i st f d c).1.RunsSound :=
    fun t i st f d c => reads_runsSound.of_onlyIn (onlyIn_acceptSubmit t p i st f d c) (by decide)
  have hset : ∀ (t : State) i x, t.RunsSound → (t.setSlot i x).RunsSound := fun t i x =>
    reads_runsSound.of_onlyIn (onlyIn_setSlot t i x) (by decide)
  have hraise : ∀ (t : State) e, t.RunsSound → (t.raise e).RunsSound := fun t e =>
    reads_runsSound.of_onlyIn (onlyIn_raise t e) (by decide)
  have hnew : ∀ u, (submitNew p a u s).1.RunsSound := by
    intro u
    unfold submitNew
    split
    · exact hs
    · split
      · exact hs
      · dsimp only
        split
        · exact haccept _ _ _ _ _ _ (hset s _ _ hs)
        · split
          · exact hs
          · next i v _ =>
            exact haccept _ _ _ _ _ _ (hraise _ _ (hset _ _ _ (freeAtOnce_keeps_runsSound s i hs)))
  unfold handleSubmit
  split
  · exact hs
  · split
    · exact hs
    · split
      · exact hnew _
      · split
        · unfold submitExisting
          split
          · exact hs
          · split
            · exact hs
            · split
              · exact hs
              · split
                · exact hs
                · exact haccept _ _ _ _ _ _ (superseded_keeps_runsSound s _ _ hs)
        · exact hnew _

theorem handleWithdraw_keeps_runsSound (p : Port) (number : BitVec 16) (s : State)
    (hs : s.RunsSound) : (handleWithdraw p number s).1.RunsSound := by
  unfold handleWithdraw
  repeat' split
  all_goals first
    | exact hs
    | exact beginWithdrawal_keeps_runsSound s _ hs
    | exact reads_runsSound.of_onlyIn (onlyIn_setSlot _ _ _) (by decide)
        (reads_runsSound.of_onlyIn ((onlyPorts_supersede _).onlyIn s) (by decide) hs)

theorem withdrawAllSlot_keeps_runsSound (p : Port) (i : Nat) (s : State) (hs : s.RunsSound) :
    (withdrawAllSlot p i s).RunsSound := by
  unfold withdrawAllSlot
  repeat' split
  all_goals first
    | exact hs
    | exact beginWithdrawal_keeps_runsSound s _ hs
    | exact reads_runsSound.of_onlyIn (onlyIn_setSlot _ _ _) (by decide)
        (reads_runsSound.of_onlyIn ((onlyPorts_supersede _).onlyIn s) (by decide) hs)

theorem applyProgramme_keeps_runsSound (s : State) (p : Ch) (code : BitVec 16) (cov : AreaSet)
    (on : Bool) (y : Option Ch) (hs : s.RunsSound) : (s.applyProgramme p code cov on y).RunsSound := by
  unfold State.applyProgramme
  extract_lets old t1 t2 t3
  have h1 : t1.RunsSound := hs
  have h2 : t2.RunsSound := by
    dsimp only [t2]
    split
    · exact h1
    · exact reevaluate_keeps_runsSound t1 p h1
  have h3 : t3.RunsSound := by
    dsimp only [t3]
    split
    · exact h2
    · exact reads_runsSound.of_onlyIn (onlyIn_carriesChanged t2 p on) (by decide) h2
  split
  · exact h3
  · exact h3

theorem handleStopStream_keeps_runsSound (stream : Byte) (s : State) (hs : s.RunsSound) :
    (handleStopStream stream s).1.RunsSound := by
  unfold handleStopStream
  split
  · exact hs
  · dsimp only
    split
    case h_1 | h_2 => exact setStream_keeps_runsSound s _ _ (fun h => absurd rfl h) hs
    all_goals
      split
      · exact setStream_keeps_runsSound s _ _ (hs _) hs
      · exact hs

theorem handleStartStream_keeps_runsSound (stream : Byte) (s : State) (hs : s.RunsSound) :
    (handleStartStream stream s).1.RunsSound := by
  have hset : ∀ n, (s.setStream n { s.stream n with startPending := true }).RunsSound := fun n =>
    setStream_keeps_runsSound s n _ (hs n) hs
  unfold handleStartStream
  split
  · exact hs
  · dsimp only
    repeat' split
    all_goals first | exact hs | exact hset _

theorem runsSound_withstands : Withstands State.RunsSound [.runs, .states] where
  reads := reads_runsSound
  reset := theResetStateIsSound.2.2.2.2.2.1
  ports := by decide
  unread := by decide
  time := by simp
  raise := by simp
  hear := by simp
  take := fun w s ht hs => by
    cases w <;> simp [workTouches] at ht
    case noticeTest i => exact testNotice_keeps_runsSound i s hs
    case stream n => exact streamWork_keeps_runsSound n s hs
    case withdrawLimit i => exact testWithdrawLimit_keeps_runsSound i s hs
  free := fun _ s i hs => freeAtOnce_keeps_runsSound s i hs
  handle := fun p r s ht hs => by
    cases r <;> simp [requestTouches] at ht
    case submit => exact handleSubmit_keeps_runsSound p _ s hs
    case withdraw => exact handleWithdraw_keeps_runsSound p _ s hs
    case withdrawAll =>
      simp only [handle, handleWithdrawAll]
      exact forSlots_keeps (fun i _ t => withdrawAllSlot_keeps_runsSound p i t) s hs
    case purge =>
      simp only [handle, handlePurge]
      repeat' split
      all_goals first | exact hs | exact freeAtOnce_keeps_runsSound s _ hs
    case setRange =>
      simp only [handle, handleSetRange]
      repeat' split
      all_goals first | exact hs | exact rederivePass_keeps_runsSound _ hs
    case setDefaultAreas =>
      simp only [handle, handleSetDefaultAreas]
      split
      · exact hs
      · exact rederivePass_keeps_runsSound _ hs
    case setProgramme =>
      simp only [handle, handleSetProgramme]
      repeat' split
      all_goals first | exact hs | exact applyProgramme_keeps_runsSound s _ _ _ _ _ hs
    case startStream => exact handleStartStream_keeps_runsSound _ s hs
    case stopStream => exact handleStopStream_keeps_runsSound _ s hs

/-! ### Programme codes and current names (04 R91; 05 R101, R103) -/

theorem reads_identified : Reads State.Identified [.names, .states] := by
  intro s t h hs n
  obtain ⟨hcode, hvariants, hcurrent⟩ : (t.prog n).code = (s.prog n).code ∧
      (t.prog n).variants = (s.prog n).variants ∧ (t.prog n).current = (s.prog n).current := by
    simpa [State.part] using congrFun (h .names (by simp)) n
  obtain ⟨hstate, hpending⟩ : (t.stream n).state = (s.stream n).state ∧
      (t.stream n).startPending = (s.stream n).startPending := by
    simpa [State.part] using congrFun (h .states (by simp)) n
  have hs := hs n
  rw [State.streamInUse, Programme.currentNames, Programme.noNames] at hs ⊢
  rw [hcode, hvariants, hcurrent, hstate, hpending]
  exact hs

theorem State.streamInUse_iff (s : State) (n : Ch) :
    s.streamInUse n = true ↔ (s.stream n).state ≠ .stopped ∨ (s.stream n).startPending = true := by
  simp [State.streamInUse]

/-- A stream written so that it is in use only where it was, or where its programme is identified. -/
theorem setStream_keeps_identified (s : State) (n : Ch) (x : Stream)
    (hx : x.state ≠ .stopped ∨ x.startPending = true →
      s.streamInUse n = true ∨ ((s.prog n).code ≠ 0#16 ∧ (s.prog n).currentNames ≠ none))
    (hs : s.Identified) : (s.setStream n x).Identified := by
  intro m
  refine ⟨fun hm => ?_, (hs m).2⟩
  rw [State.streamInUse_iff, State.stream_setStream] at hm
  by_cases e : m = n
  · subst e
    rw [if_pos rfl] at hm
    exact (hx hm).elim (hs m).1 id
  · rw [if_neg e] at hm
    exact (hs m).1 ((s.streamInUse_iff m).2 hm)

/-- A programme written so that it stays identified where its stream is in use. -/
theorem setProg_keeps_identified (s : State) (p : Ch) (g : Programme)
    (huse : s.streamInUse p = true → g.code ≠ 0#16 ∧ g.currentNames ≠ none)
    (hnames : g.currentNames = none → g.noNames = true) (hs : s.Identified) :
    (s.setProg p g).Identified := by
  intro m
  rw [State.prog_setProg]
  split
  · next e => subst e; exact ⟨huse, hnames⟩
  · exact hs m

theorem streamWork_keeps_identified (n : Ch) (s : State) (hs : s.Identified) :
    (streamWork n s).Identified := by
  have hstop : (stopStep n s).Identified := by
    unfold stopStep
    split
    · next h =>
      refine reads_identified.of_onlyIn (forSlots_onlyIn (onlyIn_discardRecord n) _) (by decide) ?_
      exact setStream_keeps_identified s n _
        (fun _ => .inl ((s.streamInUse_iff n).2 (.inl (by simp [h])))) hs
    · exact hs
  have hstart : ∀ t : State, t.Identified → (startStep n t).Identified := by
    intro t ht
    unfold startStep
    split
    · next h =>
      refine reads_identified.of_onlyIn (forSlots_onlyIn (onlyIn_startRecord n) _) (by decide) ?_
      exact setStream_keeps_identified t n _ (fun _ => .inl ((t.streamInUse_iff n).2 (.inr h.1))) ht
    · exact ht
  have hsample : ∀ t : State, t.Identified → (t.sampleModulator n).Identified := by
    intro t ht
    have hlevel := reads_identified.of_onlyIn (onlyIn_storeLevel t n) (by decide) ht
    refine setStream_keeps_identified _ n _ (fun h => .inl ?_) hlevel
    rw [State.streamInUse_iff]
    refine h.imp_left fun h e => h ?_
    simp only [e, StreamState.onLevel]
  refine reads_identified.of_onlyIn (onlyIn_cellStep n _) (by decide) (hsample _ ?_)
  exact reads_identified.of_onlyIn (onlyIn_planStep n _) (by decide) (hstart _ hstop)

/-- A variant that is not empty made current. -/
theorem makeCurrent_keeps_identified (s : State) (p v : Ch)
    (hv : (s.prog p).variants.get v ≠ none) (hs : s.Identified) : (s.makeCurrent p v).Identified :=
  reads_identified.of_onlyIn (onlyIn_nameEvent _ p) (by decide)
    (setProg_keeps_identified s p _ (fun h => ⟨((hs p).1 h).1, hv⟩) (fun h => absurd h hv) hs)

theorem State.firedVariant_nonempty (s : State) (p v : Ch) (h : s.firedVariant p = some v) :
    (s.prog p).variants.get v ≠ none := by
  obtain ⟨e, he, rfl⟩ := Option.map_eq_some_iff.1 h
  have hmem := List.mem_of_getLast? he
  simp only [List.mem_filter, State.firing, Bool.and_eq_true, decide_eq_true_eq,
    Bool.not_eq_true', State.namesEmpty, Option.isNone_eq_false_iff] at hmem
  obtain ⟨⟨-, rfl, -⟩, hsome⟩ := hmem
  exact Option.ne_none_iff_isSome.2 hsome

theorem timedWork_keeps_identified (p : Ch) (s : State) (hs : s.Identified) :
    (timedWork p s).Identified := by
  unfold timedWork
  extract_lets now store t1 t2
  have hprog : t2.prog p = s.prog p := by
    dsimp only [t2]
    split <;> rfl
  have h1 : t1.Identified := hs
  have h2 : t2.Identified := by
    dsimp only [t2]
    split
    · exact reads_identified.of_onlyIn (onlyIn_raise t1 _) (by decide) h1
    · exact h1
  split
  · next v hv =>
    exact makeCurrent_keeps_identified t2 p v (hprog ▸ s.firedVariant_nonempty p v hv) h2
  · exact h2

theorem Programme.noNames_iff (g : Programme) :
    g.noNames = true ↔ ∀ v, g.variants.get v = none := by
  simp only [Programme.noNames, Four.toList, List.all_cons, List.all_nil, Bool.and_true,
    Bool.and_eq_true, Option.isNone_iff_eq_none]
  constructor
  · rintro ⟨a, b, c, d⟩ v
    match v with
    | 0 => exact a
    | 1 => exact b
    | 2 => exact c
    | 3 => exact d
  · exact fun h => ⟨h 0, h 1, h 2, h 3⟩

/-- The first name written becomes current; a later one leaves the current variant, not empty. -/
theorem writeVariant_keeps_identified (s : State) (p v : Ch) (x : Names) (hs : s.Identified) :
    (s.writeVariant p v x).Identified := by
  have hself : ((s.prog p).variants.set v (some x)).get v ≠ none := by simp
  unfold State.writeVariant
  dsimp only
  split
  · refine reads_identified.of_onlyIn (onlyIn_nameEvent _ p) (by decide) ?_
    have hset : ∀ g h : Programme, (s.setProg p g).setProg p h = s.setProg p h := by
      intro g h
      simp only [State.setProg, Four.set_set]
    rw [hset, State.prog_setProg_self]
    exact setProg_keeps_identified s p _ (fun h => ⟨((hs p).1 h).1, hself⟩) (fun h => absurd h hself)
      hs
  · next hnames =>
    have hcurrent : (s.prog p).currentNames ≠ none := fun h => hnames ((hs p).2 h)
    have hkept : ((s.prog p).variants.set v (some x)).get (s.prog p).current ≠ none := by
      by_cases e : (s.prog p).current = v
      · rw [e]; exact hself
      · rwa [Four.get_set_ne _ _ _ _ e]
    have hset := setProg_keeps_identified s p
      { s.prog p with variants := (s.prog p).variants.set v (some x) }
      (fun h => ⟨((hs p).1 h).1, hkept⟩) (fun h => absurd h hkept) hs
    split
    · exact reads_identified.of_onlyIn (onlyIn_nameEvent _ p) (by decide) hset
    · exact hset

theorem handleSetName_keeps_identified (prog variant : Byte) (short long : List Byte) (s : State)
    (hs : s.Identified) : (handleSetName prog variant short long s).1.Identified := by
  unfold handleSetName
  split
  · next p v _ _ =>
    split
    · unfold setNameClear
      dsimp only
      split
      · exact hs
      · split
        · exact hs
        · next hv _ =>
          have hget : ((s.prog p).variants.set v none).get (s.prog p).current =
              (s.prog p).currentNames := Four.get_set_ne _ _ _ _ (Ne.symm hv)
          refine setProg_keeps_identified s p _ (fun h => ⟨((hs p).1 h).1, ?_⟩) (fun h => ?_) hs
          · exact hget.trans_ne ((hs p).1 h).2
          · have hall := (Programme.noNames_iff _).1 ((hs p).2 (hget.symm.trans h))
            refine (Programme.noNames_iff _).2 fun w => ?_
            by_cases e : w = v
            · subst e; exact Four.get_set_self _ _ _
            · exact (Four.get_set_ne _ _ _ _ e).trans (hall w)
    · exact writeVariant_keeps_identified s p v _ hs
  · exact hs

theorem applyProgramme_keeps_identified (s : State) (p : Ch) (code : BitVec 16) (cov : AreaSet)
    (on : Bool) (y : Option Ch) (hcode : s.streamInUse p = true → code ≠ 0#16) (hs : s.Identified) :
    (s.applyProgramme p code cov on y).Identified := by
  unfold State.applyProgramme
  extract_lets old t1 t2 t3
  have h1 : t1.Identified :=
    setProg_keeps_identified s p _ (fun h => ⟨hcode h, ((hs p).1 h).2⟩) (hs p).2 hs
  have h2 : t2.Identified := by
    dsimp only [t2]
    split
    · exact h1
    · exact reads_identified.of_onlyIn (onlyIn_reevaluate t1 p) (by decide) h1
  have h3 : t3.Identified := by
    dsimp only [t3]
    split
    · exact h2
    · exact reads_identified.of_onlyIn (onlyIn_carriesChanged t2 p on) (by decide) h2
  split
  · exact h3
  · exact h3

theorem handleSetProgramme_keeps_identified (prog : Byte) (code coverage : BitVec 16)
    (carries target : Byte) (s : State) (hs : s.Identified) :
    (handleSetProgramme prog code coverage carries target s).1.Identified := by
  unfold handleSetProgramme
  split
  · exact hs
  · split
    · exact hs
    · split
      · exact hs
      · split
        · exact hs
        · split
          · exact hs
          · next hcode =>
            split
            · exact hs
            · exact applyProgramme_keeps_identified s _ _ _ _ _ (fun h e => hcode ⟨e, h⟩) hs

theorem handleStartStream_keeps_identified (stream : Byte) (s : State) (hs : s.Identified) :
    (handleStartStream stream s).1.Identified := by
  unfold handleStartStream
  split
  · exact hs
  · next n _ =>
    dsimp only
    split
    · exact hs
    · exact hs
    · next hstate =>
      split
      · exact hs
      · exact setStream_keeps_identified s n _
          (fun _ => .inl ((s.streamInUse_iff n).2 (.inl (by simp [hstate])))) hs
    · split
      · exact hs
      · next hready =>
        split
        · exact hs
        · exact setStream_keeps_identified s n _ (fun _ => .inr (not_or.1 hready)) hs

theorem handleStopStream_keeps_identified (stream : Byte) (s : State) (hs : s.Identified) :
    (handleStopStream stream s).1.Identified := by
  unfold handleStopStream
  split
  · exact hs
  · next n _ =>
    dsimp only
    split
    case h_1 hstate | h_2 hstate =>
      exact setStream_keeps_identified s n _
        (fun _ => .inl ((s.streamInUse_iff n).2 (.inl (by simp [hstate])))) hs
    all_goals
      split
      · next hpending =>
        exact setStream_keeps_identified s n _
          (fun _ => .inl ((s.streamInUse_iff n).2 (.inr hpending))) hs
      · exact hs

theorem identified_withstands : Withstands State.Identified [.names, .states] where
  reads := reads_identified
  reset := theResetStateIsSound.2.2.2.2.2.2.2.1
  ports := by decide
  unread := by decide
  time := by simp
  raise := by simp
  hear := by simp
  free := by simp
  take := fun w s ht hs => by
    cases w <;> simp [workTouches] at ht
    case timedFire => exact forChannels_keeps timedWork_keeps_identified s hs
    case stream n => exact streamWork_keeps_identified n s hs
  handle := fun p r s ht hs => by
    cases r <;> simp [requestTouches] at ht
    case setProgramme => exact handleSetProgramme_keeps_identified _ _ _ _ _ s hs
    case setName => exact handleSetName_keeps_identified _ _ _ _ s hs
    case selectName =>
      simp only [handle, handleSelectName]
      split
      · split
        · exact hs
        · next h => exact makeCurrent_keeps_identified s _ _ (by simp [h]) hs
      · exact hs
    case startStream => exact handleStartStream_keeps_identified _ s hs
    case stopStream => exact handleStopStream_keeps_identified _ s hs

/-- Settles O59: each of the six properties withstands the operations that touch what it reads. -/
theorem everyStepKeepsClockPlansAndIdentity : Obligations.EveryStepKeepsClockPlansAndIdentity :=
  ⟨fun s t => clockSound_withstands.kept.step s t, fun s t => plansValid_withstands.kept.step s t,
    fun s t => runsSound_withstands.kept.step s t, fun s t => mapSound_withstands.kept.step s t,
    fun s t => timedSound_withstands.kept.step s t, fun s t => identified_withstands.kept.step s t⟩

end Sys2Proof.Machine
end

section
/-! SUPPORT. The announcement records (06 R118, R120, R121): what each operation on one record keeps, and
the proof of EveryStepKeepsTheAnnouncements. -/

namespace Sys2Proof.Machine

variable {s t : State}

/-! ### One record -/

/-- What `AnnounceSound` says of a record whose programme has the given carries-traffic flag, but for its
cue level's terms. -/
structure Announce.Shaped (a : Announce) (carries : Bool) : Prop where
  lead : a.state ≠ .leading → a.leadCtr = 0
  hang : a.state ≠ .hanging → a.hangCtr = 0
  quiet : carries = false → a.state = .quiet ∧ a.linkCue = false ∧ a.cueLevel = false

/-- What `AnnounceSound` says of a record. -/
structure Announce.Sound (a : Announce) (carries : Bool) : Prop extends a.Shaped carries where
  level : a.cueLevel = a.cueTerm carries

theorem announceSound_iff (s : State) :
    s.AnnounceSound ↔ ∀ p, (s.ann p).Sound (s.prog p).carries :=
  forall_congr' fun _ => ⟨fun ⟨h1, h2, h3, h4⟩ => ⟨⟨h1, h2, h3⟩, h4⟩,
    fun h => ⟨h.lead, h.hang, h.quiet, h.level⟩⟩

variable {a : Announce} {carries : Bool}

@[simp] theorem Announce.cueTerm_false (a : Announce) : a.cueTerm false = false := rfl

/-- The closing counter is of no account. -/
theorem Announce.Sound.withClosing (h : a.Sound carries) (k : Nat) :
    ({ a with closing := k } : Announce).Sound carries := ⟨⟨h.lead, h.hang, h.quiet⟩, h.level⟩

theorem Announce.shaped_enterOnAir (b : Bulletin) (h : a.Shaped true) (hn : a.state ≠ .hanging) :
    (a.enterOnAir b).Shaped true :=
  ⟨fun _ => rfl, fun _ => h.hang hn, nofun⟩

theorem Announce.shaped_rise (b : Bulletin) (h : a.Shaped true) : (a.rise b).Shaped true := by
  unfold Announce.rise
  split
  · next hs =>
    split
    · exact Announce.shaped_enterOnAir b h (by simp [hs])
    · exact ⟨fun hn => absurd rfl hn, fun _ => h.hang (by simp [hs]), nofun⟩
  · next hs => exact ⟨fun _ => h.lead (by simp [hs]), fun _ => rfl, nofun⟩
  all_goals exact h

theorem Announce.shaped_fall (h : a.Shaped true) : a.fall.Shaped true := by
  unfold Announce.fall
  split
  · next hs => exact ⟨fun _ => rfl, fun _ => h.hang (by simp [hs]), nofun⟩
  · next hs =>
    split
    · exact ⟨fun _ => h.lead (by simp [hs]), fun _ => h.hang (by simp [hs]), nofun⟩
    · exact ⟨fun _ => h.lead (by simp [hs]), fun hn => absurd rfl hn, nofun⟩
  · next hs => exact ⟨fun _ => h.lead (by simp [hs]), fun _ => h.hang (by simp [hs]), nofun⟩
  all_goals exact h

/-- A rise or fall leaves the terms of the cue level, and the cue level, as they were. -/
theorem Announce.cueTerm_rise (a : Announce) (b : Bulletin) (carries : Bool) :
    (a.rise b).cueTerm carries = a.cueTerm carries ∧ (a.rise b).cueLevel = a.cueLevel := by
  unfold Announce.rise
  split
  · split <;> exact ⟨rfl, rfl⟩
  all_goals exact ⟨rfl, rfl⟩

theorem Announce.cueTerm_fall (a : Announce) (carries : Bool) :
    a.fall.cueTerm carries = a.cueTerm carries ∧ a.fall.cueLevel = a.cueLevel := by
  unfold Announce.fall
  split
  · exact ⟨rfl, rfl⟩
  · split <;> exact ⟨rfl, rfl⟩
  all_goals exact ⟨rfl, rfl⟩

/-- A recomputed cue level is its terms' (06 R120); without carries-traffic it was low already. -/
theorem Announce.sound_recompute (b : Bulletin) (h : a.Shaped carries) :
    (a.recompute carries b).Sound carries := by
  unfold Announce.recompute
  dsimp only
  split
  · next hsame => exact ⟨h, hsame.symm⟩
  · next hdiff =>
    cases carries with
    | false => exact absurd (h.quiet rfl).2.2.symm hdiff
    | true =>
      split
      · next hlevel =>
        refine ⟨Announce.shaped_rise b ⟨h.lead, h.hang, nofun⟩, ?_⟩
        obtain ⟨hterm, hcue⟩ := Announce.cueTerm_rise { a with cueLevel := true } b true
        rw [hterm, hcue]
        exact hlevel.symm
      · next hlevel =>
        refine ⟨Announce.shaped_fall ⟨h.lead, h.hang, nofun⟩, ?_⟩
        obtain ⟨hterm, hcue⟩ := Announce.cueTerm_fall { a with cueLevel := false } true
        rw [hterm, hcue]
        exact (Bool.eq_false_iff.2 hlevel).symm

theorem Announce.sound_sampleLine (found : Bool) (b : Bulletin) (h : a.Sound carries) :
    (a.sampleLine found carries b).Sound carries := by
  unfold Announce.sampleLine
  split
  · exact Announce.sound_recompute b ⟨h.lead, h.hang, h.quiet⟩
  · exact ⟨⟨h.lead, h.hang, h.quiet⟩, h.level⟩

theorem Announce.sound_countDown (b : Bulletin) (h : a.Sound carries) :
    (a.countDown b).Sound carries := by
  have hcarries : a.state ≠ .quiet → carries = true := fun hn =>
    Bool.not_eq_false _ ▸ fun hc => hn (h.quiet hc).1
  unfold Announce.countDown
  split
  · next hs =>
    cases hcarries (by simp [hs])
    split
    · exact ⟨Announce.shaped_enterOnAir b h.toShaped (by simp [hs]), h.level⟩
    · exact ⟨⟨fun hn => absurd hs hn, fun _ => h.hang (by simp [hs]), nofun⟩, h.level⟩
  · next hs =>
    cases hcarries (by simp [hs])
    split
    · exact ⟨⟨fun _ => h.lead (by simp [hs]), fun _ => rfl, nofun⟩, h.level⟩
    · exact ⟨⟨fun _ => h.lead (by simp [hs]), fun hn => absurd hs hn, nofun⟩, h.level⟩
  all_goals exact h

theorem Announce.sound_boundary (found : Bool) (b : Bulletin) (h : a.Sound carries) :
    (a.boundary found carries b).Sound carries := by
  have hsample := Announce.sound_sampleLine found b h
  unfold Announce.boundary
  dsimp only
  split
  · exact Announce.sound_countDown b hsample
  · exact hsample

theorem Announce.flag_iff (a : Announce) : a.flag = true ↔ a.state = .onAir ∨ a.state = .hanging := by
  unfold Announce.flag
  split <;> simp_all

theorem Announce.flag_of_limitReached {now : Nat} (h : a.limitReached now = true) : a.flag = true :=
  (Bool.and_eq_true_iff.1 h).1

/-- A bulletin that overruns ends BARRED or QUIET, with carries-traffic set (06 R126). -/
theorem Announce.sound_overrun (h : a.Sound carries) (hf : a.flag = true) :
    a.overrun.Sound carries := by
  have hair := a.flag_iff.1 hf
  have hcarries : carries = true :=
    Bool.not_eq_false _ ▸ fun hc => by simp [(h.quiet hc).1] at hair
  subst hcarries
  refine ⟨⟨fun _ => h.lead ?_, fun _ => rfl, nofun⟩, h.level⟩
  rcases hair with e | e <;> simp [e]

theorem Announce.sound_withCue (h : a.Sound carries) (src : CueSource) (l hg m : Nat)
    (b : Bulletin) :
    (if a.source = src then a.withCue src l hg m
      else (a.withCue src l hg m).recompute carries b).Sound carries := by
  split
  · next hsrc =>
    refine ⟨⟨h.lead, h.hang, h.quiet⟩, h.level.trans ?_⟩
    simp only [Announce.cueTerm, Announce.withCue, hsrc]
  · exact Announce.sound_recompute b ⟨h.lead, h.hang, h.quiet⟩

/-! ### All four records -/

theorem reads_announceSound : Reads State.AnnounceSound [.announce, .cover] := by
  intro s t h hs p
  have hann : t.ann p = s.ann p := by
    rw [State.ann, show t.announce = s.announce from h .announce (by simp)]
    rfl
  have hcarries : (t.prog p).carries = (s.prog p).carries :=
    congrArg Prod.snd (congrFun (h .cover (by simp)) p)
  rw [hann, hcarries]
  exact hs p

@[simp] theorem State.prog_putAnn (s : State) (p : Ch) (a : Announce) (q : Ch) :
    (s.putAnn p a).prog q = s.prog q := by
  rw [State.putAnn_eq]
  rfl

theorem setAnn_keeps_announceSound (s : State) (p : Ch) (a : Announce)
    (ha : a.Sound (s.prog p).carries)
    (hs : ∀ q, q ≠ p → (s.ann q).Sound (s.prog q).carries) : (s.setAnn p a).AnnounceSound := by
  rw [announceSound_iff]
  intro q
  by_cases e : q = p
  · subst e
    simpa using ha
  · simpa [e] using hs q e

/-- A sound record put, where the other three are sound. -/
theorem putAnn_keeps_announceSound (s : State) (p : Ch) (a : Announce)
    (ha : a.Sound (s.prog p).carries)
    (hs : ∀ q, q ≠ p → (s.ann q).Sound (s.prog q).carries) : (s.putAnn p a).AnnounceSound := by
  rw [announceSound_iff]
  intro q
  rw [State.putAnn_ann, State.prog_putAnn]
  refine Announce.Sound.withClosing ?_ _
  split
  · next e => exact e ▸ ha
  · next e => exact hs q e

theorem overrunAt_keeps_announceSound (s : State) (p : Ch) (hf : (s.ann p).flag = true)
    (hs : s.AnnounceSound) : (s.overrunAt p).AnnounceSound := by
  have hall := (announceSound_iff s).1 hs
  exact reads_announceSound.of_onlyIn (onlyIn_raise _ (.overrun p)) (by decide)
    (putAnn_keeps_announceSound s p _ (Announce.sound_overrun (hall p) hf) fun q _ => hall q)

theorem announceWork_keeps_announceSound (p : Ch) (s : State) (hs : s.AnnounceSound) :
    (announceWork p s).AnnounceSound := by
  have hall := (announceSound_iff s).1 hs
  have hput := putAnn_keeps_announceSound s p _
    (Announce.sound_boundary (s.cueFound p) s.bulletinNow (hall p)) fun q _ => hall q
  unfold announceWork
  dsimp only
  split
  · next h => exact overrunAt_keeps_announceSound _ p (Announce.flag_of_limitReached h) hput
  · exact hput

theorem sendRefer_keeps_announceSound (s : State) (x y : Ch) (hs : s.AnnounceSound) :
    (s.sendRefer x y).AnnounceSound := by
  have hemit : ∀ k v, (s.emit x k v).AnnounceSound := fun k v =>
    reads_announceSound.of_onlyIn (onlyIn_emit s x k v) (by decide) hs
  unfold State.sendRefer State.reportRefer
  split
  · exact hemit _ _
  · have hall := (announceSound_iff _).1 (hemit .refer
      (referPayload (s.prog y).code (s.ann y).flag (s.prog y).carries))
    exact setAnn_keeps_announceSound _ x _ ((hall x).withClosing _) fun q _ => hall q

theorem sendCell_keeps_announceSound (s : State) (n : Ch) (hs : s.AnnounceSound) :
    (s.sendCell n).AnnounceSound := by
  have harb := reads_announceSound.of_onlyIn (onlyIn_arbitrate s n) (by decide) hs
  unfold State.sendCell
  split
  · exact reads_announceSound.of_onlyIn (onlyIn_sendStatus s n) (by decide) hs
  · exact reads_announceSound.of_onlyIn (onlyIn_sendName s n) (by decide) hs
  · split
    · exact reads_announceSound.of_onlyIn (onlyIn_sendLongName s n _) (by decide) hs
    · exact harb
  · split
    · split
      · exact sendRefer_keeps_announceSound s n _ hs
      · exact harb
    · exact harb
  · exact harb

theorem streamWork_keeps_announceSound (n : Ch) (s : State) (hs : s.AnnounceSound) :
    (streamWork n s).AnnounceSound := by
  have hbefore : (s.beforeCell n).AnnounceSound := by
    refine reads_announceSound.of_onlyIn (onlyIn_sampleModulator _ n) (by decide) ?_
    refine reads_announceSound.of_onlyIn (onlyIn_planStep n _) (by decide) ?_
    exact reads_announceSound.of_onlyIn (onlyIn_startStep n _) (by decide)
      (reads_announceSound.of_onlyIn (onlyIn_stopStep n s) (by decide) hs)
  change (cellStep n (s.beforeCell n)).AnnounceSound
  unfold cellStep
  split
  · exact sendCell_keeps_announceSound _ n hbefore
  · exact hbefore

theorem applyCue_keeps_announceSound (s : State) (p : Ch) (src : CueSource) (l h m : Nat)
    (hs : s.AnnounceSound) : (s.applyCue p src l h m).AnnounceSound := by
  have hall := (announceSound_iff s).1 hs
  have hput := putAnn_keeps_announceSound s p _
    (Announce.sound_withCue (hall p) src l h m s.bulletinNow) fun q _ => hall q
  unfold State.applyCue
  extract_lets old a t
  change t.AnnounceSound at hput
  split
  · next hlimit =>
    exact overrunAt_keeps_announceSound t p (Announce.flag_of_limitReached hlimit.2) hput
  · exact hput

/-- With carries-traffic set, the link cue may be either way. -/
theorem handleLinkCue_keeps_announceSound (prog : Byte) (on : Bool) (s : State)
    (hs : s.AnnounceSound) : (handleLinkCue prog on s).1.AnnounceSound := by
  have hall := (announceSound_iff s).1 hs
  unfold handleLinkCue
  split
  · exact hs
  · next p _ =>
    split
    · next hcarries =>
      split
      · exact hs
      · exact putAnn_keeps_announceSound s p _
          (Announce.sound_recompute _ ⟨(hall p).lead, (hall p).hang, by simp [hcarries]⟩)
          fun q _ => hall q
    · exact hs

/-- A change of carries-traffic: set, the record was QUIET and takes its cue level without a rise; cleared,
it is forced QUIET (06 R121, R128). -/
theorem carriesChanged_keeps_announceSound (s : State) (p : Ch)
    (hp : (s.ann p).Sound (!(s.prog p).carries))
    (hs : ∀ q, q ≠ p → (s.ann q).Sound (s.prog q).carries) :
    (s.carriesChanged p (s.prog p).carries).AnnounceSound := by
  unfold State.carriesChanged
  split
  · next hon =>
    refine setAnn_keeps_announceSound s p _ ⟨⟨hp.lead, hp.hang, by simp [hon]⟩, ?_⟩ hs
    rw [hon]
    rfl
  · next hoff =>
    refine putAnn_keeps_announceSound s p _
      ⟨⟨fun _ => rfl, fun _ => rfl, fun _ => ⟨rfl, rfl, rfl⟩⟩, ?_⟩ hs
    rw [Bool.eq_false_iff.2 hoff]
    rfl

theorem applyProgramme_keeps_announceSound (s : State) (p : Ch) (code : BitVec 16) (cov : AreaSet)
    (on : Bool) (y : Option Ch) (hs : s.AnnounceSound) :
    (s.applyProgramme p code cov on y).AnnounceSound := by
  have hall := (announceSound_iff s).1 hs
  unfold State.applyProgramme
  extract_lets old t1 t2 t3
  have h12 : t1.OnlyIn t2 [.slots, .runs, .ports] := by
    dsimp only [t2]
    split
    · exact .refl _ _
    · exact onlyIn_reevaluate t1 p
  have hann : ∀ q, t2.ann q = s.ann q := fun q =>
    congrArg (·.get q) (h12 .announce (by decide) : t2.announce = t1.announce)
  have hcarries : ∀ q, (t2.prog q).carries = if q = p then on else (s.prog q).carries := by
    intro q
    rw [show (t2.prog q).carries = (t1.prog q).carries from
      congrArg Prod.snd (congrFun (h12 .cover (by decide)) q), State.prog_setProg]
    split <;> rfl
  have hother : ∀ q, q ≠ p → (t2.ann q).Sound (t2.prog q).carries := by
    intro q hq
    rw [hann, hcarries, if_neg hq]
    exact hall q
  have h3 : t3.AnnounceSound := by
    dsimp only [t3]
    split
    · next hsame =>
      rw [announceSound_iff]
      intro q
      by_cases e : q = p
      · subst e
        rw [hann, hcarries, if_pos rfl, ← hsame]
        exact hall q
      · exact hother q e
    · next hchange =>
      have hon : on = (t2.prog p).carries := by rw [hcarries, if_pos rfl]
      rw [hon]
      refine carriesChanged_keeps_announceSound t2 p ?_ hother
      rw [hann, ← hon, ← Bool.eq_not.2 hchange]
      exact hall p
  split
  · exact h3
  · have hall3 := (announceSound_iff t3).1 h3
    exact setAnn_keeps_announceSound t3 p _ ((hall3 p).withClosing 0) fun q _ => hall3 q

theorem announceSound_withstands : Withstands State.AnnounceSound [.announce, .cover] where
  reads := reads_announceSound
  reset := theResetStateIsSound.2.2.2.2.2.2.2.2.1
  ports := by decide
  unread := by decide
  time := by simp
  raise := by simp
  hear := by simp
  free := by simp
  take := fun w s ht hs => by
    cases w <;> simp [workTouches] at ht
    case stream n => exact streamWork_keeps_announceSound n s hs
    case announce p => exact announceWork_keeps_announceSound p s hs
  handle := fun p r s ht hs => by
    cases r <;> simp [requestTouches] at ht
    case setProgramme =>
      simp only [handle, handleSetProgramme]
      repeat' split
      all_goals first | exact hs | exact applyProgramme_keeps_announceSound s _ _ _ _ _ hs
    case setCue =>
      simp only [handle, handleSetCue]
      split
      · exact applyCue_keeps_announceSound s _ _ _ _ _ hs
      · exact hs
    case cueOn => exact handleLinkCue_keeps_announceSound _ true s hs
    case cueOff => exact handleLinkCue_keeps_announceSound _ false s hs

/-- Settles O58: the property reads the announcement records and the carries-traffic flags, and
withstands what touches them. -/
theorem everyStepKeepsTheAnnouncements : Obligations.EveryStepKeepsTheAnnouncements :=
  fun s t => announceSound_withstands.kept.step s t

end Sys2Proof.Machine
end

section
/-! SUPPORT. The attention unit (10 R198) and the ports (01 R31; 09 R179, R183), and the proof of
EveryStepKeepsPortsAndAttention. -/

namespace Sys2Proof.Machine

/-! ### The attention unit -/

theorem reads_attentionSound : Reads State.AttentionSound [.attention] := by
  intro s t h hs
  have hatt : t.attention = s.attention := h .attention (by simp)
  rw [State.AttentionSound, hatt]
  exact hs

theorem kindBit_getLsbD (k j : Nat) (hj : j < 11) : (kindBit k).getLsbD j = decide (k = j) := by
  simp only [kindBit, BitVec.getLsbD_shiftLeft, BitVec.getLsbD_one]
  by_cases e : k = j
  · simp [e, hj]
  · have : ¬ (k ≤ j ∧ j - k = 0) := by omega
    simp only [e, decide_false]
    grind

/-- An event makes its own kind pending and no other (10 R199). -/
theorem State.isPending_raise (s : State) (e : AttnEvent) (j : Nat) (hj : j < 11) :
    (s.raise e).attention.isPending j = (s.attention.isPending j || decide (e.kind = j)) := by
  simp [Attention.isPending, kindBit_getLsbD _ _ hj]

/-- An event merges its detail into its own kind's alone, which is then pending. -/
theorem raise_keeps_attentionSound (s : State) (e : AttnEvent) (hs : s.AttentionSound) :
    (s.raise e).AttentionSound := by
  obtain ⟨h0, h1, h2, h3, h4, h5, h10⟩ := hs
  refine ⟨?_, ?_, ?_, ?_, ?_, ?_, ?_⟩ <;> rw [State.isPending_raise _ _ _ (by decide)] <;> intro h <;>
    obtain ⟨hold, hkind⟩ := Bool.or_eq_false_iff.1 h
  · cases e <;> first | exact h0 hold | simp [AttnEvent.kind] at hkind
  · cases e <;> first | exact h1 hold | simp [AttnEvent.kind] at hkind
  · cases e <;> first | exact h2 hold | simp [AttnEvent.kind] at hkind
  · cases e <;> first | exact h3 hold | simp [AttnEvent.kind] at hkind
  · cases e <;> first | exact h4 hold | simp [AttnEvent.kind] at hkind
  · cases e <;> first | exact h5 hold | simp [AttnEvent.kind] at hkind
  · cases e <;> first | exact h10 hold | simp [AttnEvent.kind] at hkind

theorem overrunAt_keeps_attentionSound (s : State) (p : Ch) (hs : s.AttentionSound) :
    (s.overrunAt p).AttentionSound :=
  raise_keeps_attentionSound _ _ (reads_attentionSound.of_onlyIn (onlyIn_putAnn s p _) (by decide) hs)

theorem announceWork_keeps_attentionSound (p : Ch) (s : State) (hs : s.AttentionSound) :
    (announceWork p s).AttentionSound := by
  have hput : ∀ a, (s.putAnn p a).AttentionSound := fun a =>
    reads_attentionSound.of_onlyIn (onlyIn_putAnn s p a) (by decide) hs
  unfold announceWork
  dsimp only
  split
  · exact overrunAt_keeps_attentionSound _ p (hput _)
  · exact hput _

theorem applyCue_keeps_attentionSound (s : State) (p : Ch) (src : CueSource) (l h m : Nat)
    (hs : s.AttentionSound) : (s.applyCue p src l h m).AttentionSound := by
  unfold State.applyCue
  extract_lets old a t
  have ht : t.AttentionSound := reads_attentionSound.of_onlyIn (onlyIn_putAnn s p _) (by decide) hs
  split
  · exact overrunAt_keeps_attentionSound t p ht
  · exact ht

theorem timedWork_keeps_attentionSound (p : Ch) (s : State) (hs : s.AttentionSound) :
    (timedWork p s).AttentionSound := by
  unfold timedWork
  extract_lets now store t1 t2
  have h1 : t1.AttentionSound := hs
  have h2 : t2.AttentionSound := by
    dsimp only [t2]
    split
    · exact raise_keeps_attentionSound t1 _ h1
    · exact h1
  split
  · exact reads_attentionSound.of_onlyIn (onlyIn_makeCurrent t2 p _) (by decide) h2
  · exact h2

theorem testOvercommit_keeps_attentionSound (s : State) (n : Ch) (hs : s.AttentionSound) :
    (s.testOvercommit n).AttentionSound := by
  unfold State.testOvercommit
  dsimp only
  repeat' split
  all_goals first
    | exact hs
    | exact raise_keeps_attentionSound _ _ hs

theorem streamWork_keeps_attentionSound (n : Ch) (s : State) (hs : s.AttentionSound) :
    (streamWork n s).AttentionSound := by
  have hplan : ∀ t : State, t.AttentionSound → (planStep n t).AttentionSound := by
    intro t ht
    unfold planStep
    split
    · exact testOvercommit_keeps_attentionSound _ n
        (reads_attentionSound.of_onlyIn (onlyIn_takePlan t n) (by decide) ht)
    · exact ht
  have hsample : ∀ t : State, t.AttentionSound → (t.sampleModulator n).AttentionSound := by
    intro t ht
    have hlevel : (t.storeLevel n).AttentionSound := by
      unfold State.storeLevel
      split
      · exact ht
      · exact raise_keeps_attentionSound _ _ ht
    exact hlevel
  refine reads_attentionSound.of_onlyIn (onlyIn_cellStep n _) (by decide) (hsample _ (hplan _ ?_))
  exact reads_attentionSound.of_onlyIn (onlyIn_startStep n _) (by decide)
    (reads_attentionSound.of_onlyIn (onlyIn_stopStep n s) (by decide) hs)

theorem rederivePass_keeps_attentionSound (s : State) (hs : s.AttentionSound) :
    s.rederivePass.1.AttentionSound := by
  have hall : (forSlots rederiveSlot s).AttentionSound :=
    reads_attentionSound.of_onlyIn (forSlots_onlyIn onlyIn_rederiveSlot s) (by decide) hs
  rcases s.rederivePass_cases with e | ⟨k, e⟩
  · rw [e]
    exact hall
  · rw [e]
    exact raise_keeps_attentionSound _ _ hall

theorem submitNew_keeps_attentionSound (p : Port) (a : SubmitArgs) (u : Urgency) (s : State)
    (hs : s.AttentionSound) : (submitNew p a u s).1.AttentionSound := by
  have haccept : ∀ (t : State) i st f d c, t.AttentionSound →
      (t.acceptSubmit p i st f d c).1.AttentionSound := fun t i st f d c =>
    reads_attentionSound.of_onlyIn (onlyIn_acceptSubmit t p i st f d c) (by decide)
  unfold submitNew
  split
  · exact hs
  · split
    · exact hs
    · dsimp only
      split
      · exact haccept _ _ _ _ _ _ hs
      · split
        · exact hs
        · next i v _ =>
          have hfree : (s.freeAtOnce i).AttentionSound :=
            reads_attentionSound.of_onlyIn (onlyIn_freeAtOnce s i) (by decide) hs
          exact haccept _ _ _ _ _ _ (raise_keeps_attentionSound _ _
            (reads_attentionSound.of_onlyIn (onlyIn_setSlot _ i _) (by decide) hfree))

theorem handleSubmit_keeps_attentionSound (p : Port) (a : SubmitArgs) (s : State)
    (hs : s.AttentionSound) : (handleSubmit p a s).1.AttentionSound := by
  have haccept : ∀ (t : State) i st f d c, t.AttentionSound →
      (t.acceptSubmit p i st f d c).1.AttentionSound := fun t i st f d c =>
    reads_attentionSound.of_onlyIn (onlyIn_acceptSubmit t p i st f d c) (by decide)
  unfold handleSubmit
  split
  · exact hs
  · split
    · exact hs
    · split
      · exact submitNew_keeps_attentionSound p a _ s hs
      · split
        · unfold submitExisting
          repeat' split
          all_goals first
            | exact hs
            | exact haccept _ _ _ _ _ _
                (reads_attentionSound.of_onlyIn (onlyIn_superseded s _ _) (by decide) hs)
        · exact submitNew_keeps_attentionSound p a _ s hs

theorem attentionSound_withstands : Withstands State.AttentionSound [.attention] where
  reads := reads_attentionSound
  reset := theResetStateIsSound.2.2.2.2.2.2.2.2.2.2.2
  ports := by decide
  unread := by decide
  time := by simp
  raise := fun _ => raise_keeps_attentionSound
  hear := by simp
  free := by simp
  take := fun w s ht hs => by
    cases w <;> simp [workTouches] at ht
    case timedFire => exact forChannels_keeps timedWork_keeps_attentionSound s hs
    case stream n => exact streamWork_keeps_attentionSound n s hs
    case announce p => exact announceWork_keeps_attentionSound p s hs
    case silence =>
      simp only [State.take, silenceWork]
      repeat' split
      all_goals first | exact hs | exact raise_keeps_attentionSound _ _ hs
    case markWatch =>
      simp only [State.take, watchWork]
      repeat' split
      all_goals first | exact hs | exact raise_keeps_attentionSound _ _ hs
  handle := fun p r s ht hs => by
    cases r <;> simp [requestTouches] at ht
    case readAttention => exact ⟨fun _ => rfl, fun _ => rfl, fun _ => rfl, fun _ => rfl, fun _ => rfl,
      fun _ => rfl, fun _ => rfl⟩
    case setAttentionMask =>
      simp only [handle, handleSetAttentionMask]
      split <;> exact hs
    case submit => exact handleSubmit_keeps_attentionSound p _ s hs
    case setRange =>
      simp only [handle, handleSetRange]
      repeat' split
      all_goals first | exact hs | exact rederivePass_keeps_attentionSound _ hs
    case setDefaultAreas =>
      simp only [handle, handleSetDefaultAreas]
      split
      · exact hs
      · exact rederivePass_keeps_attentionSound _ hs
    case setCue =>
      simp only [handle, handleSetCue]
      split
      · exact applyCue_keeps_attentionSound s _ _ _ _ _ hs
      · exact hs

end Sys2Proof.Machine
end

section
/-! SUPPORT. What the operations on notices make of the ports and of the numbers in the table: a port's
queue grows and a submit held on it keeps a stream to wait for, and a slot keeps its number or is freed
(`State.Evolves`). The proof of EveryStepKeepsPortsAndAttention. -/

namespace Sys2Proof.Machine

/-! ### Ports under the operations on notices -/

/-- `y` is `x` after responses were put in its queue and its held submit, if any, was settled or replaced
by one that waits. -/
structure PortState.Later (x y : PortState) : Prop where
  waiting : y.waiting = x.waiting
  asm : y.asm = x.asm
  baud : y.baud = x.baud
  stray : y.stray = x.stray
  timer : y.timer = x.timer
  errors : y.errors = x.errors
  queue : x.queue <+: y.queue
  held : x.heldRemains = true → y.heldRemains = true

theorem PortState.Later.refl (x : PortState) : x.Later x :=
  ⟨rfl, rfl, rfl, rfl, rfl, rfl, List.prefix_rfl, id⟩

theorem PortState.Later.trans {x y z : PortState} (h : x.Later y) (h' : y.Later z) : x.Later z :=
  ⟨h'.waiting.trans h.waiting, h'.asm.trans h.asm, h'.baud.trans h.baud, h'.stray.trans h.stray,
    h'.timer.trans h.timer, h'.errors.trans h.errors, h.queue.trans h'.queue, h'.held ∘ h.held⟩

/-- `t` is `s` after operations on notices: the ports are later, and every slot has its number or none. -/
structure State.Evolves (s t : State) : Prop where
  ports : ∀ p, (s.port p).Later (t.port p)
  length : t.table.slots.length = s.table.slots.length
  number : ∀ i, t.numberAt i = s.numberAt i ∨ t.numberAt i = none

theorem State.Evolves.refl (s : State) : s.Evolves s := ⟨fun _ => .refl _, rfl, fun _ => .inl rfl⟩

theorem State.Evolves.trans {s t u : State} (h : s.Evolves t) (h' : t.Evolves u) : s.Evolves u where
  ports p := (h.ports p).trans (h'.ports p)
  length := h'.length.trans h.length
  number i := by
    rcases h'.number i with e' | e'
    · rw [e']; exact h.number i
    · exact .inr e'

theorem State.OnlyIn.port {s t : State} {ks : List Part} (h : s.OnlyIn t ks) (hp : .ports ∉ ks)
    (p : Port) : t.port p = s.port p := congrArg (·.get p) (h .ports hp : t.ports = s.ports)

theorem State.OnlyIn.slots {s t : State} {ks : List Part} (h : s.OnlyIn t ks) (hp : .slots ∉ ks) :
    t.table.slots = s.table.slots := h .slots hp

theorem State.OnlyIn.notice {s t : State} {ks : List Part} (h : s.OnlyIn t ks) (hp : .slots ∉ ks)
    (i : Nat) : t.notice i = s.notice i := by rw [State.notice, h.slots hp, State.notice]

theorem State.OnlyIn.evolves {s t : State} {ks : List Part} (h : s.OnlyIn t ks)
    (hp : .ports ∉ ks) (hk : .slots ∉ ks) : s.Evolves t where
  ports p := by rw [h.port hp]; exact .refl _
  length := by rw [h.slots hk]
  number i := .inl (by rw [State.numberAt, h.notice hk, State.numberAt])

/-- A slot given a content of the number that stood in it, or freed. -/
theorem evolves_setSlot (s : State) (i : Nat) (x : Option Notice)
    (hx : x = none ∨ x.map (fun nt => nt.number) = s.numberAt i) : s.Evolves (s.setSlot i x) where
  ports _ := .refl _
  length := s.slots_setSlot_length i x
  number j := by
    by_cases e : j = i
    · subst e
      by_cases hj : j < s.table.slots.length
      · rw [State.numberAt, State.notice_setSlot_self _ _ _ hj]
        rcases hx with rfl | hx
        · exact .inr rfl
        · exact .inl hx
      · refine .inr ?_
        have : (s.setSlot j x).notice j = none := by
          rw [State.notice, List.getD_eq_default]
          rw [State.slots_setSlot_length]
          omega
        rw [State.numberAt, this]
        rfl
    · exact .inl (by rw [State.numberAt, State.notice_setSlot_ne _ _ _ _ e, State.numberAt])

theorem evolves_setPort (s : State) (p : Port) (x : PortState) (hx : (s.port p).Later x) :
    s.Evolves (s.setPort p x) where
  ports q := by
    by_cases e : q = p
    · subst e; rwa [State.port_setPort_self]
    · rw [State.port_setPort_ne _ _ _ _ e]; exact .refl _
  length := rfl
  number _ := .inl rfl

theorem evolves_setStream (s : State) (n : Ch) (x : Stream) : s.Evolves (s.setStream n x) :=
  ⟨fun _ => .refl _, rfl, fun _ => .inl rfl⟩

/-- An occupied slot given a notice of the same number. -/
theorem evolves_withNotice {s : State} {i : Nat} {nt : Notice} (h : s.notice i = some nt)
    (nt' : Notice) (hn : nt'.number = nt.number) : s.Evolves (s.setSlot i (some nt')) :=
  evolves_setSlot s i _ (.inr (by rw [State.numberAt, h]; exact congrArg some hn))

theorem evolves_send (s : State) (p : Port) (r : Response) : s.Evolves (s.send p r) :=
  evolves_setPort s p _ ⟨rfl, rfl, rfl, rfl, rfl, rfl, List.prefix_append _ _, id⟩

theorem evolves_finishHeld (s : State) (p : Port) (st : Status) : s.Evolves (s.finishHeld p st) := by
  rcases s.finishHeld_cases p st with ⟨-, e⟩ | ⟨h, -, e⟩
  · rw [e]; exact .refl s
  · rw [e]
    exact (evolves_setPort s p { s.port p with held := none }
      ⟨rfl, rfl, rfl, rfl, rfl, rfl, List.prefix_rfl, fun _ => rfl⟩).trans (evolves_send _ p _)

/-- A held submit with a new content, answered when nothing remains. -/
theorem evolves_settleHeld (s : State) (p : Port) (h : Held) : s.Evolves (s.settleHeld p h) := by
  unfold State.settleHeld
  dsimp only
  split
  · unfold State.finishHeld
    simp only [State.port_setPort_self]
    refine State.Evolves.trans ?_ (evolves_send _ p _)
    rw [State.setPort_setPort]
    exact evolves_setPort s p _ ⟨rfl, rfl, rfl, rfl, rfl, rfl, List.prefix_rfl, fun _ => rfl⟩
  · next hr =>
    exact evolves_setPort s p _ ⟨rfl, rfl, rfl, rfl, rfl, rfl, List.prefix_rfl, fun _ => by
      simpa [PortState.heldRemains] using hr⟩

theorem evolves_forPorts {f : Port → State → State} (h : ∀ p (s : State), s.Evolves (f p s))
    (s : State) : s.Evolves (forPorts f s) := (h .site s).trans (h .traffic _)

theorem evolves_forChannels {f : Ch → State → State} (h : ∀ n (s : State), s.Evolves (f n s))
    (s : State) : s.Evolves (forChannels f s) :=
  forChannels_keeps (P := s.Evolves) (fun n t ht => ht.trans (h n t)) s (.refl s)

theorem evolves_forSlots {f : Nat → State → State} (h : ∀ i (s : State), s.Evolves (f i s))
    (s : State) : s.Evolves (forSlots f s) :=
  forSlots_keeps (P := s.Evolves) (fun i _ t ht => ht.trans (h i t)) s (.refl s)

theorem evolves_supersede (s : State) (i : Nat) : s.Evolves (s.supersede i) := by
  refine evolves_forPorts (fun p t => ?_) s
  unfold supersedeAt
  split
  · split
    · exact evolves_finishHeld t p _
    · exact .refl t
  · exact .refl t

theorem evolves_leaveRemaining (s : State) (i : Nat) (n : Ch) : s.Evolves (s.leaveRemaining i n) := by
  refine evolves_forPorts (fun p t => ?_) s
  unfold leaveAt
  split
  · split
    · exact evolves_settleHeld t p _
    · exact .refl t
  · exact .refl t

theorem evolves_testHeld (s : State) (i : Nat) (n : Ch) (r : Record) :
    s.Evolves (s.testHeld i n r) := by
  refine evolves_forPorts (fun p t => ?_) s
  unfold testHeldAt
  split
  · split
    · exact evolves_settleHeld t p _
    · exact .refl t
  · exact .refl t

/-! ### Notices, runs and records -/

theorem numberAt_of_notice {s : State} {i : Nat} {nt : Notice} (h : s.notice i = some nt) :
    s.numberAt i = some nt.number := by rw [State.numberAt, h]; rfl

/-- A slot's holds ended, its runs cut, and its content replaced by one of the same number or none. -/
theorem evolves_superseded (s : State) (i : Nat) (x : Option Notice)
    (hx : x = none ∨ x.map (fun nt => nt.number) = s.numberAt i) :
    s.Evolves (((s.supersede i).cutRuns i).setSlot i x) := by
  have h1 := (evolves_supersede s i).trans
    ((onlyIn_cutRuns (s.supersede i) i).evolves (by decide) (by decide))
  refine h1.trans (evolves_setSlot _ i x ?_)
  have hnotice : ((s.supersede i).cutRuns i).notice i = s.notice i :=
    ((onlyIn_cutRuns _ i).notice (by decide) i).trans
      (((onlyPorts_supersede i).onlyIn s).notice (by decide) i)
  rwa [State.numberAt, hnotice]

theorem evolves_freeAtOnce (s : State) (i : Nat) : s.Evolves (s.freeAtOnce i) := by
  unfold State.freeAtOnce
  split
  · exact .refl s
  · exact evolves_superseded s i none (.inl rfl)

theorem evolves_beginWithdrawal (s : State) (i : Nat) : s.Evolves (s.beginWithdrawal i) := by
  unfold State.beginWithdrawal
  split
  · exact .refl s
  · next nt h =>
    dsimp only
    split
    · exact evolves_superseded s i none (.inl rfl)
    · exact evolves_superseded s i _ (.inr (numberAt_of_notice h).symm)

theorem evolves_removeRecord (s : State) (n : Ch) (i : Nat) : s.Evolves (s.removeRecord n i) := by
  unfold State.removeRecord
  split
  · exact .refl s
  · next nt h =>
    dsimp only
    split
    · exact evolves_setSlot s i none (.inl rfl)
    · exact evolves_withNotice h _ rfl

theorem evolves_reconcile (s : State) (i : Nat) (n : Ch) : s.Evolves (s.reconcile i n) := by
  unfold State.reconcile
  split
  · exact .refl s
  · next nt h =>
    have hset : ∀ r, s.Evolves (s.setSlot i (some (nt.withRecord n r))) := fun r =>
      evolves_withNotice h _ rfl
    split
    · split
      · exact .refl s
      · exact hset _
    · split
      · exact ((hset _).trans ((onlyIn_cutRun _ n i).evolves (by decide) (by decide))).trans
          (evolves_leaveRemaining _ i n)
      · exact .refl s

theorem evolves_emit (s : State) (n : Ch) (k : Kind) (v : BitVec 48) : s.Evolves (s.emit n k v) :=
  (onlyIn_emit s n k v).evolves (by decide) (by decide)

theorem evolves_completeRun (s : State) (n : Ch) (i head : Nat) :
    s.Evolves (s.completeRun n i head) := by
  unfold State.completeRun
  extract_lets x t
  have ht : s.Evolves t := evolves_setStream s n _
  split
  · exact ht
  · next nt h =>
    split
    · exact ht
    · next r _ =>
      exact (ht.trans (evolves_withNotice h (nt.withRecord n (some
        (r.complete (s.classOf nt.urgency) head))) rfl)).trans (evolves_testHeld _ i n _)

theorem evolves_sendRunCell (s : State) (n : Ch) (run : Run) : s.Evolves (s.sendRunCell n run) := by
  unfold State.sendRunCell
  split
  · exact evolves_emit s n _ _
  · dsimp only
    split
    · exact (evolves_emit s n _ _).trans (evolves_setStream _ n _)
    · exact (evolves_emit s n _ _).trans (evolves_completeRun _ n _ _)

/-- A stream's records are those of the notices in the slots. -/
theorem mem_streamRecords {s : State} {n : Ch} {i : Nat} {nt : Notice} {r : Record} :
    (i, nt, r) ∈ s.streamRecords n ↔
      i < Config.slots ∧ s.notice i = some nt ∧ nt.record n = some r := by
  simp only [State.streamRecords, List.mem_filterMap, slotNumbers, List.mem_range]
  constructor
  · rintro ⟨j, hj, h⟩
    split at h
    · next nt' hn =>
      obtain ⟨r', hr, e⟩ := Option.map_eq_some_iff.1 h
      cases e
      exact ⟨hj, hn, hr⟩
    · cases h
  · rintro ⟨hi, hn, hr⟩
    exact ⟨i, hi, by simp [hn, hr]⟩

/-- What a search for the first of a list finds is in the list. -/
theorem mem_of_leastBy {α : Type} {lt : α → α → Bool} {xs : List α} {x : α}
    (h : leastBy lt xs = some x) : x ∈ xs := by
  have key : ∀ (ys : List α) (best : Option α),
      ys.foldl (fun best x => match best with
        | none => some x
        | some b => if lt x b then some x else some b) best = some x → x ∈ ys ∨ best = some x := by
    intro ys
    induction ys with
    | nil => exact fun best h => .inr h
    | cons y ys ih =>
      intro best h
      rcases ih _ h with hmem | hbest
      · exact .inl (List.mem_cons_of_mem _ hmem)
      · cases best with
        | none => cases hbest; exact .inl List.mem_cons_self
        | some b =>
          dsimp only at hbest
          split at hbest
          · cases hbest; exact .inl List.mem_cons_self
          · exact .inr hbest
  exact (key xs none h).resolve_right nofun

theorem nextWithdrawal_mem {s : State} {n : Ch} {i : Nat} {nt : Notice} {r : Record}
    (h : s.nextWithdrawal n = some (i, nt, r)) :
    i < Config.slots ∧ s.notice i = some nt ∧ nt.record n = some r ∧ r.isAiring = false := by
  have hmem := mem_of_leastBy h
  simp only [State.withdrawalRecords, List.mem_filter, mem_streamRecords] at hmem
  obtain ⟨⟨⟨hi, hn, hr⟩, hmode⟩, -⟩ := hmem
  exact ⟨hi, hn, hr, by simpa using hmode⟩

theorem evolves_sendWithdraw (s : State) (n : Ch) (i : Nat) (nt : Notice) (r : Record)
    (h : s.notice i = some nt) : s.Evolves (s.sendWithdraw n i nt r) := by
  have hemit := evolves_emit s n .withdraw (withdrawPayload nt)
  unfold State.sendWithdraw
  dsimp only
  split
  · exact hemit
  · split
    · exact hemit.trans (evolves_removeRecord _ n i)
    · exact hemit.trans (evolves_withNotice (s := s.emit n _ _) h _ rfl)

theorem evolves_arbitrate (s : State) (n : Ch) : s.Evolves (s.arbitrate n) := by
  unfold State.arbitrate
  split
  · exact evolves_sendRunCell s n _
  · split
    · next i nt r h => exact evolves_sendWithdraw s n i nt r (nextWithdrawal_mem h).2.1
    · split
      · exact (onlyIn_sendHead s n _ _).evolves (by decide) (by decide)
      · exact evolves_emit s n _ _

/-! ### The tests, the pass and the requests -/

theorem Notice.rederive_number (m : LocationMap) (nt : Notice) :
    (nt.rederive m).number = nt.number := by
  unfold Notice.rederive
  dsimp only
  split <;> rfl

theorem evolves_rederiveSlot (i : Nat) (s : State) : s.Evolves (rederiveSlot i s) := by
  unfold rederiveSlot
  split
  · exact .refl s
  · next nt h =>
    split
    · have hset : s.Evolves (s.setSlot i (some (nt.rederive s.map))) :=
        evolves_withNotice h _ (nt.rederive_number s.map)
      dsimp only
      split
      · exact hset.trans (evolves_forChannels (fun n u => evolves_reconcile u i n) _)
      · exact hset
    · exact .refl s

theorem evolves_raise (s : State) (e : AttnEvent) : s.Evolves (s.raise e) :=
  (onlyIn_raise s e).evolves (by decide) (by decide)

theorem evolves_rederivePass (s : State) : s.Evolves s.rederivePass.1 := by
  have hall := evolves_forSlots evolves_rederiveSlot s
  rcases s.rederivePass_cases with e | ⟨k, e⟩
  · rw [e]
    exact hall
  · rw [e]
    exact hall.trans (evolves_raise _ _)

theorem evolves_reevaluate (s : State) (n : Ch) : s.Evolves (s.reevaluate n) := by
  refine evolves_forSlots (fun i t => ?_) s
  unfold reevaluateSlot
  split
  · split
    · exact evolves_reconcile t i n
    · exact .refl t
  · exact .refl t

theorem evolves_testNotice (i : Nat) (s : State) : s.Evolves (testNotice i s) := by
  unfold testNotice
  split
  · exact .refl s
  · next nt h =>
    split
    · unfold State.startNotice
      rw [h]
      dsimp only
      split
      · exact evolves_setSlot s i none (.inl rfl)
      · exact evolves_withNotice h _ rfl
    · split
      · exact evolves_beginWithdrawal s i
      · exact .refl s

theorem evolves_testWithdrawLimit (i : Nat) (s : State) : s.Evolves (testWithdrawLimit i s) := by
  unfold testWithdrawLimit
  split
  · exact ((onlyIn_cutRuns s i).evolves (by decide) (by decide)).trans
      (evolves_setSlot _ i none (.inl rfl))
  · exact .refl s

theorem evolves_enterStopped (s : State) (n : Ch) : s.Evolves (s.enterStopped n) := by
  refine (evolves_setStream s n _).trans (evolves_forSlots (fun i t => ?_) _)
  unfold discardRecord
  split
  · exact .refl t
  · split
    · exact .refl t
    · exact (evolves_removeRecord t n i).trans (evolves_leaveRemaining _ i n)

theorem evolves_takeStart (s : State) (n : Ch) : s.Evolves (s.takeStart n) := by
  refine (evolves_setStream s n _).trans (evolves_forSlots (fun i t => ?_) _)
  unfold startRecord
  split
  · exact .refl t
  · next nt h =>
    split
    · exact evolves_withNotice h _ rfl
    · exact .refl t

theorem evolves_sendCell (s : State) (n : Ch) : s.Evolves (s.sendCell n) := by
  have harb := evolves_arbitrate s n
  unfold State.sendCell
  split
  · exact (onlyIn_sendStatus s n).evolves (by decide) (by decide)
  · exact (onlyIn_sendName s n).evolves (by decide) (by decide)
  · split
    · exact (onlyIn_sendLongName s n _).evolves (by decide) (by decide)
    · exact harb
  · split
    · split
      · exact (onlyIn_sendRefer s n _).evolves (by decide) (by decide)
      · exact harb
    · exact harb
  · exact harb

theorem evolves_streamWork (n : Ch) (s : State) : s.Evolves (streamWork n s) := by
  have hstop : s.Evolves (stopStep n s) := by
    unfold stopStep
    split
    · exact evolves_enterStopped s n
    · exact .refl s
  have hstart : ∀ t : State, t.Evolves (startStep n t) := by
    intro t
    unfold startStep
    split
    · exact evolves_takeStart t n
    · exact .refl t
  have hcell : ∀ t : State, t.Evolves (cellStep n t) := by
    intro t
    unfold cellStep
    split
    · exact evolves_sendCell t n
    · exact evolves_setStream t n _
  have hbefore : s.Evolves (s.beforeCell n) :=
    ((hstop.trans (hstart _)).trans
      ((onlyIn_planStep n _).evolves (by decide) (by decide))).trans
      ((onlyIn_sampleModulator _ n).evolves (by decide) (by decide))
  exact hbefore.trans (hcell _)

theorem evolves_take (w : Work) (s : State) : s.Evolves (s.take w) := by
  cases w with
  | noticeTest i => exact evolves_testNotice i s
  | stream n => exact evolves_streamWork n s
  | withdrawLimit i => exact evolves_testWithdrawLimit i s
  | confirmLimit p =>
    simp only [State.take, testConfirmLimit]
    split
    · exact evolves_finishHeld s p _
    · exact .refl s
  | trimExpiry | timedFire | minute | announce _ | silence | markWatch =>
    exact (onlyIn_take _ s).evolves (by simp [workTouches]) (by simp [workTouches])

theorem evolves_takeAll (ws : List Work) (s : State) : s.Evolves (s.takeAll ws) :=
  takeAll_keeps (P := s.Evolves) (fun w t ht => ht.trans (evolves_take w t)) ws s (.refl s)

theorem evolves_hearHead (s : State) (v : BitVec 48) : s.Evolves (s.hearHead v) := by
  have htally : ∀ f, s.Evolves (s.tally f) := fun _ =>
    (onlyIn_setMonitor s _).evolves (by decide) (by decide)
  unfold State.hearHead
  dsimp only
  split
  · exact htally _
  · split
    · exact htally _
    · next i _ _ nt h =>
      split
      · split
        · exact ((htally _).trans (evolves_withNotice (s := s.tally _) h (nt.withRecord _ _) rfl)).trans
            (evolves_testHeld _ i _ _)
        · exact htally _
      · exact htally _

theorem evolves_withdrawAllSlot (p : Port) (i : Nat) (s : State) :
    s.Evolves (withdrawAllSlot p i s) := by
  unfold withdrawAllSlot
  split
  · exact .refl s
  · split
    · split
      · exact (evolves_supersede s i).trans (evolves_setSlot _ i none (.inl rfl))
      · exact evolves_beginWithdrawal s i
      · exact .refl s
    · exact .refl s

theorem evolves_handleWithdraw (p : Port) (number : BitVec 16) (s : State) :
    s.Evolves (handleWithdraw p number s).1 := by
  unfold handleWithdraw
  repeat' split
  all_goals first
    | exact .refl s
    | exact evolves_beginWithdrawal s _
    | exact (evolves_supersede s _).trans (evolves_setSlot _ _ none (.inl rfl))

theorem evolves_applyProgramme (s : State) (p : Ch) (code : BitVec 16) (cov : AreaSet) (on : Bool)
    (y : Option Ch) : s.Evolves (s.applyProgramme p code cov on y) := by
  unfold State.applyProgramme
  extract_lets old t1 t2 t3
  have h1 : s.Evolves t1 := ⟨fun _ => .refl _, rfl, fun _ => .inl rfl⟩
  have h2 : t1.Evolves t2 := by
    dsimp only [t2]
    split
    · exact .refl t1
    · exact evolves_reevaluate t1 p
  have h3 : t2.Evolves t3 := by
    dsimp only [t3]
    split
    · exact .refl t2
    · exact (onlyIn_carriesChanged t2 p on).evolves (by decide) (by decide)
  split
  · exact (h1.trans h2).trans h3
  · exact ((h1.trans h2).trans h3).trans ((onlyIn_setAnn t3 p _).evolves (by decide) (by decide))

theorem evolves_timeChange (s : State) (f : SiteTime → SiteTime) : s.Evolves (s.timeChange f) := by
  have hflush : s.Evolves s.flushSeconds :=
    (evolves_takeAll _ s).trans ((onlyIn_due _ _).evolves (by decide) (by decide))
  have htime : s.flushSeconds.Evolves (s.flushSeconds.setTime (f s.flushSeconds.time)) :=
    (onlyIn_setTime _ _).evolves (by decide) (by decide)
  exact ((hflush.trans htime).trans (evolves_forSlots evolves_testNotice _)).trans
    (evolves_take .timedFire _)

/-- Every request but SUBMIT leaves the numbers in the table, or frees slots. -/
theorem evolves_handle (p : Port) (r : Request) (s : State) (h : ∀ a, r ≠ .submit a) :
    s.Evolves (handle p r s).1 := by
  by_cases htime : changesTime r = true
  · rcases handle_timeChange p r s htime with e | ⟨f, -, e⟩
    · rw [e]; exact .refl s
    · rw [e]; exact evolves_timeChange s f
  · by_cases hd : .ports ∈ requestTouches r ∨ .slots ∈ requestTouches r
    · cases r <;> simp [requestTouches] at hd
      case abandon =>
        simp only [handle, handleAbandon]
        split
        · exact .refl s
        · exact evolves_finishHeld s p _
      case submit a => exact absurd rfl (h a)
      case withdraw => exact evolves_handleWithdraw p _ s
      case withdrawAll =>
        simp only [handle, handleWithdrawAll]
        exact evolves_forSlots (evolves_withdrawAllSlot p) s
      case purge =>
        simp only [handle, handlePurge]
        repeat' split
        all_goals first | exact .refl s | exact evolves_freeAtOnce s _
      case setRange =>
        simp only [handle, handleSetRange]
        repeat' split
        all_goals first
          | exact .refl s
          | exact State.Evolves.trans ((onlyIn_map s _).evolves (by decide) (by decide))
              (evolves_rederivePass _)
      case setDefaultAreas =>
        simp only [handle, handleSetDefaultAreas]
        split
        · exact .refl s
        · exact State.Evolves.trans ((onlyIn_map s _).evolves (by decide) (by decide))
            (evolves_rederivePass _)
      case setProgramme =>
        simp only [handle, handleSetProgramme]
        repeat' split
        all_goals first | exact .refl s | exact evolves_applyProgramme s _ _ _ _ _
    · exact (onlyIn_handle p r s (by simpa using htime)).evolves (fun e => hd (.inl e))
        fun e => hd (.inr e)

end Sys2Proof.Machine
end

section
/-! SUPPORT. The proofs of EveryStepKeepsPortsAndAttention and EveryStepKeepsTheNoticeTable: the operations
on notices keep a sound port and a sound table, and what is left are the receivers, the transmitter and
SUBMIT. -/

namespace Sys2Proof.Machine

/-! ### A port (01 R31; 09 R179, R183) -/

/-- What `PortsSound` says of a port, but for the frame that waits. -/
structure PortState.Held (x : PortState) : Prop where
  remains : x.heldRemains = true
  fits : x.asm.fits = true

/-- What `PortsSound` says of a port. -/
structure PortState.Sound (x : PortState) : Prop extends x.Held where
  waits : x.waiting ≠ none → x.queue ≠ []

theorem portsSound_iff (s : State) : s.PortsSound ↔ ∀ p, (s.port p).Sound := by
  constructor
  · intro h p
    obtain ⟨hr, hw, hf⟩ := h p (by cases p <;> decide)
    exact ⟨⟨hr, hf⟩, hw⟩
  · exact fun h p _ => ⟨(h p).remains, (h p).waits, (h p).fits⟩

theorem PortState.Later.keepsHeld {x y : PortState} (h : x.Later y) (hx : x.Held) : y.Held :=
  ⟨h.held hx.remains, by rw [h.asm]; exact hx.fits⟩

theorem PortState.Later.keepsSound {x y : PortState} (h : x.Later y) (hx : x.Sound) : y.Sound where
  toHeld := h.keepsHeld hx.toHeld
  waits hw hq := hx.waits (h.waiting ▸ hw) (List.prefix_nil.1 (hq ▸ h.queue))

theorem portsSound_of_later {s t : State} (h : ∀ p, (s.port p).Later (t.port p))
    (hs : s.PortsSound) : t.PortsSound :=
  (portsSound_iff t).2 fun p => (h p).keepsSound ((portsSound_iff s).1 hs p)

theorem portsSound_of_onlyIn {s t : State} {ks : List Part} (h : s.OnlyIn t ks) (hp : .ports ∉ ks)
    (hs : s.PortsSound) : t.PortsSound :=
  portsSound_of_later (fun p => by rw [h.port hp]; exact .refl _) hs

theorem setPort_keeps_portsSound (s : State) (p : Port) (x : PortState) (hx : x.Sound)
    (hs : ∀ q, q ≠ p → (s.port q).Sound) : (s.setPort p x).PortsSound := by
  rw [portsSound_iff]
  intro q
  by_cases e : q = p
  · subst e
    rwa [State.port_setPort_self]
  · rw [State.port_setPort_ne _ _ _ _ e]
    exact hs q e

/-! ### The receivers -/

theorem discard_keeps_portsSound (s : State) (p : Port) (hs : s.PortsSound) :
    (s.discard p).PortsSound := by
  have hall := (portsSound_iff s).1 hs
  exact portsSound_of_onlyIn (onlyIn_raise _ (.link p)) (by decide)
    (setPort_keeps_portsSound s p _ ⟨⟨(hall p).remains, rfl⟩, (hall p).waits⟩ fun q _ => hall q)

theorem strayByte_keeps_portsSound (s : State) (p : Port) (hs : s.PortsSound) :
    (s.strayByte p).PortsSound := by
  have hall := (portsSound_iff s).1 hs
  unfold State.strayByte
  split
  · exact hs
  · exact discard_keeps_portsSound _ p
      (setPort_keeps_portsSound s p _ ⟨⟨(hall p).remains, (hall p).fits⟩, (hall p).waits⟩
        fun q _ => hall q)

/-- A byte with which an assembly goes on leaves it within the length that its length byte gave. -/
theorem Assembly.fits_of_goOn {a a' : Assembly} {b : Byte} (ha : a.fits = true)
    (h : a.take b = .goOn a') : a'.fits = true := by
  cases a with
  | hunt =>
    simp only [Assembly.take] at h
    split at h <;> cases h
    rfl
  | length =>
    simp only [Assembly.take] at h
    split at h <;> cases h
    next hb => simpa [Assembly.fits] using hb
  | body left got =>
    simp only [Assembly.fits, decide_eq_true_eq] at ha
    simp only [Assembly.take] at h
    split at h <;> cases h <;> simp only [Assembly.fits, List.length_append, List.length_singleton,
      decide_eq_true_eq] <;> omega
  | check bs high =>
    cases high with
    | none => simp only [Assembly.take] at h; cases h; exact ha
    | some _ => simp [Assembly.take] at h

theorem takeByte_keeps_portsSound (s : State) (p : Port) (b : Byte) (hs : s.PortsSound) :
    (s.takeByte p b).1.PortsSound := by
  have hall := (portsSound_iff s).1 hs
  unfold State.takeByte
  split
  · next asm h =>
    exact setPort_keeps_portsSound s p _
      ⟨⟨(hall p).remains, Assembly.fits_of_goOn (hall p).fits h⟩, (hall p).waits⟩ fun q _ => hall q
  · exact strayByte_keeps_portsSound s p hs
  · exact discard_keeps_portsSound s p hs
  · exact setPort_keeps_portsSound s p _ ⟨⟨(hall p).remains, rfl⟩, (hall p).waits⟩ fun q _ => hall q

theorem timerRun_keeps_portsSound (k : Nat) (p : Port) (s : State) (hs : s.PortsSound) :
    (timerRun k p s).PortsSound := by
  have hall := (portsSound_iff s).1 hs
  unfold timerRun
  split
  · exact hs
  · split
    · exact discard_keeps_portsSound s p hs
    · exact setPort_keeps_portsSound s p _ ⟨⟨(hall p).remains, (hall p).fits⟩, (hall p).waits⟩
        fun q _ => hall q

/-! ### Frames -/

/-- An accepted SUBMIT holds its port only with a stream to wait for (01 R29). -/
theorem later_acceptSubmit (s : State) (p : Port) (i : Nat) (st : Status) (f : RFlags) (d c : Nat)
    (q : Port) : (s.port q).Later ((s.acceptSubmit p i st f d c).1.port q) := by
  unfold State.acceptSubmit
  split
  · exact .refl _
  · dsimp only
    split
    · exact .refl _
    · next h =>
      refine State.Evolves.ports (evolves_setPort s p { s.port p with held := some _ }
        ⟨rfl, rfl, rfl, rfl, rfl, rfl, List.prefix_rfl, fun _ => ?_⟩) q
      simpa [PortState.heldRemains] using (not_or.1 h).2

theorem later_accepted {s t : State} {p q : Port} (h : (s.port q).Later (t.port q)) (i : Nat)
    (st : Status) (f : RFlags) (d c : Nat) :
    (s.port q).Later ((t.acceptSubmit p i st f d c).1.port q) :=
  h.trans (later_acceptSubmit t p i st f d c q)

theorem later_placeNotice (s : State) (i : Nat) (nt : Notice) (q : Port) :
    (s.port q).Later ((s.placeNotice i nt).port q) := .refl _

theorem later_submitNew (p : Port) (a : SubmitArgs) (u : Urgency) (s : State) (q : Port) :
    (s.port q).Later ((submitNew p a u s).1.port q) := by
  unfold submitNew
  split
  · exact .refl _
  · split
    · exact .refl _
    · dsimp only
      split
      · exact later_accepted (later_placeNotice s _ _ q) _ _ _ _ _
      · split
        · exact .refl _
        · next i v _ =>
          have hraised (t : State) : (t.port q).Later ((t.raise (.displaced v.number)).port q) :=
            (evolves_raise t _).ports q
          have hplaced (nt : Notice) : (s.port q).Later
              (((s.freeAtOnce i).placeNotice i nt).port q) :=
            ((evolves_freeAtOnce s i).ports q).trans (later_placeNotice (s.freeAtOnce i) i nt q)
          exact later_accepted ((hplaced _).trans (hraised _)) _ _ _ _ _

theorem later_handleSubmit (p : Port) (a : SubmitArgs) (s : State) (q : Port) :
    (s.port q).Later ((handleSubmit p a s).1.port q) := by
  have hupdate : ∀ i old nt, (s.port q).Later ((s.updateNotice i old nt).port q) := by
    intro i old nt
    exact ((evolves_supersede s i).trans
      ((onlyIn_cutRuns _ i).evolves (by decide) (by decide))).ports q
  unfold handleSubmit
  split
  · exact .refl _
  · split
    · exact .refl _
    · split
      · exact later_submitNew p a _ s q
      · split
        · unfold submitExisting
          repeat' split
          all_goals first
            | exact .refl _
            | exact later_accepted (hupdate _ _ _) _ _ _ _ _
        · exact later_submitNew p a _ s q

theorem later_handle (p : Port) (r : Request) (s : State) (q : Port) :
    (s.port q).Later ((handle p r s).1.port q) := by
  by_cases h : ∃ a, r = .submit a
  · obtain ⟨a, rfl⟩ := h
    exact later_handleSubmit p a s q
  · exact (evolves_handle p r s fun a e => h ⟨a, e⟩).ports q

theorem later_answered (p : Port) (code : Byte) (s : State) (a : Answer) (q : Port)
    (h : (s.port q).Later (a.1.port q)) : (s.port q).Later ((answered p code a).port q) := by
  unfold answered
  split
  · exact h.trans ((evolves_send _ p _).ports q)
  · exact h

theorem later_dispatch (s : State) (p : Port) (code : Byte) (r : Option Request) (q : Port) :
    (s.port q).Later ((s.dispatch p code r).port q) := by
  refine later_answered p code s _ q ?_
  split
  · exact .refl _
  · split
    · exact .refl _
    · exact later_handle p _ s q

theorem later_takeFrame (s : State) (p : Port) (f : Frame) (q : Port) :
    (s.port q).Later ((s.takeFrame p f).port q) := by
  unfold State.takeFrame
  dsimp only
  split
  · exact later_answered p _ s _ q (.refl _)
  · exact later_dispatch s p _ _ q

/-- A frame waits only behind a response (09 R183). -/
theorem putWaiting_keeps_portsSound (s : State) (p : Port) (f : Frame) (hq : (s.port p).queue ≠ [])
    (hs : s.PortsSound) : (s.putWaiting p f).PortsSound := by
  have hall := (portsSound_iff s).1 hs
  unfold State.putWaiting
  split
  · exact setPort_keeps_portsSound s p _ ⟨⟨(hall p).remains, (hall p).fits⟩, fun _ => hq⟩
      fun q _ => hall q
  · exact discard_keeps_portsSound s p hs

theorem frameArrives_keeps_portsSound (s : State) (p : Port) (f : Frame) (hs : s.PortsSound) :
    (s.frameArrives p f).PortsSound := by
  unfold State.frameArrives
  split
  · exact portsSound_of_later (later_takeFrame s p f) hs
  · next hq => exact putWaiting_keeps_portsSound s p f hq hs

theorem request_keeps_portsSound (s : State) (p : Port) (r : Request) (hs : s.PortsSound) :
    (s.request p r).PortsSound := by
  unfold State.request
  split
  · exact portsSound_of_later (later_dispatch s p _ _) hs
  · next hq => exact putWaiting_keeps_portsSound s p _ hq hs

theorem receiveChar_keeps_portsSound (s : State) (p : Port) (c : RxChar) (hs : s.PortsSound) :
    (s.receiveChar p c).PortsSound := by
  unfold State.receiveChar
  split
  · unfold State.framingError
    split
    · exact strayByte_keeps_portsSound s p hs
    · exact discard_keeps_portsSound s p hs
  · next b =>
    have hbyte := takeByte_keeps_portsSound s p b hs
    split
    · exact hbyte
    · exact frameArrives_keeps_portsSound _ p _ hbyte

/-! ### The transmitter -/

/-- Every port is sound but for the frame that waits on port `p`, whose response has just left. -/
def State.SoundBut (s : State) (p : Port) : Prop :=
  (s.port p).Held ∧ ∀ q, q ≠ p → (s.port q).Sound

theorem soundBut_of_portsSound {s : State} (p : Port) (hs : s.PortsSound) : s.SoundBut p :=
  ⟨((portsSound_iff s).1 hs p).toHeld, fun q _ => (portsSound_iff s).1 hs q⟩

theorem soundBut_of_later {s t : State} {p : Port} (h : ∀ q, (s.port q).Later (t.port q))
    (hs : s.SoundBut p) : t.SoundBut p :=
  ⟨(h p).keepsHeld hs.1, fun q hq => (h q).keepsSound (hs.2 q hq)⟩

/-- A port written so that it is as sound as it was. -/
theorem soundBut_setPort (s : State) (p q : Port) (x : PortState)
    (hx : (s.port q).Held → x.Held) (hw : x.waiting = (s.port q).waiting)
    (hq : x.queue = (s.port q).queue) (hs : s.SoundBut p) : (s.setPort q x).SoundBut p := by
  have hsound : (s.port q).Sound → x.Sound := fun h => ⟨hx h.toHeld, by rw [hw, hq]; exact h.waits⟩
  constructor
  · by_cases e : p = q
    · subst e; rw [State.port_setPort_self]; exact hx hs.1
    · rw [State.port_setPort_ne _ _ _ _ e]; exact hs.1
  · intro r hr
    by_cases e : r = q
    · subst e; rw [State.port_setPort_self]; exact hsound (hs.2 r hr)
    · rw [State.port_setPort_ne _ _ _ _ e]; exact hs.2 r hr

theorem soundBut_discard (s : State) (p q : Port) (hs : s.SoundBut p) : (s.discard q).SoundBut p :=
  soundBut_setPort s p q { s.port q with
    asm := .hunt, timer := 0, errors := satAdd Config.maxCount (s.port q).errors 1 }
    (fun h => ⟨h.remains, rfl⟩) rfl rfl hs

theorem soundBut_perform (s : State) (p : Port) (a : Option After) (lines : Lines)
    (hs : s.SoundBut p) : (s.perform a lines).SoundBut p := by
  unfold State.perform
  split
  · exact hs
  · next q code =>
    unfold State.changeBaud
    dsimp only
    refine soundBut_setPort _ p q _ (fun h => ⟨h.remains, h.fits⟩) rfl rfl ?_
    split
    · exact hs
    · exact soundBut_discard s p q hs
  · exact soundBut_of_later (evolves_forSlots (fun i t => evolves_freeAtOnce t i) s).ports hs
  · refine soundBut_of_portsSound p ?_
    refine portsSound_of_later (s := _) (evolves_takeAll _ _).ports ?_
    rw [portsSound_iff]
    intro q
    cases q <;> exact ⟨⟨rfl, rfl⟩, fun h => absurd rfl h⟩

theorem soundBut_beginNext (s : State) (p : Port) (hs : s.SoundBut p) : (s.beginNext p).SoundBut p := by
  unfold State.beginNext
  split
  · exact hs
  · exact soundBut_setPort s p p _ (fun h => ⟨h.remains, h.fits⟩) rfl rfl hs

/-- The frame that waits is taken when the queue is empty, so none waits on an empty queue. -/
theorem takeWaiting_portsSound (s : State) (p : Port) (hs : s.SoundBut p) :
    (s.takeWaiting p).PortsSound := by
  have hother : ∀ {x : Prop}, ((s.port p).waiting ≠ none → (s.port p).queue ≠ []) →
      s.PortsSound := by
    intro _ hw
    rw [portsSound_iff]
    intro q
    by_cases e : q = p
    · subst e; exact ⟨hs.1, hw⟩
    · exact hs.2 q e
  unfold State.takeWaiting
  split
  · split
    · exact portsSound_of_later (later_takeFrame _ p _)
        (setPort_keeps_portsSound s p _ ⟨⟨hs.1.remains, hs.1.fits⟩, fun h => absurd rfl h⟩ hs.2)
    · next hw => exact hother (x := True) fun h => absurd hw h
  · next hq => exact hother (x := True) fun _ => hq

theorem responseSent_keeps_portsSound (s : State) (p : Port) (lines : Lines) (hs : s.PortsSound) :
    (s.responseSent p lines).PortsSound := by
  have hall := (portsSound_iff s).1 hs
  unfold State.responseSent
  split
  · exact hs
  · next r rest _ =>
    refine takeWaiting_portsSound _ p (soundBut_beginNext _ p (soundBut_perform _ p _ lines ?_))
    refine ⟨?_, fun q hq => ?_⟩
    · rw [State.port_setPort_self]
      exact ⟨(hall p).remains, (hall p).fits⟩
    · rw [State.port_setPort_ne _ _ _ _ hq]
      exact hall q

theorem evolves_judgeCandidate (s : State) (c : List Bool) : s.Evolves (s.judgeCandidate c) := by
  have hmon : ∀ (t : State) m, t.Evolves (t.setMonitor m) := fun t m =>
    (onlyIn_setMonitor t m).evolves (by decide) (by decide)
  have hown : ∀ (t : State) k v, t.Evolves (t.actOnOwn k v) := by
    intro t k v
    unfold State.actOnOwn State.compareStatus State.compareName
    split
    · exact evolves_hearHead t v
    · repeat' split
      all_goals first | exact .refl t | exact hmon t _
  have hverdict : ∀ v, s.Evolves (s.actOnVerdict v) := by
    intro v
    unfold State.actOnVerdict
    extract_lets t
    have ht : s.Evolves t := hmon s _
    split
    · exact (ht.trans (hmon t _)).trans (hown _ _ _)
    all_goals exact ht
  exact ((hverdict _).trans ((onlyIn_lockStep _ _).evolves (by decide) (by decide))).trans
    (hmon _ _)

theorem portsSound_kept : Kept State.PortsSound where
  free := fun _ _ h => portsSound_of_onlyIn h (by decide)
  powerOn := fun _ h => portsSound_of_onlyIn h (by decide) theResetStateIsSound.2.2.2.2.2.2.2.2.2.2.1
  take := fun w s => portsSound_of_later (evolves_take w s).ports
  time := fun s x _ => portsSound_of_onlyIn (onlyIn_setTime s x) (by decide)
  raise := fun s e => portsSound_of_onlyIn (onlyIn_raise s e) (by decide)
  judge := fun s c => portsSound_of_later (evolves_judgeCandidate s c).ports
  miss := fun s => portsSound_of_onlyIn (onlyIn_syncMiss s) (by decide)
  timer := timerRun_keeps_portsSound
  silence := fun s p hs => by
    unfold State.silenceEnd
    split
    · exact hs
    · exact discard_keeps_portsSound s p hs
  char := receiveChar_keeps_portsSound
  request := request_keeps_portsSound
  raw := fun s p _ _ => frameArrives_keeps_portsSound s p _
  sent := responseSent_keeps_portsSound

/-- Settles O60: the operations on notices only lengthen queues and settle holds, so what is left for the
ports are the receivers and the transmitter; the attention unit withstands its events and requests. -/
theorem everyStepKeepsPortsAndAttention : Obligations.EveryStepKeepsPortsAndAttention :=
  ⟨fun s t => portsSound_kept.step s t, fun s t => attentionSound_withstands.kept.step s t⟩

/-! ### The notice table (01 R1) -/

theorem reads_tableSound : Reads State.TableSound [.slots] := by
  intro s t h hs
  have hslots : t.table.slots = s.table.slots := h .slots (by simp)
  have hnotice : t.notice = s.notice := by funext i; rw [State.notice, hslots, State.notice]
  have hnumber : t.numberAt = s.numberAt := by funext i; rw [State.numberAt, hnotice, State.numberAt]
  rw [State.TableSound, hslots, hnotice, hnumber]
  exact hs

theorem State.Evolves.keepsTableSound {s t : State} (h : s.Evolves t) (hs : s.TableSound) :
    t.TableSound := by
  refine ⟨h.length.trans hs.1, fun i hi j hj hsome hsame => ?_⟩
  have hne : t.numberAt i ≠ none := by
    simpa [State.numberAt, Option.isSome_iff_ne_none] using hsome
  have hi' : s.numberAt i = t.numberAt i := ((h.number i).resolve_right hne).symm
  have hj' : s.numberAt j = t.numberAt j := ((h.number j).resolve_right (hsame ▸ hne)).symm
  refine hs.2 i hi j hj ?_ (by rw [hi', hj', hsame])
  rw [← hi'] at hne
  simpa [State.numberAt, Option.isSome_iff_ne_none] using hne

/-- A new number put in a slot. -/
theorem setSlot_new_keeps_tableSound (s : State) (i : Nat) (nt : Notice)
    (hnew : ∀ j, s.numberAt j ≠ some nt.number) (hs : s.TableSound) :
    (s.setSlot i (some nt)).TableSound := by
  have hcases : ∀ j, (j = i ∧ (s.setSlot i (some nt)).numberAt j = some nt.number) ∨
      (s.setSlot i (some nt)).numberAt j = s.numberAt j := by
    intro j
    by_cases e : j = i
    · subst e
      by_cases hj : j < s.table.slots.length
      · exact .inl ⟨rfl, by rw [State.numberAt, State.notice_setSlot_self _ _ _ hj]; rfl⟩
      · exact .inr (by simp [State.numberAt, State.notice, State.setSlot, State.setTable,
          List.set_eq_of_length_le (Nat.not_lt.1 hj)])
    · exact .inr (by rw [State.numberAt, State.notice_setSlot_ne _ _ _ _ e, State.numberAt])
  refine ⟨(s.slots_setSlot_length i _).trans hs.1, fun j hj k hk hsome hsame => ?_⟩
  have hne : (s.setSlot i (some nt)).numberAt j ≠ none := by
    simpa [State.numberAt, Option.isSome_iff_ne_none] using hsome
  rcases hcases j with ⟨ej, hj'⟩ | hj' <;> rcases hcases k with ⟨ek, hk'⟩ | hk'
  · rw [ej, ek]
  · exact absurd (hk'.symm.trans (hsame.symm.trans hj')) (hnew k)
  · exact absurd (hj'.symm.trans (hsame.trans hk')) (hnew j)
  · refine hs.2 j hj k hk ?_ (by rw [← hj', ← hk', hsame])
    rw [hj'] at hne
    simpa [State.numberAt, Option.isSome_iff_ne_none] using hne

theorem acceptSubmit_keeps_tableSound (s : State) (p : Port) (i : Nat) (st : Status) (f : RFlags)
    (d c : Nat) (hs : s.TableSound) : (s.acceptSubmit p i st f d c).1.TableSound :=
  reads_tableSound.of_onlyIn (onlyIn_acceptSubmit s p i st f d c) (by decide) hs

theorem submitNew_keeps_tableSound (p : Port) (a : SubmitArgs) (u : Urgency) (s : State)
    (hnew : ∀ j, s.numberAt j ≠ some a.number.toNat) (hs : s.TableSound) :
    (submitNew p a u s).1.TableSound := by
  unfold submitNew
  split
  · exact hs
  · split
    · exact hs
    · dsimp only
      split
      · exact acceptSubmit_keeps_tableSound _ p _ _ _ _ _
          (setSlot_new_keeps_tableSound s _ _ hnew hs)
      · split
        · exact hs
        · next i v _ =>
          have hfree := evolves_freeAtOnce s i
          refine acceptSubmit_keeps_tableSound _ p _ _ _ _ _
            (reads_tableSound.of_onlyIn (onlyIn_raise _ (.displaced v.number)) (by decide)
              (setSlot_new_keeps_tableSound _ _ _ (fun j => ?_) (hfree.keepsTableSound hs)))
          rcases hfree.number j with e | e
          · rw [e]; exact hnew j
          · rw [e]; exact nofun

theorem handleSubmit_keeps_tableSound (p : Port) (a : SubmitArgs) (s : State) (hs : s.TableSound) :
    (handleSubmit p a s).1.TableSound := by
  unfold handleSubmit
  split
  · exact hs
  · split
    · exact hs
    · split
      · next hnone =>
        refine submitNew_keeps_tableSound p a _ s (fun j hj => ?_) hs
        obtain ⟨nt, hnt, hnumber⟩ := Option.map_eq_some_iff.1 hj
        exact (s.findSlot_eq_none_iff _).1 hnone j nt hnt hnumber
      · next i hfind =>
        obtain ⟨old, hold, hnumber⟩ := State.notice_of_findSlot hfind
        rw [hold]
        dsimp only
        unfold submitExisting
        repeat' split
        all_goals first
          | exact hs
          | exact acceptSubmit_keeps_tableSound _ p _ _ _ _ _
              ((evolves_superseded s i _ (.inr (by
                rw [numberAt_of_notice hold, hnumber]; rfl))).keepsTableSound hs)

theorem tableSound_withstands : Withstands State.TableSound [.slots] where
  reads := reads_tableSound
  reset := reset_tableSound
  ports := by decide
  unread := by decide
  time := by simp
  raise := by simp
  hear := fun _ s v => (evolves_hearHead s v).keepsTableSound
  free := fun _ s i => (evolves_freeAtOnce s i).keepsTableSound
  take := fun w s _ => (evolves_take w s).keepsTableSound
  handle := fun p r s _ hs => by
    by_cases h : ∃ a, r = .submit a
    · obtain ⟨a, rfl⟩ := h
      exact handleSubmit_keeps_tableSound p a s hs
    · exact (evolves_handle p r s fun a e => h ⟨a, e⟩).keepsTableSound hs

/-- Settles O56: only SUBMIT brings a number into the table, and it looks for the number first. -/
theorem everyStepKeepsTheNoticeTable : Obligations.EveryStepKeepsTheNoticeTable :=
  ⟨fun s t => tableSound_withstands.kept.step s t, fun s t => limitsSound_withstands.kept.step s t⟩

end Sys2Proof.Machine
end

section
/-! SUPPORT. What each slot of the notice table holds after an operation on notices: one rule for each
operation, in the words of the statements; before them, membership in sets of channels. -/

namespace Sys2Proof.Machine

variable {s t : State} {ks : List Part}

/-! ### Sets of channels -/

theorem FourSet.ext_mem {x y : FourSet} (h : ∀ n, chMem x n = chMem y n) : x = y :=
  BitVec.eq_of_getLsbD_eq fun i hi => h ⟨i, hi⟩

theorem chMem_chInsert (x : FourSet) (n m : Ch) :
    chMem (chInsert x n) m = (decide (m = n) || chMem x m) := by
  revert x n m; decide

theorem chMem_chErase (x : FourSet) (n m : Ch) :
    chMem (chErase x n) m = (!decide (m = n) && chMem x m) := by
  revert x n m; decide

theorem FourSet.eq_zero_iff (x : FourSet) : x = 0#4 ↔ ∀ n, chMem x n = false := by
  revert x; decide

/-- Membership in the set of the numbers with a property: the sixteen properties are tried. -/
theorem chMem_chSet (f : Ch → Bool) (n : Ch) : chMem (chSet f) n = f n := by
  have htab : f n = ![f 0, f 1, f 2, f 3] n := by fin_cases n <;> rfl
  rw [htab]
  simp only [chSet, channels, List.foldl_cons, List.foldl_nil]
  generalize f 0 = b0
  generalize f 1 = b1
  generalize f 2 = b2
  generalize f 3 = b3
  clear htab
  revert n b0 b1 b2 b3
  decide

/-! ### Records of a notice -/

theorem Notice.record_withRecord (nt : Notice) (n m : Ch) (r : Option Record) :
    (nt.withRecord n r).record m = if m = n then r else nt.record m := by
  unfold Notice.withRecord Notice.record
  split
  · next e => rw [e, Four.get_set_self]
  · next e => exact Four.get_set_ne _ _ _ _ e

theorem Notice.withRecord_record (nt : Notice) (n : Ch) : nt.withRecord n (nt.record n) = nt := by
  unfold Notice.withRecord Notice.record
  rw [Four.set_get]

theorem Record.isAiring_iff (r : Record) : r.isAiring = true ↔ r.mode = .airing := by
  unfold Record.isAiring
  cases r.mode <;> simp

theorem Notice.airsOn_eq (nt : Notice) (n : Ch) :
    nt.airsOn n = (nt.record n).any Record.isAiring := by
  unfold Notice.airsOn
  cases nt.record n <;> rfl

theorem Notice.isLive_iff (nt : Notice) : nt.isLive = true ↔ nt.state = .live := by
  unfold Notice.isLive
  cases nt.state <;> simp

/-- The carrying condition is that a LIVE notice is on the stream (02 R45). -/
theorem State.carries_eq (s : State) (n : Ch) (nt : Notice) :
    s.carries n nt = decide (nt.state = .live ∧ s.onStream n nt.areas) := by
  rw [Bool.eq_iff_iff, decide_eq_true_iff, ← nt.isLive_iff]
  simp only [State.carries, State.wouldCarry, State.onStream, Bool.and_eq_true, decide_eq_true_eq]
  tauto

theorem Notice.withdrawStart_ne_none (nt : Notice) :
    nt.withdrawStart ≠ none ↔ ∃ w, nt.state = .withdrawing w := by
  unfold Notice.withdrawStart
  cases nt.state <;> simp

/-! ### One slot written -/

theorem State.lt_of_notice {i : Nat} {nt : Notice} (h : s.notice i = some nt) :
    i < s.table.slots.length := by
  by_contra hi
  rw [State.notice, List.getD_eq_default _ _ (Nat.le_of_not_lt hi)] at h
  cases h

/-- An occupied slot can be given any content. -/
theorem State.notice_setSlot {i : Nat} {nt : Notice} (h : s.notice i = some nt)
    (x : Option Notice) (j : Nat) :
    (s.setSlot i x).notice j = if j = i then x else s.notice j := by
  split
  · next e => rw [e, State.notice_setSlot_self _ _ _ (State.lt_of_notice h)]
  · next e => exact s.notice_setSlot_ne i j x e

/-- A slot emptied. -/
theorem State.notice_setSlot_none (s : State) (i j : Nat) :
    (s.setSlot i none).notice j = if j = i then none else s.notice j := by
  cases h : s.notice i with
  | some nt => exact State.notice_setSlot h none j
  | none =>
    split
    · next e =>
      subst e
      by_cases hj : j < s.table.slots.length
      · exact s.notice_setSlot_self j none hj
      · rw [State.notice, List.getD_eq_default]
        rw [State.slots_setSlot_length]
        omega
    · next e => exact s.notice_setSlot_ne i j none e

/-- A slot that holds what it held. -/
theorem State.notice_same {i : Nat} {x : Option Notice} (h : s.notice i = x) (j : Nat) :
    s.notice j = if j = i then x else s.notice j := by
  split
  · next e => rw [e, h]
  · rfl

theorem State.notice_cutRun (s : State) (n : Ch) (i j : Nat) : (s.cutRun n i).notice j = s.notice j :=
  (onlyIn_cutRun s n i).notice (by decide) j

theorem State.notice_cutRuns (s : State) (i j : Nat) : (s.cutRuns i).notice j = s.notice j :=
  (onlyIn_cutRuns s i).notice (by decide) j

theorem State.notice_supersede (s : State) (i j : Nat) : (s.supersede i).notice j = s.notice j :=
  ((onlyPorts_supersede i).onlyIn s).notice (by decide) j

theorem State.notice_leaveRemaining (s : State) (i : Nat) (n : Ch) (j : Nat) :
    (s.leaveRemaining i n).notice j = s.notice j :=
  ((onlyPorts_leaveRemaining i n).onlyIn s).notice (by decide) j

theorem State.notice_testHeld (s : State) (i : Nat) (n : Ch) (r : Record) (j : Nat) :
    (s.testHeld i n r).notice j = s.notice j :=
  ((onlyPorts_testHeld i n r).onlyIn s).notice (by decide) j

theorem State.notice_emit (s : State) (n : Ch) (k : Kind) (v : BitVec 48) (j : Nat) :
    (s.emit n k v).notice j = s.notice j := rfl

theorem State.notice_superseded (s : State) (i j : Nat) :
    ((s.supersede i).cutRuns i).notice j = s.notice j := by
  rw [State.notice_cutRuns, State.notice_supersede]

/-- An occupied slot replaced, with its holds ended and its runs cut. -/
theorem State.notice_replaced {i : Nat} {nt : Notice} (h : s.notice i = some nt) (x : Option Notice)
    (j : Nat) : (s.replaced i x).notice j = if j = i then x else s.notice j :=
  State.notice_setSlot (s := (s.holdsEnded i).runsEnded i) h x j

theorem State.notice_freeAtOnce (s : State) (i j : Nat) :
    (s.freeAtOnce i).notice j = if j = i then none else s.notice j := by
  cases h : s.notice i with
  | none =>
    have e : s.freeAtOnce i = s := by rw [State.freeAtOnce, h]
    rw [e]
    exact State.notice_same h j
  | some nt => rw [State.freeAtOnce_eq s i nt h, State.notice_replaced h]

theorem State.notice_beginWithdrawal (s : State) (i j : Nat) :
    (s.beginWithdrawal i).notice j =
      if j = i then (s.notice i).bind fun nt => nt.withdrawn s.table.withdrawCells s.now
      else s.notice j := by
  cases h : s.notice i with
  | none =>
    have e : s.beginWithdrawal i = s := by rw [State.beginWithdrawal, h]
    rw [e]
    exact State.notice_same h j
  | some nt => rw [State.beginWithdrawal_eq s i nt h, State.notice_replaced h]; rfl

/-- What is left of a notice that loses its record on stream `n` (01 R10). -/
def Notice.without (nt : Notice) (n : Ch) : Option Notice :=
  if nt.withdrawStart ≠ none ∧ ∀ m, m ≠ n → nt.record m = none then none
  else some (nt.withRecord n none)

theorem Notice.noRecords_without (nt : Notice) (n : Ch) :
    (nt.withRecord n none).noRecords = true ↔ ∀ m, m ≠ n → nt.record m = none := by
  rw [Notice.noRecords_iff]
  simp only [Notice.record_withRecord]
  constructor
  · intro h m hm
    simpa [hm] using h m
  · intro h m
    by_cases hm : m = n
    · simp [hm]
    · simp [hm, h m hm]

theorem State.notice_removeRecord (s : State) (n : Ch) (i j : Nat) :
    (s.removeRecord n i).notice j =
      if j = i then (s.notice i).bind fun nt => nt.without n else s.notice j := by
  unfold State.removeRecord
  split
  · next h => rw [h]; exact State.notice_same h j
  · next nt h =>
    have hlast : ((nt.withRecord n none).withdrawStart.isSome &&
        (nt.withRecord n none).noRecords) = true ↔
          nt.withdrawStart ≠ none ∧ ∀ m, m ≠ n → nt.record m = none := by
      rw [Bool.and_eq_true, nt.noRecords_without n, Option.isSome_iff_ne_none]
      rfl
    simp only [h, Option.bind_some, Notice.without, hlast]
    split <;> exact State.notice_setSlot h _ j

/-- A LIVE notice's record made to agree with the carrying condition (02 R44, R46). -/
theorem State.notice_reconcile {i : Nat} {nt : Notice} (h : s.notice i = some nt)
    (hl : nt.state = .live) (n : Ch) (j : Nat) :
    (s.reconcile i n).notice j =
      if j = i then some (nt.withRecord n (s.recordFor n nt.areas (nt.record n)))
      else s.notice j := by
  have hcarry : s.carries n nt = decide (s.onStream n nt.areas) := by simp [State.carries_eq, hl]
  have hsame := (State.notice_same h j).symm
  have hairs := nt.airsOn_eq n
  have hkept := nt.withRecord_record n
  unfold State.reconcile
  simp only [h, hcarry, hairs, Record.withdraw_eq]
  cases hr : nt.record n with
  | none =>
    rw [hr] at hkept
    simp only [State.recordFor, Option.any_none, decide_eq_true_eq]
    split
    · exact State.notice_setSlot h _ j
    · rw [if_neg (by simp), hkept, hsame]
  | some r =>
    rw [hr] at hkept
    by_cases hm : r.mode = .airing
    · simp only [State.recordFor, hm, Option.any_some, (r.isAiring_iff).2 hm, decide_eq_true_eq,
        if_true]
      split
      · rw [hkept, hsame]
      · rw [State.notice_leaveRemaining, State.notice_cutRun, State.notice_setSlot h]; rfl
    · have hn : r.isAiring = false := Bool.eq_false_iff.2 fun e => hm (r.isAiring_iff.1 e)
      simp only [State.recordFor, hm, Option.any_some, hn, decide_eq_true_eq, if_false]
      split
      · exact State.notice_setSlot h _ j
      · rw [if_neg (by simp), hkept, hsame]

/-! ### Tests of one slot -/

theorem State.freshRecords_eq (s : State) (nt : Notice) (hl : nt.state = .live) :
    s.freshRecords nt =
      Four.tab fun n => if s.onStream n nt.areas then some (freshAt s.now) else none := by
  unfold State.freshRecords
  congr 1
  funext n
  rw [State.carries_eq]
  simp only [hl, true_and, decide_eq_true_eq]
  rfl

theorem Notice.startReached_iff (nt : Notice) (now : Nat) (hp : nt.state = .pending) :
    nt.startReached now = true ↔ nt.endsAt ≤ now ∨ nt.startsAt.getD 0 ≤ now := by
  unfold Notice.startReached
  cases nt.startsAt <;> simp [hp]

/-- A slot's test against site seconds (01 R6, R7). -/
theorem State.notice_testNotice (i : Nat) (s : State) (j : Nat) :
    (testNotice i s).notice j = if j = i then (s.notice i).bind s.tested else s.notice j := by
  unfold testNotice
  split
  · next h => rw [h]; exact State.notice_same h j
  · next nt h =>
    have hsame := (State.notice_same h j).symm
    rw [h, Option.bind_some]
    unfold State.tested
    cases hst : nt.state with
    | pending =>
      have hend : nt.endReached s.time.seconds = false := by
        simp [Notice.endReached, Notice.isLive, hst]
      simp only [nt.startReached_iff _ hst, hend, Bool.false_eq_true, if_false]
      unfold State.startNotice
      rw [h]
      dsimp only
      by_cases he : nt.endsAt ≤ s.time.seconds
      · rw [if_pos (.inl he), if_pos he, if_pos he, State.notice_setSlot h]
      · by_cases hb : nt.startsAt.getD 0 ≤ s.time.seconds
        · rw [if_pos (.inr hb), if_neg he, if_neg he, if_pos hb, State.notice_setSlot h,
            State.freshRecords_eq s _ rfl]
          rfl
        · rw [if_neg (by simp [he, hb]), if_neg he, if_neg hb, hsame]
    | live =>
      have hstart : nt.startReached s.time.seconds = false := by simp [Notice.startReached, hst]
      have hend : nt.endReached s.time.seconds = decide (nt.endsAt ≤ s.time.seconds) := by
        simp [Notice.endReached, Notice.isLive, hst]
      simp only [hstart, hend, Bool.false_eq_true, if_false, decide_eq_true_eq]
      split
      · rw [State.notice_beginWithdrawal, h]; rfl
      · rw [hsame]
    | withdrawing w =>
      have hstart : nt.startReached s.time.seconds = false := by simp [Notice.startReached, hst]
      have hend : nt.endReached s.time.seconds = false := by
        simp [Notice.endReached, Notice.isLive, hst]
      simp only [hstart, hend, Bool.false_eq_true, if_false]
      rw [hsame]

theorem State.withdrawLimitReached_eq (s : State) (i : Nat) :
    s.withdrawLimitReached i =
      (s.notice i).any fun nt => nt.withdrawStart.any fun w => decide (w + 2400 ≤ s.now) := by
  unfold State.withdrawLimitReached
  cases s.notice i with
  | none => rfl
  | some nt =>
    cases h : nt.withdrawStart with
    | none => simp [h]
    | some w => simp only [h, Option.any_some]; rfl

theorem State.notice_testWithdrawLimit (i : Nat) (s : State) (j : Nat) :
    (testWithdrawLimit i s).notice j =
      if j = i ∧ s.withdrawLimitReached i = true then none else s.notice j := by
  unfold testWithdrawLimit
  split
  · next h => rw [State.notice_setSlot_none, State.notice_cutRuns]; simp [h]
  · next h => simp [h]

/-! ### The work of every slot -/

/-- The slots after the work of every slot, where each slot's work turns the notice in that slot alone
into what `g` gives, and changes nothing that `g` reads. -/
theorem notice_forSlots {f : Nat → State → State} {g : State → Notice → Option Notice}
    (hf : ∀ i (s : State), s.OnlyIn (f i s) ks) (hg : ∀ s t : State, s.OnlyIn t ks → g t = g s)
    (h : ∀ i (s : State) j, (f i s).notice j = if j = i then (s.notice i).bind (g s) else s.notice j)
    (s : State) (j : Nat) :
    (forSlots f s).notice j = if j < 96 then (s.notice j).bind (g s) else s.notice j := by
  have key : ∀ (l : List Nat), l.Nodup → ∀ s,
      (l.foldl (fun t i => f i t) s).notice j =
        if j ∈ l then (s.notice j).bind (g s) else s.notice j := by
    intro l
    induction l with
    | nil => simp
    | cons i l ih =>
      intro hl s
      obtain ⟨hi, hl⟩ := List.nodup_cons.1 hl
      rw [List.foldl_cons, ih hl, hg s _ (hf i s), h i s j]
      by_cases e : j = i
      · subst e
        simp [hi]
      · simp [e]
  have hall := key slotNumbers List.nodup_range s
  simp only [slotNumbers, List.mem_range] at hall
  exact hall

/-! ### What the rules read -/

theorem State.OnlyIn.cover (h : s.OnlyIn t ks) (hc : .cover ∉ ks) (n : Ch) :
    (t.prog n).coverage = (s.prog n).coverage ∧ (t.prog n).carries = (s.prog n).carries :=
  Prod.mk.inj (congrFun (h .cover hc : (fun p => ((t.prog p).coverage, (t.prog p).carries)) =
    fun p => ((s.prog p).coverage, (s.prog p).carries)) n)

theorem State.OnlyIn.onStream (h : s.OnlyIn t ks) (hc : .cover ∉ ks) (hst : .states ∉ ks) (n : Ch)
    (areas : AreaSet) : t.onStream n areas ↔ s.onStream n areas := by
  obtain ⟨hcov, hcarry⟩ := h.cover hc n
  have hstate := congrFun (h .states hst : (fun n => ((t.stream n).state, (t.stream n).startPending)) =
    fun n => ((s.stream n).state, (s.stream n).startPending)) n
  unfold State.onStream
  rw [hcov, hcarry, (Prod.mk.inj hstate).1]

theorem State.OnlyIn.now (h : s.OnlyIn t ks) (ht : .time ∉ ks) : t.now = s.now :=
  congrArg (fun x : SiteTime => x.tickCount) (h .time ht : t.time = s.time)

theorem State.OnlyIn.withdrawCells (h : s.OnlyIn t ks) (hl : .limits ∉ ks) :
    t.table.withdrawCells = s.table.withdrawCells :=
  congrArg (fun x : Four ClassParams × Nat × Nat × Nat => x.2.1) (h .limits hl)

theorem State.OnlyIn.recordFor (h : s.OnlyIn t ks) (hc : .cover ∉ ks) (hst : .states ∉ ks)
    (ht : .time ∉ ks) (hl : .limits ∉ ks) (n : Ch) (areas : AreaSet) (old : Option Record) :
    t.recordFor n areas old = s.recordFor n areas old := by
  have hnow : t.time.tickCount = s.time.tickCount := h.now ht
  unfold State.recordFor
  simp only [h.onStream hc hst, hnow, h.withdrawCells hl]

theorem State.OnlyIn.tested (h : s.OnlyIn t ks) (hc : .cover ∉ ks) (hst : .states ∉ ks)
    (ht : .time ∉ ks) (hl : .limits ∉ ks) : t.tested = s.tested := by
  have htime : t.time = s.time := h .time ht
  funext nt
  unfold State.tested
  simp only [h.onStream hc hst, htime, h.withdrawCells hl]

/-! ### The works of all slots -/

/-- Every slot tested against site seconds (01 R6 to R8). -/
theorem State.notice_testNotices (s : State) (j : Nat) :
    s.testNotices.notice j = if j < 96 then (s.notice j).bind s.tested else s.notice j :=
  notice_forSlots onlyIn_testNotice
    (fun _ _ h => h.tested (by decide) (by decide) (by decide) (by decide))
    State.notice_testNotice s j

/-- What is left of a notice after stream `n` has entered STOPPED (04 R94). -/
def Notice.discarded (nt : Notice) (n : Ch) : Option Notice :=
  if nt.record n = none then some nt else nt.without n

theorem State.notice_discardRecord (n : Ch) (i : Nat) (s : State) (j : Nat) :
    (discardRecord n i s).notice j =
      if j = i then (s.notice i).bind fun nt => nt.discarded n else s.notice j := by
  unfold discardRecord
  split
  · next h => rw [h]; exact State.notice_same h j
  · next nt h =>
    rw [h, Option.bind_some, Notice.discarded]
    split
    · next hr => rw [if_pos hr]; exact State.notice_same h j
    · next r hr =>
      have hsome : ¬ nt.record n = none := by simp [hr]
      rw [if_neg hsome, State.notice_leaveRemaining, State.notice_removeRecord, h]
      rfl

theorem State.notice_enterStopped (s : State) (n : Ch) (j : Nat) :
    (s.enterStopped n).notice j =
      if j < 96 then (s.notice j).bind fun nt => nt.discarded n else s.notice j :=
  notice_forSlots (g := fun _ nt => nt.discarded n) (onlyIn_discardRecord n) (fun _ _ _ => rfl)
    (State.notice_discardRecord n) _ j

/-- A notice after stream `n` has started: a LIVE one whose coverage condition holds has a fresh record
(04 R92). -/
def State.started (s : State) (n : Ch) (nt : Notice) : Notice :=
  if nt.state = .live ∧ (s.prog n).carries = true ∧ (s.prog n).coverage &&& nt.areas ≠ 0#16 then
    nt.withRecord n (some (freshAt s.now))
  else nt

theorem State.wouldCarry_iff (s : State) (n : Ch) (nt : Notice) :
    s.wouldCarry n nt = true ↔
      nt.state = .live ∧ (s.prog n).carries = true ∧ (s.prog n).coverage &&& nt.areas ≠ 0#16 := by
  unfold State.wouldCarry
  rw [Bool.and_eq_true, Bool.and_eq_true, nt.isLive_iff, decide_eq_true_eq, and_assoc]

theorem State.notice_startRecord (n : Ch) (i : Nat) (s : State) (j : Nat) :
    (startRecord n i s).notice j =
      if j = i then (s.notice i).bind fun nt => some (s.started n nt) else s.notice j := by
  unfold startRecord
  split
  · next h => rw [h]; exact State.notice_same h j
  · next nt h =>
    rw [h, Option.bind_some, State.started]
    split
    · next hw =>
      rw [if_pos ((s.wouldCarry_iff n nt).1 hw)]
      exact State.notice_setSlot h _ j
    · next hw =>
      rw [if_neg (mt (s.wouldCarry_iff n nt).2 hw)]
      exact State.notice_same h j

theorem State.OnlyIn.started (h : s.OnlyIn t ks) (hc : .cover ∉ ks) (ht : .time ∉ ks) (n : Ch) :
    t.started n = s.started n := by
  obtain ⟨hcov, hcarry⟩ := h.cover hc n
  funext nt
  unfold State.started
  rw [hcov, hcarry, h.now ht]

theorem State.notice_takeStart (s : State) (n : Ch) (j : Nat) :
    (s.takeStart n).notice j =
      if j < 96 then (s.notice j).map (s.started n) else s.notice j := by
  have h := notice_forSlots (g := fun s nt => some (s.started n nt)) (onlyIn_startRecord n)
    (fun _ _ h => by simp only [h.started (by decide) (by decide) n]) (State.notice_startRecord n)
    (s.setStream n { s.stream n with
      startPending := false, nameCtr := 0, longCtr := 0, state := .running }) j
  rw [Option.map_eq_bind]
  exact h

/-- A notice after the re-evaluation of stream `n` (02 R46). -/
def State.reevaluated (s : State) (n : Ch) (nt : Notice) : Notice :=
  if nt.state = .live then nt.withRecord n (s.recordFor n nt.areas (nt.record n)) else nt

theorem State.notice_reevaluateSlot (n : Ch) (i : Nat) (s : State) (j : Nat) :
    (reevaluateSlot n i s).notice j =
      if j = i then (s.notice i).bind fun nt => some (s.reevaluated n nt) else s.notice j := by
  unfold reevaluateSlot
  split
  · next nt h =>
    rw [h, Option.bind_some, State.reevaluated]
    split
    · next hl =>
      rw [if_pos (nt.isLive_iff.1 hl)]
      exact State.notice_reconcile h (nt.isLive_iff.1 hl) n j
    · next hl =>
      rw [if_neg (mt nt.isLive_iff.2 hl)]
      exact State.notice_same h j
  · next h => rw [h]; exact State.notice_same h j

theorem onlyIn_reevaluateSlot (n : Ch) (i : Nat) (s : State) :
    s.OnlyIn (reevaluateSlot n i s) [.slots, .runs, .ports] := by
  unfold reevaluateSlot
  split
  · split
    · exact onlyIn_reconcile s i n
    · exact .refl _ _
  · exact .refl _ _

theorem State.OnlyIn.reevaluated (h : s.OnlyIn t ks) (hc : .cover ∉ ks) (hst : .states ∉ ks)
    (ht : .time ∉ ks) (hl : .limits ∉ ks) (n : Ch) : t.reevaluated n = s.reevaluated n := by
  funext nt
  simp only [State.reevaluated, h.recordFor hc hst ht hl]

theorem State.notice_reevaluate (s : State) (n : Ch) (j : Nat) :
    (s.reevaluate n).notice j =
      if j < 96 then (s.notice j).map (s.reevaluated n) else s.notice j := by
  rw [Option.map_eq_bind]
  exact notice_forSlots (g := fun s nt => some (s.reevaluated n nt)) (onlyIn_reevaluateSlot n)
    (fun _ _ h => by
      simp only [h.reevaluated (by decide) (by decide) (by decide) (by decide) n])
    (State.notice_reevaluateSlot n) s j

/-- A notice after the re-derivation pass (02 R41, R44). -/
def State.rederived (s : State) (nt : Notice) : Notice :=
  if nt.origin = .explicit then nt
  else if s.map.derive nt.location = 0#16 then { nt with stranded := true }
  else if nt.state = .live ∧ s.map.derive nt.location ≠ nt.areas then { nt with
    areas := s.map.derive nt.location
    stranded := false
    records := Four.tab fun n => s.recordFor n (s.map.derive nt.location) (nt.record n) }
  else { nt with areas := s.map.derive nt.location, stranded := false }

/-- Every record of a LIVE notice reconciled, stream after stream (02 R44). -/
theorem State.notice_reconcileAll {i : Nat} {nt : Notice} (h : s.notice i = some nt)
    (hl : nt.state = .live) (j : Nat) :
    (forChannels (fun n u => u.reconcile i n) s).notice j =
      if j = i then
        some { nt with records := Four.tab fun n => s.recordFor n nt.areas (nt.record n) }
      else s.notice j := by
  have hstep : ∀ (n : Ch) (u : State) (x : Notice), s.OnlyIn u [.slots, .runs, .ports] →
      u.notice i = some x → x.state = .live → x.areas = nt.areas →
      ∀ j, (u.reconcile i n).notice j =
        if j = i then some (x.withRecord n (s.recordFor n nt.areas (x.record n)))
        else u.notice j := by
    intro n u x hu hx hxl hxa j
    rw [State.notice_reconcile hx hxl,
      hu.recordFor (by decide) (by decide) (by decide) (by decide), hxa]
  have honly : ∀ (n : Ch) (u : State), s.OnlyIn u [.slots, .runs, .ports] →
      s.OnlyIn (u.reconcile i n) [.slots, .runs, .ports] := fun n u hu =>
    hu.trans (onlyIn_reconcile u i n) (by decide) (by decide)
  have o0 := honly 0 s (.refl s _)
  have o1 := honly 1 _ o0
  have o2 := honly 2 _ o1
  have e0 := hstep 0 s nt (.refl s _) h hl rfl
  have e1 := hstep 1 _ _ o0 ((e0 i).trans (if_pos rfl)) hl rfl
  have e2 := hstep 2 _ _ o1 ((e1 i).trans (if_pos rfl)) hl rfl
  have e3 := hstep 3 _ _ o2 ((e2 i).trans (if_pos rfl)) hl rfl
  unfold forChannels
  rw [e3 j]
  split
  · rfl
  · next hj => rw [e2 j, if_neg hj, e1 j, if_neg hj, e0 j, if_neg hj]

theorem State.notice_rederiveSlot (i : Nat) (s : State) (j : Nat) :
    (rederiveSlot i s).notice j =
      if j = i then (s.notice i).bind fun nt => some (s.rederived nt) else s.notice j := by
  unfold rederiveSlot
  split
  · next h => rw [h]; exact State.notice_same h j
  · next nt h =>
    rw [h, Option.bind_some]
    by_cases ho : nt.origin = .explicit
    · have hd : nt.isDerived = false := by simp [Notice.isDerived, ho]
      rw [State.rederived, if_pos ho, if_neg (by simp [hd])]
      exact State.notice_same h j
    · have hd : nt.isDerived = true := by
        cases hor : nt.origin with
        | explicit => exact absurd hor ho
        | derived => simp [Notice.isDerived, hor]
      have hset := State.notice_setSlot h (some (nt.rederive s.map))
      rw [State.rederived, if_neg ho, if_pos hd]
      by_cases hz : s.map.derive nt.location = 0#16
      · have hmove : nt.movesPlace s.map = false := by simp [Notice.movesPlace, hz]
        have hre : nt.rederive s.map = { nt with stranded := true } := by
          simp [Notice.rederive, hz]
        simp only [hmove, Bool.and_false, Bool.false_eq_true, if_false, if_pos hz]
        rw [hset, hre]
      · have hre : nt.rederive s.map =
            { nt with areas := s.map.derive nt.location, stranded := false } := by
          simp [Notice.rederive, hz]
        have hmove : (nt.isLive && nt.movesPlace s.map) = true ↔
            nt.state = .live ∧ s.map.derive nt.location ≠ nt.areas := by
          rw [Bool.and_eq_true, nt.isLive_iff]
          simp [Notice.movesPlace, hd, hz]
        dsimp only
        rw [if_neg hz]
        by_cases hm : nt.state = .live ∧ s.map.derive nt.location ≠ nt.areas
        · have hat := (hset i).trans (if_pos rfl)
          rw [hre] at hat hset
          rw [if_pos (hmove.2 hm), if_pos hm, hre, State.notice_reconcileAll hat hm.1 j, hset j]
          by_cases hj : j = i
          · rw [if_pos hj, if_pos hj]
            rfl
          · rw [if_neg hj, if_neg hj, if_neg hj]
        · rw [if_neg (mt hmove.1 hm), if_neg hm, hset, hre]

theorem State.OnlyIn.rederived (h : s.OnlyIn t ks) (hm : .map ∉ ks) (hc : .cover ∉ ks)
    (hst : .states ∉ ks) (ht : .time ∉ ks) (hl : .limits ∉ ks) : t.rederived = s.rederived := by
  have hmap : t.map = s.map := h .map hm
  funext nt
  simp only [State.rederived, hmap, h.recordFor hc hst ht hl]

/-- Every slot derived again (02 R41, R44). -/
theorem State.notice_rederive (s : State) (j : Nat) :
    (forSlots rederiveSlot s).notice j =
      if j < 96 then (s.notice j).map s.rederived else s.notice j := by
  rw [Option.map_eq_bind]
  exact notice_forSlots (g := fun s nt => some (s.rederived nt)) onlyIn_rederiveSlot
    (fun _ _ h => by
      simp only [h.rederived (by decide) (by decide) (by decide) (by decide) (by decide)])
    State.notice_rederiveSlot s j

end Sys2Proof.Machine
end

section
/-! SUPPORT. The carrying condition (02 R45) is kept by every step (O57). The condition is restated for
one notice (`State.Fits`), by its state; an operation on one stream leaves every notice fitting but for
that stream (`State.FitsBut`), and the work on the slots mends it. -/

namespace Sys2Proof.Machine

variable {s t : State} {ks : List Part}

/-! ### The condition of one notice -/

/-- The records of a notice are what its state and the carrying condition ask for (01 R5, R10; 02 R45). -/
def State.Fits (s : State) (nt : Notice) : Prop :=
  match nt.state with
  | .pending => ∀ n, nt.record n = none
  | .live => ∀ n, nt.airsOn n = decide (s.onStream n nt.areas)
  | .withdrawing _ => (∃ n, nt.record n ≠ none) ∧ ∀ n, nt.airsOn n = false

/-- The same, but for the record of stream `n` for a LIVE notice. -/
def State.FitsBut (s : State) (n : Ch) (nt : Notice) : Prop :=
  match nt.state with
  | .pending => ∀ m, nt.record m = none
  | .live => ∀ m, m ≠ n → nt.airsOn m = decide (s.onStream m nt.areas)
  | .withdrawing _ => (∃ m, nt.record m ≠ none) ∧ ∀ m, nt.airsOn m = false

theorem Notice.carriedSet_eq_zero_iff (nt : Notice) :
    nt.carriedSet = 0#4 ↔ ∀ n, nt.airsOn n = false := by
  simp only [FourSet.eq_zero_iff, Notice.carriedSet, chMem_chSet]

theorem State.fits_iff (s : State) (nt : Notice) :
    s.Fits nt ↔ nt.recordsFit = true ∧ ∀ n, nt.airsOn n = s.carries n nt := by
  unfold State.Fits Notice.recordsFit
  simp only [State.carries_eq]
  cases h : nt.state with
  | pending =>
    simp only [nt.noRecords_iff, reduceCtorEq, false_and, decide_false]
    refine ⟨fun h => ⟨h, fun n => ?_⟩, fun h => h.1⟩
    rw [nt.airsOn_eq, h n]
    rfl
  | live => simp
  | withdrawing w =>
    have hsome : nt.noRecords = false ↔ ∃ n, nt.record n ≠ none := by
      rw [← Bool.not_eq_true, nt.noRecords_iff, not_forall]
    simp only [Bool.and_eq_true, Bool.not_eq_true', hsome, beq_iff_eq, nt.carriedSet_eq_zero_iff,
      reduceCtorEq, false_and, decide_false]
    tauto

theorem State.carrying_iff (s : State) :
    s.Carrying ↔ ∀ i < 96, ∀ nt, s.notice i = some nt → s.Fits nt := by
  have hslot : ∀ i, (s.recordsFit i = true ∧ ∀ n : Ch, s.carriesRightly i n = true) ↔
      ∀ nt, s.notice i = some nt → s.Fits nt := by
    intro i
    unfold State.recordsFit State.carriesRightly
    cases s.notice i <;> simp [State.fits_iff]
  unfold State.Carrying
  simp only [hslot]
  rfl

theorem fits_of_onStream {nt : Notice} (h : ∀ n, t.onStream n nt.areas ↔ s.onStream n nt.areas)
    (hs : s.Fits nt) : t.Fits nt := by
  unfold State.Fits at *
  simp only [h]
  exact hs

theorem fitsBut_of_onStream {nt : Notice} {n : Ch}
    (h : ∀ m, m ≠ n → (t.onStream m nt.areas ↔ s.onStream m nt.areas)) (hs : s.Fits nt) :
    t.FitsBut n nt := by
  unfold State.Fits at hs
  unfold State.FitsBut
  cases hst : nt.state with
  | pending => simpa only [hst] using hs
  | live =>
    simp only [hst] at hs
    intro m hm
    rw [hs m]
    simp only [h m hm]
  | withdrawing w => simpa only [hst] using hs

theorem State.OnlyIn.fits (h : s.OnlyIn t ks) (hc : .cover ∉ ks) (hst : .states ∉ ks)
    {nt : Notice} (hs : s.Fits nt) : t.Fits nt :=
  fits_of_onStream (fun n => h.onStream hc hst n _) hs

/-! ### The condition after a change of one notice -/

theorem Notice.airsOn_withRecord (nt : Notice) (n m : Ch) (r : Option Record) :
    (nt.withRecord n r).airsOn m = if m = n then r.any Record.isAiring else nt.airsOn m := by
  rw [Notice.airsOn_eq, Notice.record_withRecord]
  split
  · rfl
  · rw [Notice.airsOn_eq]

/-- A notice that fits but for stream `n` fits with a record of `n` that agrees with it. -/
theorem fits_withRecord {nt : Notice} {n : Ch} (h : s.FitsBut n nt) (hl : nt.state = .live)
    (r : Option Record) (hr : r.any Record.isAiring = decide (s.onStream n nt.areas)) :
    s.Fits (nt.withRecord n r) := by
  have hstate : (nt.withRecord n r).state = .live := hl
  unfold State.FitsBut at h
  unfold State.Fits
  simp only [hl] at h
  simp only [hstate]
  intro m
  rw [Notice.airsOn_withRecord]
  split
  · next e => rw [e]; exact hr
  · next e => exact h m e

/-- A record replaced by one of the same mode. -/
theorem fits_sameMode {nt : Notice} {n : Ch} {r r' : Record} (h : s.Fits nt)
    (hr : nt.record n = some r) (hm : r'.isAiring = r.isAiring) :
    s.Fits (nt.withRecord n (some r')) := by
  have hairs : ∀ m, (nt.withRecord n (some r')).airsOn m = nt.airsOn m := by
    intro m
    rw [Notice.airsOn_withRecord]
    split
    · next e => rw [e, nt.airsOn_eq, hr]; exact hm
    · rfl
  have hstate : (nt.withRecord n (some r')).state = nt.state := rfl
  unfold State.Fits at *
  rw [hstate]
  simp only [hairs]
  split
  · next e =>
    simp only [e] at h
    rw [h n] at hr
    cases hr
  · next e => simp only [e] at h; exact h
  · next e =>
    simp only [e] at h
    exact ⟨⟨n, by simp [Notice.record_withRecord]⟩, h.2⟩

/-- A notice without the record of a stream that does not carry it (01 R10). -/
theorem fits_without {nt nt' : Notice} {n : Ch} (h : s.FitsBut n nt)
    (hoff : nt.state = .live → ¬ s.onStream n nt.areas) (he : nt.without n = some nt') :
    s.Fits nt' := by
  unfold Notice.without at he
  split at he
  · cases he
  · next hleft =>
    cases he
    cases hst : nt.state with
    | live => exact fits_withRecord h hst none (by simp [hoff hst])
    | pending =>
      unfold State.FitsBut at h
      unfold State.Fits
      simp only [hst] at h
      have hstate : (nt.withRecord n none).state = .pending := hst
      simp only [hstate]
      intro m
      rw [Notice.record_withRecord, h m]
      split <;> rfl
    | withdrawing w =>
      unfold State.FitsBut at h
      unfold State.Fits
      simp only [hst] at h
      have hstate : (nt.withRecord n none).state = .withdrawing w := hst
      have hkept : ∃ m, m ≠ n ∧ nt.record m ≠ none := by
        by_contra hnone
        push Not at hnone
        exact hleft ⟨(nt.withdrawStart_ne_none).2 ⟨w, hst⟩, hnone⟩
      obtain ⟨m, hm, hrec⟩ := hkept
      simp only [hstate]
      refine ⟨⟨m, by rwa [Notice.record_withRecord, if_neg hm]⟩, fun k => ?_⟩
      rw [Notice.airsOn_withRecord]
      split
      · rfl
      · exact h.2 k

theorem Record.withdrawn_isAiring (w now : Nat) (r : Record) :
    (r.withdrawn w now).isAiring = false := by
  unfold Record.withdrawn
  split
  · rfl
  · next h => exact Bool.eq_false_iff.2 fun e => h (r.isAiring_iff.1 e)

/-- A notice that begins withdrawal (01 R9). -/
theorem fits_withdrawn {nt nt' : Notice} {w now : Nat} (he : nt.withdrawn w now = some nt') :
    s.Fits nt' := by
  unfold Notice.withdrawn at he
  split at he
  · cases he
  · next hsome =>
    cases he
    obtain ⟨n, hn⟩ := not_forall.1 hsome
    refine ⟨⟨n, ?_⟩, fun m => ?_⟩
    · simpa [Notice.record] using hn
    · rw [Notice.airsOn_eq, Notice.record, Four.get_tab]
      cases nt.record m with
      | none => rfl
      | some r => exact r.withdrawn_isAiring w now

/-- A LIVE notice with fresh records (01 R6, R20). -/
theorem fits_fresh {nt : Notice} (hl : nt.state = .live)
    (hr : ∀ n, nt.record n = if s.onStream n nt.areas then some (freshAt s.now) else none) :
    s.Fits nt := by
  unfold State.Fits
  simp only [hl]
  intro n
  rw [nt.airsOn_eq, hr n]
  split <;> simp [*, freshAt, Record.isAiring]

theorem fits_tested {nt nt' : Notice} (h : s.Fits nt) (he : s.tested nt = some nt') : s.Fits nt' := by
  unfold State.tested at he
  split at he
  · split at he
    · cases he
    · split at he
      · cases he
        exact fits_fresh rfl fun n => by simp only [Notice.record, Four.get_tab]; rfl
      · cases he
        exact h
  · split at he
    · exact fits_withdrawn he
    · cases he
      exact h
  · cases he
    exact h

theorem State.recordFor_isAiring (s : State) (n : Ch) (areas : AreaSet) (old : Option Record) :
    (s.recordFor n areas old).any Record.isAiring = decide (s.onStream n areas) := by
  unfold State.recordFor
  split
  · next r =>
    split
    · next hm =>
      split
      · next h => simp [h, (r.isAiring_iff).2 hm]
      · next h => simp [h, Record.withdrawn_isAiring]
    · next hm =>
      split
      · next h => rw [decide_eq_true h]; rfl
      · next h =>
        simp only [h, Option.any_some, decide_false]
        exact Bool.eq_false_iff.2 fun e => hm (r.isAiring_iff.1 e)
  · split
    · next h => rw [decide_eq_true h]; rfl
    · next h => rw [decide_eq_false h]; rfl

/-! ### Operations on the notice table -/

/-- An operation that touches no stream's coverage and state keeps the condition where each slot holds
what it held or a notice that fits. -/
theorem carrying_of_onlyIn (h : s.OnlyIn t ks) (hc : .cover ∉ ks) (hst : .states ∉ ks)
    (hn : ∀ i < 96, ∀ nt, t.notice i = some nt → s.notice i = some nt ∨ s.Fits nt)
    (hs : s.Carrying) : t.Carrying := by
  rw [State.carrying_iff] at *
  intro i hi nt hnt
  rcases hn i hi nt hnt with e | e
  · exact h.fits hc hst (hs i hi nt e)
  · exact h.fits hc hst e

theorem reads_carrying : Reads State.Carrying [.slots, .cover, .states] := by
  intro s t h hs
  have hnotice : ∀ i, t.notice i = s.notice i := fun i => by
    have hslots : t.table.slots = s.table.slots := h .slots (by simp)
    rw [State.notice, hslots, State.notice]
  have hcover : (fun p => ((t.prog p).coverage, (t.prog p).carries)) =
    fun p => ((s.prog p).coverage, (s.prog p).carries) := h .cover (by simp)
  have hstate : (fun n => ((t.stream n).state, (t.stream n).startPending)) =
    fun n => ((s.stream n).state, (s.stream n).startPending) := h .states (by simp)
  rw [State.carrying_iff] at *
  intro i hi nt hnt
  refine fits_of_onStream (fun n => ?_) (hs i hi nt ((hnotice i).symm.trans hnt))
  obtain ⟨hcov, hcarry⟩ := Prod.mk.inj (congrFun hcover n)
  unfold State.onStream
  rw [hcov, hcarry, (Prod.mk.inj (congrFun hstate n)).1]

/-- A slot written with nothing, or with a notice that fits. -/
theorem setSlot_keeps_carrying (s : State) (i : Nat) (x : Option Notice)
    (hx : i < 96 → ∀ nt, x = some nt → s.Fits nt) (hs : s.Carrying) : (s.setSlot i x).Carrying := by
  refine carrying_of_onlyIn (onlyIn_setSlot s i x) (by decide) (by decide) (fun j hj nt hnt => ?_) hs
  by_cases e : j = i
  · subst e
    by_cases hlen : j < s.table.slots.length
    · rw [State.notice_setSlot_self _ _ _ hlen] at hnt
      exact .inr (hx hj nt hnt)
    · rw [State.notice, List.getD_eq_default] at hnt
      · cases hnt
      · rw [State.slots_setSlot_length]
        omega
  · rw [State.notice_setSlot_ne _ _ _ _ e] at hnt
    exact .inl hnt

/-- A record of a notice in the table replaced by one of the same mode. -/
theorem sameMode_keeps_carrying {i : Nat} {nt : Notice} {n : Ch} {r r' : Record}
    (hn : s.notice i = some nt) (hr : nt.record n = some r) (hm : r'.isAiring = r.isAiring)
    (hs : s.Carrying) : (s.setSlot i (some (nt.withRecord n (some r')))).Carrying :=
  setSlot_keeps_carrying s i _ (fun hi _ e => by
    cases e
    exact fits_sameMode ((s.carrying_iff).1 hs i hi nt hn) hr hm) hs

/-- One slot's work that leaves in the slot nothing or a notice that fits. -/
theorem slotWork_keeps_carrying {i : Nat} {x : Option Notice} (h : s.OnlyIn t ks) (hc : .cover ∉ ks)
    (hst : .states ∉ ks) (hn : ∀ j, t.notice j = if j = i then x else s.notice j)
    (hx : i < 96 → ∀ nt, x = some nt → s.Fits nt) (hs : s.Carrying) : t.Carrying := by
  refine carrying_of_onlyIn h hc hst (fun j hj nt hnt => ?_) hs
  rw [hn j] at hnt
  split at hnt
  · next e => exact .inr (hx (e ▸ hj) nt hnt)
  · exact .inl hnt

theorem testNotice_keeps_carrying (i : Nat) (s : State) (hs : s.Carrying) :
    (testNotice i s).Carrying := by
  refine slotWork_keeps_carrying (onlyIn_testNotice i s) (by decide) (by decide)
    (State.notice_testNotice i s) (fun hi nt h => ?_) hs
  obtain ⟨old, hold, htest⟩ := Option.bind_eq_some_iff.1 h
  exact fits_tested ((s.carrying_iff).1 hs i hi old hold) htest

theorem testWithdrawLimit_keeps_carrying (i : Nat) (s : State) (hs : s.Carrying) :
    (testWithdrawLimit i s).Carrying := by
  refine carrying_of_onlyIn (onlyIn_testWithdrawLimit i s) (by decide) (by decide)
    (fun j _ nt h => ?_) hs
  rw [State.notice_testWithdrawLimit] at h
  split at h
  · cases h
  · exact .inl h

theorem freeAtOnce_keeps_carrying (s : State) (i : Nat) (hs : s.Carrying) :
    (s.freeAtOnce i).Carrying :=
  slotWork_keeps_carrying (onlyIn_freeAtOnce s i) (by decide) (by decide)
    (s.notice_freeAtOnce i) (fun _ _ e => by cases e) hs

theorem beginWithdrawal_keeps_carrying (s : State) (i : Nat) (hs : s.Carrying) :
    (s.beginWithdrawal i).Carrying := by
  refine slotWork_keeps_carrying (onlyIn_beginWithdrawal s i) (by decide) (by decide)
    (s.notice_beginWithdrawal i) (fun _ nt h => ?_) hs
  obtain ⟨old, -, hw⟩ := Option.bind_eq_some_iff.1 h
  exact fits_withdrawn hw

/-- A notice that fits but for stream `n` is mended by the reconciliation of `n`. -/
theorem fits_reconciled {nt : Notice} {n : Ch} (h : s.FitsBut n nt) (hl : nt.state = .live) :
    s.Fits (nt.withRecord n (s.recordFor n nt.areas (nt.record n))) :=
  fits_withRecord h hl _ (s.recordFor_isAiring n nt.areas _)

theorem hearHead_keeps_carrying (s : State) (v : BitVec 48) (hs : s.Carrying) :
    (s.hearHead v).Carrying := by
  have htally : ∀ f, (s.tally f).Carrying := fun f =>
    reads_carrying.of_onlyIn (onlyIn_setMonitor s _) (by decide) hs
  unfold State.hearHead
  dsimp only
  split
  · exact htally _
  · split
    · exact htally _
    · next i _ _ nt h =>
      split
      · next r hr =>
        split
        · exact reads_carrying.of_onlyIn ((onlyPorts_testHeld i _ _).onlyIn _) (by decide)
            (sameMode_keeps_carrying (s := s.tally _) h hr rfl (htally _))
        · exact htally _
      · exact htally _

/-! ### The work of a stream -/

theorem emit_keeps_carrying (s : State) (n : Ch) (k : Kind) (v : BitVec 48) (hs : s.Carrying) :
    (s.emit n k v).Carrying := reads_carrying.of_onlyIn (onlyIn_emit s n k v) (by decide) hs

theorem completeRun_keeps_carrying (s : State) (n : Ch) (i head : Nat) (hs : s.Carrying) :
    (s.completeRun n i head).Carrying := by
  unfold State.completeRun
  extract_lets x t
  have ht : t.Carrying :=
    reads_carrying.of_onlyIn (ks := [.runs]) (onlyIn_setStream (.inr ⟨rfl, rfl⟩) (.inl (by decide))
      (.inr ⟨rfl, rfl⟩)) (by decide) hs
  split
  · exact ht
  · next nt h =>
    split
    · exact ht
    · next r hr =>
      exact reads_carrying.of_onlyIn ((onlyPorts_testHeld i n _).onlyIn _) (by decide)
        (sameMode_keeps_carrying h hr rfl ht)

theorem setRun_keeps_carrying (s : State) (n : Ch) (r : Option Run) (hs : s.Carrying) :
    (s.setStream n { s.stream n with run := r }).Carrying :=
  reads_carrying.of_onlyIn (ks := [.runs]) (onlyIn_setStream (.inr ⟨rfl, rfl⟩) (.inl (by decide))
    (.inr ⟨rfl, rfl⟩)) (by decide) hs

theorem sendWithdraw_keeps_carrying (s : State) (n : Ch) (i : Nat) (nt : Notice) (r : Record)
    (hn : s.notice i = some nt) (hr : nt.record n = some r) (hs : s.Carrying) :
    (s.sendWithdraw n i nt r).Carrying := by
  have ht := emit_keeps_carrying s n .withdraw (withdrawPayload nt) hs
  unfold State.sendWithdraw
  dsimp only
  split
  · exact ht
  · next left hm =>
    have hoff : r.isAiring = false := by simp [Record.isAiring, hm]
    split
    · refine slotWork_keeps_carrying (onlyIn_removeRecord _ n i) (by decide) (by decide)
        (State.notice_removeRecord _ n i) (fun hi nt' h => ?_) ht
      rw [State.notice_emit, hn, Option.bind_some] at h
      have hfits := (State.carrying_iff _).1 ht i hi nt hn
      refine fits_without (fitsBut_of_onStream (fun _ _ => Iff.rfl) hfits) (fun hl => ?_) h
      have hairs : nt.airsOn n = false := by rw [nt.airsOn_eq, hr]; exact hoff
      unfold State.Fits at hfits
      simp only [hl] at hfits
      simpa [hairs] using hfits n
    · exact sameMode_keeps_carrying (s := s.emit n .withdraw (withdrawPayload nt)) hn hr
        (by rw [hoff]; rfl) ht

theorem arbitrate_keeps_carrying (s : State) (n : Ch) (hs : s.Carrying) :
    (s.arbitrate n).Carrying := by
  unfold State.arbitrate
  split
  · next run _ =>
    unfold State.sendRunCell
    split
    · exact emit_keeps_carrying s n _ _ hs
    · dsimp only
      split
      · exact setRun_keeps_carrying _ n _ (emit_keeps_carrying s n _ _ hs)
      · exact completeRun_keeps_carrying _ n _ _ (emit_keeps_carrying s n _ _ hs)
  · split
    · next i nt r h =>
      obtain ⟨-, hn, hr, -⟩ := nextWithdrawal_mem h
      exact sendWithdraw_keeps_carrying s n i nt r hn hr hs
    · split
      · exact setRun_keeps_carrying _ n _ (emit_keeps_carrying s n _ _ hs)
      · exact emit_keeps_carrying s n _ _ hs

/-- A change of streams that leaves the STOPPED ones STOPPED, and no others, keeps the condition. -/
theorem carrying_of_streams (h : s.OnlyIn t ks) (hc : .cover ∉ ks) (hsl : .slots ∉ ks)
    (hst : ∀ n, (t.stream n).state = .stopped ↔ (s.stream n).state = .stopped)
    (hs : s.Carrying) : t.Carrying := by
  rw [State.carrying_iff] at *
  intro i hi nt hnt
  refine fits_of_onStream (fun n => ?_) (hs i hi nt ((h.notice hsl i).symm.trans hnt))
  obtain ⟨hcov, hcarry⟩ := h.cover hc n
  unfold State.onStream
  rw [hcov, hcarry, Ne, Ne, hst n]

/-- A stream written so that it is STOPPED exactly if it was. -/
theorem setStream_keeps_carrying (s : State) (n : Ch) (x : Stream)
    (hx : x.state = .stopped ↔ (s.stream n).state = .stopped) (hs : s.Carrying) :
    (s.setStream n x).Carrying := by
  refine carrying_of_streams (ks := [.plans, .runs, .states])
    (onlyIn_setStream (.inl (by decide)) (.inl (by decide)) (.inl (by decide))) (by decide)
    (by decide) (fun m => ?_) hs
  rw [State.stream_setStream]
  split
  · next e => rw [e]; exact hx
  · rfl

/-- A notice that is not LIVE fits without regard to the streams. -/
theorem fits_of_fitsBut {nt : Notice} {n : Ch} (h : s.FitsBut n nt) (hl : nt.state ≠ .live) :
    s.Fits nt := by
  unfold State.FitsBut at h
  unfold State.Fits
  cases hst : nt.state with
  | live => exact absurd hst hl
  | pending | withdrawing w => simpa only [hst] using h

/-- Stream `n` enters STOPPED, and its records go (04 R94). -/
theorem enterStopped_keeps_carrying (s : State) (n : Ch) (hs : s.Carrying) :
    (s.enterStopped n).Carrying := by
  have h1 : s.OnlyIn (s.setStream n { s.stream n with state := .stopped, run := none })
      [.runs, .states] :=
    onlyIn_setStream (.inr ⟨rfl, rfl⟩) (.inl (by decide)) (.inl (by decide))
  have h2 : (s.setStream n { s.stream n with state := .stopped, run := none }).OnlyIn
      (s.enterStopped n) [.slots, .ports] := forSlots_onlyIn (onlyIn_discardRecord n) _
  have hoff : ∀ areas, ¬ (s.enterStopped n).onStream n areas := by
    intro areas hon
    have hstate := ((h2.onStream (by decide) (by decide) n areas).1 hon).2.2
    rw [State.stream_setStream_self] at hstate
    exact hstate rfl
  have hothers : ∀ m, m ≠ n → ∀ areas, (s.enterStopped n).onStream m areas ↔ s.onStream m areas := by
    intro m hm areas
    rw [h2.onStream (by decide) (by decide)]
    unfold State.onStream
    rw [State.stream_setStream_ne _ _ _ _ hm]
    rfl
  rw [State.carrying_iff] at *
  intro i hi nt hnt
  rw [State.notice_enterStopped, if_pos hi] at hnt
  obtain ⟨old, hold, hleft⟩ := Option.bind_eq_some_iff.1 hnt
  have hbut := fitsBut_of_onStream (fun m hm => hothers m hm old.areas) (hs i hi old hold)
  unfold Notice.discarded at hleft
  split at hleft
  · next hr =>
    cases hleft
    by_cases hl : nt.state = .live
    · have hfit := fits_withRecord hbut hl (nt.record n) (by
        rw [hr, decide_eq_false (hoff _)]; rfl)
      rwa [nt.withRecord_record] at hfit
    · exact fits_of_fitsBut hbut hl
  · exact fits_without hbut (fun _ => hoff _) hleft

/-- A STOPPED stream `n` starts, with a fresh record for each notice that it carries (04 R92). -/
theorem takeStart_keeps_carrying (s : State) (n : Ch) (hn : (s.stream n).state = .stopped)
    (hs : s.Carrying) : (s.takeStart n).Carrying := by
  have h1 : s.OnlyIn (s.setStream n
      { s.stream n with startPending := false, nameCtr := 0, longCtr := 0, state := .running })
      [.states] := onlyIn_setStream (.inr ⟨rfl, rfl⟩) (.inr rfl) (.inl (by decide))
  have h2 : (s.setStream n
      { s.stream n with startPending := false, nameCtr := 0, longCtr := 0, state := .running }).OnlyIn
      (s.takeStart n) [.slots] := forSlots_onlyIn (onlyIn_startRecord n) _
  have hon : ∀ areas, (s.takeStart n).onStream n areas ↔
      (s.prog n).carries = true ∧ (s.prog n).coverage &&& areas ≠ 0#16 := by
    intro areas
    rw [h2.onStream (by decide) (by decide)]
    unfold State.onStream
    rw [State.stream_setStream_self]
    simp
  have hothers : ∀ m, m ≠ n → ∀ areas, (s.takeStart n).onStream m areas ↔ s.onStream m areas := by
    intro m hm areas
    rw [h2.onStream (by decide) (by decide)]
    unfold State.onStream
    rw [State.stream_setStream_ne _ _ _ _ hm]
    rfl
  rw [State.carrying_iff] at *
  intro i hi nt hnt
  rw [State.notice_takeStart, if_pos hi] at hnt
  obtain ⟨old, hold, rfl⟩ := Option.map_eq_some_iff.1 hnt
  have hfits := hs i hi old hold
  have hbut := fitsBut_of_onStream (fun m hm => hothers m hm old.areas) hfits
  unfold State.started
  by_cases hl : old.state = .live
  · by_cases hc : (s.prog n).carries = true ∧ (s.prog n).coverage &&& old.areas ≠ 0#16
    · rw [if_pos ⟨hl, hc⟩]
      refine fits_withRecord hbut hl _ ?_
      rw [decide_eq_true ((hon _).2 hc)]
      rfl
    · rw [if_neg fun h => hc h.2]
      have hfit := fits_withRecord hbut hl (old.record n) (by
        rw [decide_eq_false (mt (hon _).1 hc), ← old.airsOn_eq]
        unfold State.Fits at hfits
        simp only [hl] at hfits
        rw [hfits n, decide_eq_false fun h => h.2.2 hn])
      rwa [old.withRecord_record] at hfit
  · rw [if_neg fun h => hl h.1]
    exact fits_of_fitsBut hbut hl

theorem StreamState.onLevel_stopped (st : StreamState) (ready : Bool) :
    st.onLevel ready = .stopped ↔ st = .stopped := by
  cases st <;> cases ready <;> simp [StreamState.onLevel]

theorem sampleModulator_keeps_carrying (s : State) (n : Ch) (hs : s.Carrying) :
    (s.sampleModulator n).Carrying := by
  have hlevel : (s.storeLevel n).Carrying :=
    reads_carrying.of_onlyIn (onlyIn_storeLevel s n) (by decide) hs
  exact setStream_keeps_carrying _ n _ (StreamState.onLevel_stopped _ _) hlevel

theorem sendCell_keeps_carrying (s : State) (n : Ch) (hs : s.Carrying) : (s.sendCell n).Carrying := by
  have harb := arbitrate_keeps_carrying s n hs
  unfold State.sendCell
  split
  · exact reads_carrying.of_onlyIn (onlyIn_sendStatus s n) (by decide) hs
  · exact reads_carrying.of_onlyIn (onlyIn_sendName s n) (by decide) hs
  · split
    · exact reads_carrying.of_onlyIn (onlyIn_sendLongName s n _) (by decide) hs
    · exact harb
  · split
    · split
      · exact reads_carrying.of_onlyIn (onlyIn_sendRefer s n _) (by decide) hs
      · exact harb
    · exact harb
  · exact harb

theorem streamWork_keeps_carrying (n : Ch) (s : State) (hs : s.Carrying) :
    (streamWork n s).Carrying := by
  have hstop : (stopStep n s).Carrying := by
    unfold stopStep
    split
    · exact enterStopped_keeps_carrying s n hs
    · exact hs
  have hstart : ∀ t : State, t.Carrying → (startStep n t).Carrying := by
    intro t ht
    unfold startStep
    split
    · next h => exact takeStart_keeps_carrying t n h.2 ht
    · exact ht
  have hplan : ∀ t : State, t.Carrying → (planStep n t).Carrying := fun t =>
    reads_carrying.of_onlyIn (onlyIn_planStep n t) (by decide)
  have hcell : ∀ t : State, t.Carrying → (cellStep n t).Carrying := by
    intro t ht
    unfold cellStep
    split
    · exact sendCell_keeps_carrying t n ht
    · exact setStream_keeps_carrying t n _ Iff.rfl ht
  exact hcell _ (sampleModulator_keeps_carrying _ n (hplan _ (hstart _ hstop)))

/-! ### Requests -/

/-- The records of an updated notice agree with the carrying condition (01 R19). -/
theorem fits_updated (s : State) (old nt : Notice) (hnt : nt.state = .pending ∨ nt.state = .live) :
    s.Fits { nt with
      records := if nt.isLive then Four.tab fun n => updatedRecord s nt n (old.record n)
        else Four.all none } := by
  rcases hnt with hp | hl
  · have hlive : nt.isLive = false := by simp [Notice.isLive, hp]
    unfold State.Fits
    simp [hp, hlive, Notice.record]
  · have hlive : nt.isLive = true := nt.isLive_iff.2 hl
    unfold State.Fits
    simp only [hl, hlive, if_true]
    intro n
    rw [Notice.airsOn_eq, Notice.record, Four.get_tab, updatedRecord, State.carries_eq]
    simp only [hl, true_and, decide_eq_true_eq]
    split
    · next h => rw [decide_eq_true h]; rfl
    · next h =>
      rw [decide_eq_false h, Record.withdraw_eq]
      cases old.record n with
      | none => rfl
      | some r => exact r.withdrawn_isAiring _ _

/-- The records of a new notice agree with the carrying condition (01 R20). -/
theorem fits_placed (s : State) (nt : Notice) (hnt : nt.state = .pending ∨ nt.state = .live) :
    s.Fits { nt with records := s.freshRecords nt } := by
  rcases hnt with hp | hl
  · unfold State.Fits
    simp [hp, Notice.record, State.freshRecords, State.carries_eq]
  · refine fits_fresh (nt := { nt with records := s.freshRecords nt }) hl fun n => ?_
    rw [Notice.record, State.freshRecords_eq s nt hl, Four.get_tab]

theorem startState_cases (now : Nat) (b : Option Nat) :
    startState now b = .pending ∨ startState now b = .live := by
  unfold startState
  split
  · split
    · exact .inl rfl
    · exact .inr rfl
  · exact .inr rfl

theorem updateNotice_keeps_carrying (s : State) (i : Nat) (old nt : Notice)
    (hnt : nt.state = .pending ∨ nt.state = .live) (hs : s.Carrying) :
    (s.updateNotice i old nt).Carrying := by
  have h : s.OnlyIn ((s.supersede i).cutRuns i) [.runs, .ports] :=
    ((onlyPorts_supersede i).onlyIn s).trans (onlyIn_cutRuns _ i) (by decide) (by decide)
  refine setSlot_keeps_carrying _ i _ (fun _ nt' e => ?_)
    (reads_carrying.of_onlyIn h (by decide) hs)
  cases e
  exact h.fits (by decide) (by decide) (fits_updated s old nt hnt)

theorem placeNotice_keeps_carrying (s : State) (i : Nat) (nt : Notice)
    (hnt : nt.state = .pending ∨ nt.state = .live) (hs : s.Carrying) :
    (s.placeNotice i nt).Carrying :=
  setSlot_keeps_carrying s i _ (fun _ _ e => by cases e; exact fits_placed s nt hnt) hs

theorem handleSubmit_keeps_carrying (p : Port) (a : SubmitArgs) (s : State) (hs : s.Carrying) :
    (handleSubmit p a s).1.Carrying := by
  have haccept : ∀ (t : State) i st f d c, t.Carrying → (t.acceptSubmit p i st f d c).1.Carrying :=
    fun t i st f d c => reads_carrying.of_onlyIn (onlyIn_acceptSubmit t p i st f d c) (by decide)
  have hraise : ∀ (t : State) e, t.Carrying → (t.raise e).Carrying := fun t e =>
    reads_carrying.of_onlyIn (onlyIn_raise t e) (by decide)
  have hnt : ∀ q e set origin u,
      (submitNotice a q s.time.seconds e set origin u).state = .pending ∨
        (submitNotice a q s.time.seconds e set origin u).state = .live := fun _ _ _ _ _ =>
    startState_cases _ _
  have hnew : ∀ u, (submitNew p a u s).1.Carrying := by
    intro u
    unfold submitNew
    split
    · exact hs
    · split
      · exact hs
      · dsimp only
        split
        · exact haccept _ _ _ _ _ _ (placeNotice_keeps_carrying s _ _ (hnt _ _ _ _ _) hs)
        · split
          · exact hs
          · next i v _ =>
            exact haccept _ _ _ _ _ _ (hraise _ _ (placeNotice_keeps_carrying _ _ _
              (hnt _ _ _ _ _) (freeAtOnce_keeps_carrying s i hs)))
  unfold handleSubmit
  split
  · exact hs
  · split
    · exact hs
    · split
      · exact hnew _
      · split
        · unfold submitExisting
          split
          · exact hs
          · split
            · exact hs
            · split
              · exact hs
              · split
                · exact hs
                · exact haccept _ _ _ _ _ _
                    (updateNotice_keeps_carrying s _ _ _ (hnt _ _ _ _ _) hs)
        · exact hnew _

theorem supersededSlot_keeps_carrying (s : State) (i : Nat) (hs : s.Carrying) :
    ((s.supersede i).setSlot i none).Carrying :=
  setSlot_keeps_carrying _ i none (fun _ _ e => by cases e)
    (reads_carrying.of_onlyIn ((onlyPorts_supersede i).onlyIn s) (by decide) hs)

theorem handleWithdraw_keeps_carrying (p : Port) (number : BitVec 16) (s : State)
    (hs : s.Carrying) : (handleWithdraw p number s).1.Carrying := by
  unfold handleWithdraw
  repeat' split
  all_goals first
    | exact hs
    | exact supersededSlot_keeps_carrying s _ hs
    | exact beginWithdrawal_keeps_carrying s _ hs

theorem withdrawAllSlot_keeps_carrying (p : Port) (i : Nat) (s : State) (hs : s.Carrying) :
    (withdrawAllSlot p i s).Carrying := by
  unfold withdrawAllSlot
  repeat' split
  all_goals first
    | exact hs
    | exact supersededSlot_keeps_carrying s i hs
    | exact beginWithdrawal_keeps_carrying s i hs

theorem fits_rederived {nt : Notice} (h : s.Fits nt) : s.Fits (s.rederived nt) := by
  unfold State.rederived
  split
  · exact h
  · split
    · exact h
    · split
      · next hm =>
        unfold State.Fits
        simp only [hm.1]
        intro n
        rw [Notice.airsOn_eq, Notice.record, Four.get_tab, State.recordFor_isAiring]
      · next hm =>
        by_cases hl : nt.state = .live
        · have hsame : s.map.derive nt.location = nt.areas := by
            by_contra hne
            exact hm ⟨hl, hne⟩
          rw [hsame]
          exact h
        · unfold State.Fits at *
          cases hst : nt.state with
          | live => exact absurd hst hl
          | pending | withdrawing w => simp only [hst] at h ⊢; exact h

theorem rederivePass_keeps_carrying (s : State) (hs : s.Carrying) : s.rederivePass.1.Carrying := by
  have hpass : (forSlots rederiveSlot s).Carrying := by
    refine carrying_of_onlyIn (forSlots_onlyIn onlyIn_rederiveSlot s) (by decide) (by decide)
      (fun i hi nt h => .inr ?_) hs
    rw [State.notice_rederive, if_pos hi] at h
    obtain ⟨old, hold, rfl⟩ := Option.map_eq_some_iff.1 h
    exact fits_rederived ((s.carrying_iff).1 hs i hi old hold)
  rcases s.rederivePass_cases with e | ⟨k, e⟩
  · rw [e]; exact hpass
  · rw [e]; exact reads_carrying.of_onlyIn (onlyIn_raise _ (.placement k)) (by decide) hpass

/-- Programme `p` given another coverage, and its stream re-evaluated (02 R46). -/
theorem reevaluate_keeps_carrying (s t : State) (p : Ch)
    (h : ∀ i, t.notice i = s.notice i)
    (hothers : ∀ m, m ≠ p → ∀ areas, t.onStream m areas ↔ s.onStream m areas)
    (hs : s.Carrying) : (t.reevaluate p).Carrying := by
  rw [State.carrying_iff] at *
  intro i hi nt hnt
  rw [State.notice_reevaluate, if_pos hi, h] at hnt
  obtain ⟨old, hold, rfl⟩ := Option.map_eq_some_iff.1 hnt
  have hbut := fitsBut_of_onStream (fun m hm => hothers m hm old.areas) (hs i hi old hold)
  refine (onlyIn_reevaluate t p).fits (by decide) (by decide) ?_
  unfold State.reevaluated
  split
  · next hl => exact fits_reconciled hbut hl
  · next hl => exact fits_of_fitsBut hbut hl

theorem applyProgramme_keeps_carrying (s : State) (p : Ch) (code : BitVec 16) (cov : AreaSet)
    (on : Bool) (y : Option Ch) (hs : s.Carrying) : (s.applyProgramme p code cov on y).Carrying := by
  unfold State.applyProgramme
  extract_lets old t1 t2 t3
  have hprog : ∀ m, m ≠ p → t1.prog m = s.prog m := fun m hm => State.prog_setProg_ne _ _ _ _ hm
  have h2 : t2.Carrying := by
    dsimp only [t2]
    split
    · next hsame =>
      refine reads_carrying.of_onlyIn (ks := [.names, .target]) (t := t1)
        (onlyIn_setProg (.inr ⟨hsame.1.symm, hsame.2.symm⟩) (.inl (by decide))
          (.inl (by decide))) (by decide) hs
    · refine reevaluate_keeps_carrying s t1 p (fun _ => rfl) (fun m hm areas => ?_) hs
      unfold State.onStream
      rw [hprog m hm]
      rfl
  have h3 : t3.Carrying := by
    dsimp only [t3]
    split
    · exact h2
    · exact reads_carrying.of_onlyIn (onlyIn_carriesChanged t2 p on) (by decide) h2
  split
  · exact h3
  · exact reads_carrying.of_onlyIn (onlyIn_setAnn t3 p _) (by decide) h3

theorem handleStopStream_keeps_carrying (stream : Byte) (s : State) (hs : s.Carrying) :
    (handleStopStream stream s).1.Carrying := by
  unfold handleStopStream
  split
  · exact hs
  · dsimp only
    split
    case h_1 hst | h_2 hst => exact setStream_keeps_carrying s _ _ (by simp [hst]) hs
    all_goals
      split
      · exact setStream_keeps_carrying s _ _ Iff.rfl hs
      · exact hs

theorem handleStartStream_keeps_carrying (stream : Byte) (s : State) (hs : s.Carrying) :
    (handleStartStream stream s).1.Carrying := by
  have hset : ∀ n, (s.setStream n { s.stream n with startPending := true }).Carrying := fun n =>
    setStream_keeps_carrying s n _ Iff.rfl hs
  unfold handleStartStream
  split
  · exact hs
  · dsimp only
    repeat' split
    all_goals first | exact hs | exact hset _

theorem carrying_withstands : Withstands State.Carrying [.slots, .cover, .states] where
  reads := reads_carrying
  reset := reset_carrying
  ports := by decide
  unread := by decide
  time := by simp
  raise := by simp
  hear := fun _ s v hs => hearHead_keeps_carrying s v hs
  take := fun w s ht hs => by
    cases w <;> simp [workTouches] at ht
    case noticeTest i => exact testNotice_keeps_carrying i s hs
    case stream n => exact streamWork_keeps_carrying n s hs
    case withdrawLimit i => exact testWithdrawLimit_keeps_carrying i s hs
  free := fun _ s i hs => freeAtOnce_keeps_carrying s i hs
  handle := fun p r s ht hs => by
    cases r <;> simp [requestTouches] at ht
    case submit => exact handleSubmit_keeps_carrying p _ s hs
    case withdraw => exact handleWithdraw_keeps_carrying p _ s hs
    case withdrawAll =>
      simp only [handle, handleWithdrawAll]
      exact forSlots_keeps (fun i _ t => withdrawAllSlot_keeps_carrying p i t) s hs
    case purge =>
      simp only [handle, handlePurge]
      repeat' split
      all_goals first | exact hs | exact freeAtOnce_keeps_carrying s _ hs
    case setRange =>
      simp only [handle, handleSetRange]
      repeat' split
      all_goals first
        | exact hs
        | exact rederivePass_keeps_carrying _
            (reads_carrying.of_onlyIn (onlyIn_map s _) (by decide) hs)
    case setDefaultAreas =>
      simp only [handle, handleSetDefaultAreas]
      split
      · exact hs
      · exact rederivePass_keeps_carrying _
          (reads_carrying.of_onlyIn (onlyIn_map s _) (by decide) hs)
    case setProgramme =>
      simp only [handle, handleSetProgramme]
      repeat' split
      all_goals first | exact hs | exact applyProgramme_keeps_carrying s _ _ _ _ _ hs
    case startStream => exact handleStartStream_keeps_carrying _ s hs
    case stopStream => exact handleStopStream_keeps_carrying _ s hs

/-- Settles O57: every operation that writes a slot or a stream's state leaves each notice fitting. -/
theorem everyStepKeepsTheCarryingCondition : Obligations.EveryStepKeepsTheCarryingCondition :=
  carrying_withstands.kept.step

end Sys2Proof.Machine
end

section
/-! SUPPORT. The queue, the reference and power: what a command leaves of the queue (O2), a step (O1),
PORN held low (O3) and its release (O4). -/

namespace Sys2Proof.Machine

variable {s t : State} {ks : List Part}

/-! ### Whole blocks that an operation does not touch -/

theorem State.OnlyIn.pending (h : s.OnlyIn t ks) (he : .env ∉ ks) : t.pending = s.pending :=
  congrArg Prod.fst (h .env he :
    (t.pending, t.due, t.pornLow, t.cuePins, t.mrdyPins) =
      (s.pending, s.due, s.pornLow, s.cuePins, s.mrdyPins))

/-- While PORN is released a command's outcome is what it makes of the state. -/
theorem running_released (hp : s.pornLow = false) (t : State) :
    Machine.running s t = .next t := by
  simp [running_eq_next, hp]

/-! ### The queue is the environment's -/

theorem pending_forPorts {f : Port → State → State}
    (h : ∀ p (s : State), (f p s).pending = s.pending) (s : State) :
    (forPorts f s).pending = s.pending := (h _ _).trans (h _ s)

theorem pending_forSlots {f : Nat → State → State}
    (h : ∀ i (s : State), (f i s).pending = s.pending) (s : State) :
    (forSlots f s).pending = s.pending :=
  forSlots_keeps (P := fun t => t.pending = s.pending) (fun i _ t ht => (h i t).trans ht) s rfl

theorem pending_take (s : State) (w : Work) : (s.take w).pending = s.pending :=
  (onlyIn_take w s).pending (by cases w <;> simp [workTouches])

theorem pending_takeAll (s : State) (ws : List Work) : (s.takeAll ws).pending = s.pending :=
  takeAll_keeps (P := fun t => t.pending = s.pending)
    (fun w t ht => (pending_take t w).trans ht) ws s rfl

theorem pending_works (s : State) (second : Bool) (later : List Work) :
    (s.works second later).pending = s.pending := pending_takeAll s _

theorem pending_discard (s : State) (p : Port) : (s.discard p).pending = s.pending := rfl

theorem pending_timerRun (k : Nat) (p : Port) (s : State) :
    (timerRun k p s).pending = s.pending := by
  unfold timerRun
  split
  · rfl
  · split <;> rfl

theorem pending_tickBoundary (s : State) (lines : Lines) (later : List Work) :
    (s.tickBoundary lines later).pending = s.pending :=
  (pending_works _ _ _).trans ((pending_forPorts (pending_timerRun _) _).trans
    (pending_takeAll s s.due))

theorem pending_takeWhen (due : Bool) (w : Work) (s : State) :
    (takeWhen due w s).pending = s.pending := by
  unfold takeWhen
  split
  · exact pending_take s w
  · rfl

theorem pending_finishFrame (s : State) : s.finishFrame.pending = s.pending := by
  unfold State.finishFrame
  split
  · exact (onlyIn_judgeCandidate s _).pending (by decide)
  · split
    · exact (onlyIn_syncMiss s).pending (by decide)
    · rfl

theorem pending_receiveBit (s : State) (b later : Bool) :
    (s.receiveBit b later).pending = s.pending := by
  unfold State.receiveBit
  split
  · rfl
  · dsimp only
    split
    · exact pending_finishFrame s
    · exact (pending_finishFrame _).trans (pending_finishFrame s)

theorem pending_timeChange (s : State) (f : SiteTime → SiteTime) :
    (s.timeChange f).pending = s.pending := by
  have htests : ∀ t : State, t.testNotices.pending = t.pending := fun t =>
    pending_forSlots (fun i u => pending_take u (.noticeTest i)) t
  exact (pending_take _ .timedFire).trans ((htests _).trans (pending_takeAll s _))

theorem pending_handle (p : Port) (r : Request) (s : State) :
    (handle p r s).1.pending = s.pending := by
  cases htime : changesTime r with
  | true =>
    rcases handle_timeChange p r s htime with e | ⟨f, -, e⟩
    · rw [e]
    · rw [e]; exact pending_timeChange s f
  | false => exact (onlyIn_handle p r s htime).pending (by cases r <;> simp [requestTouches])

theorem pending_answered (p : Port) (code : Byte) (a : Answer) :
    (answered p code a).pending = a.1.pending := by
  unfold answered
  split <;> rfl

theorem pending_dispatch (s : State) (p : Port) (code : Byte) (r : Option Request) :
    (s.dispatch p code r).pending = s.pending := by
  refine (pending_answered p code _).trans ?_
  split
  · rfl
  · split
    · rfl
    · exact pending_handle p _ s

theorem pending_takeFrame (s : State) (p : Port) (f : Frame) :
    (s.takeFrame p f).pending = s.pending := by
  unfold State.takeFrame
  dsimp only
  split
  · exact pending_answered p _ _
  · exact pending_dispatch s p _ _

theorem pending_putWaiting (s : State) (p : Port) (f : Frame) :
    (s.putWaiting p f).pending = s.pending := by
  unfold State.putWaiting
  split <;> rfl

theorem pending_frameArrives (s : State) (p : Port) (f : Frame) :
    (s.frameArrives p f).pending = s.pending := by
  unfold State.frameArrives
  split
  · exact pending_takeFrame s p f
  · exact pending_putWaiting s p f

theorem pending_request (s : State) (p : Port) (r : Request) :
    (s.request p r).pending = s.pending := by
  unfold State.request
  split
  · exact pending_dispatch s p _ _
  · exact pending_putWaiting s p _

theorem pending_strayByte (s : State) (p : Port) : (s.strayByte p).pending = s.pending := by
  unfold State.strayByte
  split <;> rfl

theorem pending_takeByte (s : State) (p : Port) (b : Byte) :
    (s.takeByte p b).1.pending = s.pending := by
  unfold State.takeByte
  split
  case h_2 => exact pending_strayByte s p
  all_goals rfl

theorem pending_receiveChar (s : State) (p : Port) (c : RxChar) :
    (s.receiveChar p c).pending = s.pending := by
  unfold State.receiveChar
  split
  · unfold State.framingError
    split
    · exact pending_strayByte s p
    · rfl
  · split
    · exact pending_takeByte s p _
    · exact (pending_frameArrives _ p _).trans (pending_takeByte s p _)

theorem pending_silenceEnd (s : State) (p : Port) : (s.silenceEnd p).pending = s.pending := by
  unfold State.silenceEnd
  split <;> rfl

theorem pending_perform (s : State) (a : Option After) (lines : Lines) :
    (s.perform a lines).pending = s.pending := by
  unfold State.perform
  split
  · rfl
  · unfold State.changeBaud
    dsimp only
    split <;> rfl
  · exact pending_forSlots (fun i t => (onlyIn_freeAtOnce t i).pending (by decide)) s
  · exact pending_works _ false []

theorem pending_responseSent (s : State) (p : Port) (lines : Lines) :
    (s.responseSent p lines).pending = s.pending := by
  have hbegin : ∀ t : State, (t.beginNext p).pending = t.pending := by
    intro t
    unfold State.beginNext
    split <;> rfl
  have hwaiting : ∀ t : State, (t.takeWaiting p).pending = t.pending := by
    intro t
    unfold State.takeWaiting
    split
    · split
      · exact pending_takeFrame _ p _
      · rfl
    · rfl
  unfold State.responseSent
  split
  · rfl
  · exact (hwaiting _).trans ((hbegin _).trans (pending_perform _ _ lines))

theorem running_pending {u : State} (h : u.pending = s.pending) :
    ∃ t, Machine.running s u = .next t ∧ t.pending = s.pending := by
  refine ⟨_, running_eq_next s u, ?_⟩
  split
  · rfl
  · exact h

/-- Settles O2: every command's meaning is a next state, and no operation of the model writes the
queue. -/
theorem everyCommandAnswersANextState : Obligations.EveryCommandAnswersANextState := by
  intro c s
  cases c with
  | powerOn lines => exact ⟨_, rfl, pending_works _ false []⟩
  | pornHeldLow => exact ⟨_, rfl, rfl⟩
  | tickBoundary lines later => exact running_pending (pending_tickBoundary s lines later)
  | secondBoundary lines later =>
    refine running_pending ?_
    split
    · exact pending_tickBoundary s lines later
    · rfl
  | temporaryTrimExpiry | noticeStart _ | noticeExpiry _ | withdrawLimit _ | confirmLimit _
  | timedChangeFire _ | startTaken _ | enterStopped _ | planTakesEffect _ | runCompletion _
  | leadExpiry _ | hangoverExpiry _ | maximumDuration _ | markWatchExpiry | silenceExpiry =>
    exact running_pending (pending_takeWhen _ _ s)
  | markEdge => exact running_pending rfl
  | candidateComplete =>
    refine running_pending ?_
    split
    · exact (onlyIn_judgeCandidate s _).pending (by decide)
    · rfl
  | syncMiss =>
    refine running_pending ?_
    split
    · exact (onlyIn_syncMiss s).pending (by decide)
    · rfl
  | byteReceived p c => exact running_pending (pending_receiveChar s p c)
  | linkSilenceTimeout p => exact running_pending (pending_silenceEnd s p)
  | responseSent p lines => exact running_pending (pending_responseSent s p lines)
  | unknownRequest p code rest => exact running_pending (pending_frameArrives s p _)
  | receivedBit bit later => exact running_pending (pending_receiveBit s bit later)
  | _ => exact running_pending (pending_request s _ _)

/-! ### PORN held low -/

/-- Settles O3: every output is gated by PORN, and every command but the two of PORN is taken through
`running`. -/
theorem pornHeldLowStopsThePart : Obligations.PornHeldLowStopsThePart := by
  refine ⟨fun s => rfl, fun s hp => ⟨fun n => ?_, ?_, ?_, fun p k => ?_, fun c hc => ?_⟩⟩
  · rw [State.dataOut, if_pos hp]
  · rw [State.bitClock, hp]; rfl
  · rw [State.attnLow, hp]; rfl
  · rw [State.serialOut, if_pos hp]; rfl
  · have hlow : ∀ u, Machine.running s u = .next s := fun u => by simp [running_eq_next, hp]
    cases c with
    | powerOn lines => exact absurd rfl (hc lines)
    | pornHeldLow =>
      have hsame : ({ s with pornLow := true } : State) = s := by rw [← hp]
      exact congrArg Host.Outcome.next hsame
    | _ => exact hlow _

end Sys2Proof.Machine
end

section
/-! SUPPORT. Requests of the site link that one block answers from its own state: attention (O29), links
(O27), marks and trims (O31, O50), class parameters (O38), plans and streams (O45, O46), monitor (O51). -/

namespace Sys2Proof.Machine

/-! ### The numbers in a request -/

theorem chOf?_none {b : Byte} (h : 3 < b.toNat) : chOf? b = none := by
  simp [chOf?]
  omega

theorem chOf?_some {b : Byte} {n : Ch} (h : b.toNat = n.val) : chOf? b = some n := by
  simp [chOf?, h]

theorem chOf?_eq_some_iff {b : Byte} {n : Ch} : chOf? b = some n ↔ b.toNat = n.val := by
  constructor
  · intro h
    unfold chOf? at h
    split at h
    · cases h; rfl
    · contradiction
  · exact chOf?_some

theorem portOf?_none {b : Nat} (h : 1 < b) : portOf? b = none := by
  match b, h with
  | _ + 2, _ => rfl

theorem urgencyOf?_none {b : Nat} (h : 3 < b) : urgencyOf? b = none := by
  match b, h with
  | _ + 4, _ => rfl

theorem urgencyOf?_ix (c : Ch) : ∃ u, urgencyOf? c.val = some u ∧ u.ix = c := by
  match c with
  | 0 => exact ⟨.urgent, rfl, rfl⟩
  | 1 => exact ⟨.high, rfl, rfl⟩
  | 2 => exact ⟨.normal, rfl, rfl⟩
  | 3 => exact ⟨.background, rfl, rfl⟩

theorem beBytes_one_toNat (b : Byte) : beBytes 1 b.toNat = [b] := by
  rw [beBytes_one, BitVec.ofNat_toNat, BitVec.setWidth_eq]

theorem intBytes_one_toInt (b : Byte) : intBytes 1 b.toInt = [b] := by
  have hnat : (b.toInt % 256).toNat = b.toNat := by
    have := b.isLt
    rw [BitVec.toInt_eq_toNat_cond]
    split <;> omega
  rw [intBytes, show ((256 ^ 1 : Nat) : Int) = 256 from rfl, hnat, beBytes_one_toNat]

/-- What a site request's block makes of the state, with its response (09 R182, R185). -/
theorem onRequest_answered (r : Request) {s t : State} {x : Reply} (hr : s.Ready .site)
    (hf : r.fits = true) (h : handle .site r s = (t, some x)) :
    onRequest .site r s =
      .next (t.send .site ⟨requestCode r, x.status, x.flags, x.results, x.next⟩) := by
  rw [onRequest_site r s hr hf, h]
  rfl

@[simp] theorem answered_adjusted (p : Port) (code : Byte) (s : State) (flag : Bool)
    (results : List Byte) :
    answered p code (s, some (Reply.adjusted flag results)) =
      s.send p (okayAdjusted code flag results) := rfl

/-! ### Attention -/

theorem Attention.cleared_eq (a : Attention) :
    a.cleared = { Attention.reset with mask := a.mask } := rfl

/-- Settles O29: the block answers with what stands and clears all but the mask. -/
theorem readAttentionClearsWhatItReports : Obligations.ReadAttentionClearsWhatItReports := by
  intro s hr
  exact onRequest_site .readAttention s hr rfl

/-! ### The links -/

theorem handleSetLink_outOfRange (port baud : Byte) (s : State)
    (h : 1 < port.toNat ∨ 3 < baud.toNat) : handleSetLink port baud s = refuse .outOfRange s := by
  unfold handleSetLink
  split
  · rfl
  · next q hq =>
    have hport : ¬ 1 < port.toNat := fun hlt => by simp [portOf?_none hlt] at hq
    rw [if_pos (h.resolve_left hport)]

theorem handleSetLink_some (port baud : Byte) (s : State) (q : Port)
    (hq : portOf? port.toNat = some q) (hb : baud.toNat ≤ 3) :
    handleSetLink port baud s =
      if (s.port q).baud = baud.toNat then (s, some (Reply.unchanged [port, baud]))
      else (s, some ⟨.ok, RFlags.none, [port, baud], some (.setBaud q baud.toNat)⟩) := by
  have hnot : ¬ 3 < baud.toNat := by omega
  simp [handleSetLink, hq, hnot]

theorem handleRestart_eq (scope : Byte) (s : State) :
    handleRestart scope s =
      if scope = 0#8 then (s, some ⟨.ok, RFlags.none, [scope], some .restartTable⟩)
      else if scope = 1#8 then (s, some ⟨.ok, RFlags.none, [scope], some .restartAll⟩)
      else refuse .outOfRange s := by
  have hzero : scope = 0#8 ↔ scope.toNat = 0 := by rw [← BitVec.toNat_inj]; rfl
  have hone : scope = 1#8 ↔ scope.toNat = 1 := by rw [← BitVec.toNat_inj]; rfl
  unfold handleRestart
  simp only [hzero, hone]
  split
  · next h => rw [if_pos h]
  · next h => rw [if_neg (by omega), if_pos h]
  · next h0 h1 => rw [if_neg h0, if_neg h1]

/-- Settles O27: both requests are answered by their block's tests; what they do stands in the response. -/
theorem linkAndRestartAreAnsweredFirst : Obligations.LinkAndRestartAreAnsweredFirst := by
  intro port baud scope s hr
  refine ⟨fun hout => ?outOfRange, fun q hq hb => ?link, ?restart⟩
  case outOfRange =>
    refine (onRequest_site (.setLink port baud) s hr rfl).trans (congrArg _ ?_)
    exact congrArg (answered .site 0x04#8) (handleSetLink_outOfRange port baud s hout)
  case link =>
    refine (onRequest_site (.setLink port baud) s hr rfl).trans (congrArg _ ?_)
    refine (congrArg (answered .site 0x04#8) (handleSetLink_some port baud s q hq hb)).trans ?_
    split <;> rfl
  case restart =>
    refine (onRequest_site (.restart scope) s hr rfl).trans (congrArg _ ?_)
    refine (congrArg (answered .site 0x06#8) (handleRestart_eq scope s)).trans ?_
    split
    · rfl
    · split <;> rfl

/-! ### Marks and the offset -/

theorem handleSetMarkWatch_eq (enable : Byte) (s : State) :
    handleSetMarkWatch enable s =
      if 1 < enable.toNat then refuse .outOfRange s
      else if enable = 1#8 ∧ s.time.watch = .off then
        (s.setTime { s.time with watch := .watching, watchCtr := 0 }, some (Reply.ok [1#8, 0#8]))
      else if enable = 0#8 ∧ s.time.watch ≠ .off then
        (s.setTime { s.time with watch := .off, watchCtr := 0 }, some (Reply.ok [0#8, 0#8]))
      else (s, some (Reply.unchanged s.time.watchBytes)) := by
  have hzero : enable = 0#8 ↔ enable.toNat = 0 := by rw [← BitVec.toNat_inj]; rfl
  have hone : enable = 1#8 ↔ enable.toNat = 1 := by rw [← BitVec.toNat_inj]; rfl
  unfold handleSetMarkWatch
  simp only [hzero, hone]
  by_cases hbig : 1 < enable.toNat
  · rw [if_pos hbig, if_pos hbig]
  · rw [if_neg hbig, if_neg hbig]
    obtain h | h : enable.toNat = 0 ∨ enable.toNat = 1 := by omega
    all_goals by_cases hoff : s.time.watch = .off <;>
      simp [h, hoff, SiteTime.watchBytes, beBytes_one, WatchState.code]

/-- Settles O31: READ MARK is one answer; the two settings follow their block's tests. -/
theorem markAndOffsetRequests : Obligations.MarkAndOffsetRequests := by
  intro offset enable s hr
  refine ⟨?mark, ?offset, ?watch⟩
  case mark =>
    refine (onRequest_site .readMark s hr rfl).trans (congrArg _ ?_)
    refine congrArg (fun l => (s.setTime _).send .site (okay 0x55#8 (l ++ _ ++ _ ++ _))) ?_
    cases s.time.capture <;> simp [Capture.bytes, optBytes]
  case offset =>
    refine (onRequest_site (.setOffset offset) s hr rfl).trans (congrArg _ ?_)
    refine (congrArg (answered .site 0x56#8) (show handle .site (.setOffset offset) s =
      handleSetOffset offset s from rfl)).trans ?_
    unfold handleSetOffset
    dsimp only
    by_cases h : -24 ≤ offset.toInt ∧ offset.toInt ≤ 24
    · rw [if_pos h, if_neg (by omega), answered_ok, intBytes_one_toInt]
    · rw [if_neg h, if_pos (by omega), answered_refuse]
  case watch =>
    refine (onRequest_site (.setMarkWatch enable) s hr rfl).trans (congrArg _ ?_)
    refine (congrArg (answered .site 0x57#8) (handleSetMarkWatch_eq enable s)).trans ?_
    split
    · rfl
    · split
      · rfl
      · split <;> rfl

/-! ### Trims -/

theorem SiteTime.trimNow_bytes (x : SiteTime) :
    optBytes 4 (x.trimNow.map trimBytes) ++ intBytes 2 x.effectiveTrim =
      (match x.temporary with
        | some (w, k + 1) => [1#8] ++ intBytes 2 w ++ beBytes 2 (k + 1) ++ intBytes 2 w
        | _ => List.replicate 5 0#8 ++ intBytes 2 x.standing) := by
  unfold SiteTime.effectiveTrim SiteTime.trimNow
  rcases x.temporary with _ | ⟨w, _ | k⟩
  · rfl
  · rfl
  · simp [optBytes, trimBytes]

/-- Settles O50: both requests store what `clamp` leaves of their values. -/
theorem trimsAreStored : Obligations.TrimsAreStored := by
  intro trim duration s hr
  refine ⟨?standing, ?temporary⟩
  case standing =>
    refine (onRequest_site (.setTrim trim) s hr rfl).trans (congrArg _ ?_)
    refine congrArg (fun l => (s.setTime _).send .site (okayAdjusted 0x52#8 _ l)) ?_
    rw [List.append_assoc, SiteTime.trimNow_bytes]
    rfl
  case temporary =>
    refine (onRequest_site (.trimFor trim duration) s hr rfl).trans (congrArg _ ?_)
    refine congrArg₂ (fun f l => (s.setTime _).send .site (okayAdjusted 0x53#8 f l)) ?_ ?_
    · rw [Bool.decide_or]; rfl
    · simp only [trimBytes, List.append_assoc]; rfl

/-! ### Class parameters -/

/-- Settles O38: the class is found by its number, and every value is clamped. -/
theorem classAndLimitsAreClamped : Obligations.ClassAndLimitsAreClamped := by
  intro cls settle w base confirm lifetime s hr
  refine ⟨fun hout => ?outOfRange, fun c hc => ?cls, ?limits⟩
  case outOfRange =>
    refine (onRequest_site (.setClass cls base settle) s hr rfl).trans (congrArg _ ?_)
    have hhandle : handleSetClass cls base settle s = refuse .outOfRange s := by
      simp [handleSetClass, urgencyOf?_none hout]
    exact congrArg (answered .site 0x16#8) hhandle
  case cls =>
    obtain ⟨u, hu, rfl⟩ := urgencyOf?_ix c
    refine (onRequest_site (.setClass cls base settle) s hr rfl).trans (congrArg _ ?_)
    have hhandle : handle .site (.setClass cls base settle) s = handleSetClass cls base settle s := rfl
    rw [hhandle, handleSetClass, hc, hu]
    simp only [answered_adjusted]
    refine congrArg₂ (fun f l => (s.setTable _).send .site (okayAdjusted 0x16#8 f l)) ?_ rfl
    rw [Bool.decide_or]
    simp only [clamp, Nat.zero_max]
    rfl
  case limits =>
    refine (onRequest_site (.setNoticeLimits w lifetime confirm) s hr rfl).trans (congrArg _ ?_)
    refine congrArg (fun f => (s.setTable _).send .site (okayAdjusted 0x17#8 f _)) ?_
    rw [Bool.decide_or, Bool.decide_or, ← Bool.or_assoc]
    rfl

end Sys2Proof.Machine
end

section
/-! SUPPORT. The plan and the start of a stream (O45, O46) and the monitor's settings (O51). -/

namespace Sys2Proof.Machine

/-! ### Plans -/

theorem dutyOf?_none {c : Nat} (h : 4 < c) : dutyOf? c = none := by
  match c, h with
  | _ + 5, _ => rfl

@[simp] theorem dutyOf?_code (d : Duty) : dutyOf? (BitVec.ofNat 8 d.code).toNat = some d := by
  cases d <;> rfl

theorem dutiesOf?_none {codes : List Byte} {c : Byte} (hc : c ∈ codes) (h : 4 < c.toNat) :
    dutiesOf? codes = none := by
  unfold dutiesOf?
  induction codes with
  | nil => contradiction
  | cons b rest ih =>
    rw [List.mapM_cons]
    rcases List.mem_cons.1 hc with rfl | hrest
    · simp [dutyOf?_none h]
    · cases hb : dutyOf? b.toNat <;> simp [ih hrest]

theorem dutiesOf?_codes (plan : List Duty) :
    dutiesOf? (plan.map fun d => BitVec.ofNat 8 d.code) = some plan := by
  unfold dutiesOf?
  induction plan with
  | nil => rfl
  | cons d rest ih => rw [List.map_cons, List.mapM_cons, ih, dutyOf?_code]; rfl

theorem planValid_iff {plan : List Duty} (hlen : plan.length = 20) :
    planValid plan = true ↔ Duty.status ∈ plan ∧ Duty.name ∈ plan ∧
      4 ≤ plan.count .openSlot ∧ plan.count .openSlot ≤ 17 := by
  simp only [planValid, hlen, Bool.and_eq_true, decide_eq_true_eq, beq_self_eq_true, true_and,
    and_assoc, ← List.count_pos_iff, Nat.lt_iff_add_one_le, Nat.zero_add]
  rfl

theorem handleSetPlan_outOfRange (stream : Byte) (codes : List Byte) (s : State)
    (h : 3 < stream.toNat ∨ ∃ c ∈ codes, 4 < c.toNat) :
    handleSetPlan stream codes s = refuse .outOfRange s := by
  unfold handleSetPlan
  split
  · rfl
  · next n hn =>
    have hstream : ¬ 3 < stream.toNat := fun hlt => by simp [chOf?_none hlt] at hn
    obtain ⟨c, hc, hbig⟩ := h.resolve_left hstream
    rw [dutiesOf?_none hc hbig]

theorem handleSetPlan_plan (stream : Byte) (plan : List Duty) (s : State) (n : Ch)
    (hn : stream.toNat = n.val) :
    handleSetPlan stream (plan.map fun d => BitVec.ofNat 8 d.code) s =
      if planValid plan then
        (s.setStream n { s.stream n with pendingPlan := some plan },
          some (Reply.ok (beBytes 1 (openDuties plan) ++ beBytes 1 s.ticksToSecond)))
      else refuse .planInvalid s := by
  simp only [handleSetPlan, chOf?_some hn, dutiesOf?_codes]

/-- Settles O45: the codes name the plan's duties, and the plan's test decides. -/
theorem setPlanMakesAPlanPending : Obligations.SetPlanMakesAPlanPending := by
  intro stream codes s hr hlen
  have hfits : (Request.setPlan stream codes).fits = true := by simp [Request.fits, hlen]
  refine ⟨fun hout => ?outOfRange, fun n plan hn hcodes => ?plan⟩
  case outOfRange =>
    exact onRequest_answered _ hr hfits (handleSetPlan_outOfRange stream codes s hout)
  case plan =>
    subst hcodes
    have hhandle := handleSetPlan_plan stream plan s n hn
    have hvalid := planValid_iff (plan := plan) (by simpa using hlen)
    refine ⟨fun h => ?invalid, fun h => ?valid⟩
    case invalid =>
      rw [if_neg (fun hp => h (hvalid.1 hp))] at hhandle
      exact onRequest_answered _ hr hfits hhandle
    case valid =>
      rw [if_pos (hvalid.2 h)] at hhandle
      exact onRequest_answered _ hr hfits hhandle

/-! ### Start and stop -/

theorem Stream.stateBytes_eq (x : Stream) :
    x.stateBytes = [BitVec.ofNat 8 x.state.code, flagByte x.startPending] := by
  rw [Stream.stateBytes, beBytes_one]
  rfl

theorem handleStartStream_some (b : Byte) (s : State) (n : Ch) (hn : b.toNat = n.val) :
    handleStartStream b s =
      if (s.stream n).state = .stopped ∧
          ((s.prog n).code = 0#16 ∨ (s.prog n).variants.get (s.prog n).current = none) then
        refuse .notReady s
      else if (s.stream n).state = .running ∨ (s.stream n).state = .paused ∨
          (s.stream n).startPending = true then
        (s, some (Reply.unchanged (s.stream n).stateBytes))
      else
        (s.setStream n { s.stream n with startPending := true },
          some (Reply.ok { s.stream n with startPending := true }.stateBytes)) := by
  simp only [handleStartStream, chOf?_some hn]
  cases hstate : (s.stream n).state
  case stopped => simp [Programme.currentNames]; rfl
  all_goals simp

theorem handleStopStream_some (b : Byte) (s : State) (n : Ch) (hn : b.toNat = n.val) :
    handleStopStream b s =
      if (s.stream n).state = .running ∨ (s.stream n).state = .paused then
        (s.setStream n { s.stream n with state := .stopping, run := none },
          some (Reply.ok { s.stream n with state := .stopping, run := none }.stateBytes))
      else if (s.stream n).startPending = true then
        (s.setStream n { s.stream n with startPending := false },
          some (Reply.ok { s.stream n with startPending := false }.stateBytes))
      else (s, some (Reply.unchanged (s.stream n).stateBytes)) := by
  simp only [handleStopStream, chOf?_some hn]
  cases hstate : (s.stream n).state <;> simp

/-- Settles O46: the stream is found by its number, and its state and mark decide. -/
theorem startAndStopStream : Obligations.StartAndStopStream := by
  intro b s hr
  refine ⟨fun hout => ⟨?startOut, ?stopOut⟩, fun n hn => ⟨?start, ?stop⟩⟩
  case startOut =>
    refine onRequest_answered (.startStream b) hr rfl (?_ : handleStartStream b s = refuse _ s)
    simp [handleStartStream, chOf?_none hout]
  case stopOut =>
    refine onRequest_answered (.stopStream b) hr rfl (?_ : handleStopStream b s = refuse _ s)
    simp [handleStopStream, chOf?_none hout]
  case start =>
    refine (onRequest_site (.startStream b) s hr rfl).trans (congrArg _ ?_)
    refine (congrArg (answered .site 0x36#8) (handleStartStream_some b s n hn)).trans ?_
    split
    · rfl
    · split
      · rw [answered_unchanged, Stream.stateBytes_eq]
      · rw [answered_ok, Stream.stateBytes_eq]
  case stop =>
    refine (onRequest_site (.stopStream b) s hr rfl).trans (congrArg _ ?_)
    refine (congrArg (answered .site 0x37#8) (handleStopStream_some b s n hn)).trans ?_
    split
    · rw [answered_ok, Stream.stateBytes_eq]
    · split
      · rw [answered_ok, Stream.stateBytes_eq]
      · rw [answered_unchanged, Stream.stateBytes_eq]

/-! ### The monitor's settings -/

theorem Monitor.afresh_eq (m : Monitor) (on : Bool) (w : Ch) (k now : Nat) :
    m.afresh on w k now = { Monitor.reset with
      state := if on then .searching else .off
      watched := w
      tolerance := k
      holdingStart := now
      last := m.last
      span := m.span } := rfl

/-- A byte of a two-valued field (09 R197). -/
theorem byte_flag {b : Byte} (h : b.toNat ≤ 1) : b = 0#8 ∨ b = 1#8 := by
  obtain h | h : b.toNat = 0 ∨ b.toNat = 1 := by omega
  · exact .inl (BitVec.eq_of_toNat_eq h)
  · exact .inr (BitVec.eq_of_toNat_eq h)

theorem Monitor.setBytes_eq (m : Monitor) (enable watched : Byte)
    (he : enable.toNat ≤ 1) (hon : m.enabled = decide (enable = 1#8))
    (hw : watched.toNat = m.watched.val) :
    m.setBytes = [enable, watched] ++ beBytes 1 m.tolerance ++ beBytes 1 m.state.code := by
  have hflag : flagByte m.enabled = enable := by
    rw [hon]
    rcases byte_flag he with rfl | rfl <;> rfl
  rw [Monitor.setBytes, hflag, ← hw, beBytes_one_toNat]
  rfl

theorem handleSetMonitor_outOfRange (enable watched tolerance : Byte) (s : State)
    (h : 1 < enable.toNat ∨ 3 < watched.toNat) :
    handleSetMonitor enable watched tolerance s = refuse .outOfRange s := by
  unfold handleSetMonitor
  split
  · rfl
  · next w hw =>
    have hwatched : ¬ 3 < watched.toNat := fun hlt => by simp [chOf?_none hlt] at hw
    rw [if_pos (h.resolve_right hwatched)]

theorem handleSetMonitor_some (enable watched tolerance : Byte) (s : State) (w : Ch)
    (he : enable.toNat ≤ 1) (hw : watched.toNat = w.val) :
    handleSetMonitor enable watched tolerance s =
      let k := min 1 tolerance.toNat
      let flag := decide (k ≠ tolerance.toNat)
      let fresh := s.monitor.afresh (decide (enable = 1#8)) w k s.now
      if s.monitor.enabled = decide (enable = 1#8) ∧ s.monitor.watched = w ∧
          s.monitor.tolerance = k then
        (s, some ⟨.unchanged, { RFlags.none with adjusted := flag }, s.monitor.setBytes, none⟩)
      else (s.setMonitor fresh, some (Reply.adjusted flag fresh.setBytes)) := by
  have hone : enable = 1#8 ↔ enable.toNat = 1 := by rw [← BitVec.toNat_inj]; rfl
  have hnot : ¬ enable.toNat > 1 := by omega
  simp only [handleSetMonitor, chOf?_some hw, if_neg hnot, hone, clamp, Nat.zero_max]

/-- Settles O51: with the values in range, the settings in force decide whether the monitor starts afresh. -/
theorem setMonitorStartsAfresh : Obligations.SetMonitorStartsAfresh := by
  intro enable watched tolerance s hr
  refine ⟨fun hout => ?outOfRange, fun w he hw => ⟨fun hon hwatched htol => ?same, fun hnew => ?fresh⟩⟩
  case outOfRange =>
    exact onRequest_answered (.setMonitor enable watched tolerance) hr rfl
      (handleSetMonitor_outOfRange enable watched tolerance s hout)
  case same =>
    have hhandle := handleSetMonitor_some enable watched tolerance s w he hw
    dsimp only at hhandle
    rw [if_pos ⟨hon, hwatched, htol⟩,
      Monitor.setBytes_eq s.monitor enable watched he hon (by rw [hwatched, hw]), htol] at hhandle
    exact onRequest_answered (.setMonitor enable watched tolerance) hr rfl hhandle
  case fresh =>
    have hhandle := handleSetMonitor_some enable watched tolerance s w he hw
    dsimp only at hhandle
    rw [if_neg (fun h => hnew.elim (· h.1) (·.elim (· h.2.1) (· h.2.2)))] at hhandle
    refine (onRequest_answered (.setMonitor enable watched tolerance) hr rfl hhandle).trans ?_
    have hon : (s.monitor.afresh (decide (enable = 1#8)) w (min 1 tolerance.toNat) s.now).enabled =
        decide (enable = 1#8) := by
      rw [Monitor.afresh_eq]
      by_cases h : enable = 1#8 <;> simp [Monitor.enabled, h]
    have hbytes := Monitor.setBytes_eq _ enable watched he hon hw
    rw [Monitor.afresh_eq] at hbytes ⊢
    refine congrArg₂ (fun m l => Host.Outcome.next ((s.setMonitor m).send .site
      (okayAdjusted 0x60#8 _ l))) ?_ (hbytes.trans ?_)
    · simp only [decide_eq_true_eq]; rfl
    · refine congrArg ([enable, watched] ++ beBytes 1 (min 1 tolerance.toNat) ++ ·) ?_
      rw [beBytes_one]
      rcases byte_flag he with rfl | rfl <;> rfl

end Sys2Proof.Machine
end

section
/-! SUPPORT. The dispatcher (O24), a step (O1), and the rows of the mark watch and of silence (O16). -/

namespace Sys2Proof.Machine

variable {s : State}

/-! ### The dispatcher -/

/-- A row that carries a request is that request's frame (09 section 9.8). -/
theorem exec_commandRequest {c : Instr} {p : Port} {r : Request}
    (h : commandRequest c = some (p, r)) (s : State) : exec c s = onRequest p r s := by
  cases c <;> cases h <;> rfl

theorem State.discard_eq (s : State) (p : Port) : s.discard p = s.frameLost p := by
  cases p <;> rfl

theorem running_next (hp : s.pornLow = false) (t : State) : running s t = .next t := by
  rw [running, hp]
  rfl

/-- The outcome of a request taken by the dispatcher (09 R185). -/
theorem onRequest_dispatch {p : Port} (r : Request) (hp : s.pornLow = false)
    (hq : (s.port p).queue = []) :
    onRequest p r s =
      .next (s.dispatch p (requestCode r) (if r.fits then some r else none)) := by
  rw [onRequest, running_next hp, State.request, if_pos hq]

theorem State.dispatch_refused {p : Port} {code : Byte} {st : Status} (r : Option Request)
    (h : s.admission p code = some st) : s.dispatch p code r = s.send p (refusal code st) := by
  unfold State.dispatch
  rw [h, answered_refuse]

theorem State.dispatch_badLength {p : Port} {code : Byte} (h : s.admission p code = none) :
    s.dispatch p code none = s.send p (refusal code .badLength) := by
  rw [State.dispatch, h, answered_refuse]

theorem State.dispatch_admitted {p : Port} {code : Byte} (r : Request)
    (h : s.admission p code = none) :
    s.dispatch p code (some r) = answered p code (handle p r s) := by
  rw [State.dispatch, h]

theorem State.admission_busy {p : Port} {code : Byte} (hh : (s.port p).held ≠ none)
    (hc : code ≠ 0x05#8) : s.admission p code = some .busy := by
  rw [State.admission, if_pos ⟨Option.isSome_iff_ne_none.2 hh, hc⟩]

/-- A port that is IDLE, or an ABANDON, is not BUSY (09 R188). -/
theorem State.admission_notBusy {p : Port} {code : Byte}
    (hh : (s.port p).held = none ∨ code = 0x05#8) :
    s.admission p code =
      if code ∉ requestCodes then some .unknownRequest
      else if p = .traffic ∧ code ∉ trafficCodes then some .notPermitted else none := by
  have hbusy : ¬ ((s.port p).held.isSome ∧ code ≠ abandonCode) := by
    rintro ⟨hsome, hcode⟩
    rcases hh with hnone | rfl
    · simp [hnone] at hsome
    · exact hcode rfl
  rw [State.admission, if_neg hbusy]
  simp

theorem State.admission_unknown {p : Port} {code : Byte}
    (hh : (s.port p).held = none ∨ code = 0x05#8) (hc : code ∉ requestCodes) :
    s.admission p code = some .unknownRequest := by
  rw [State.admission_notBusy hh, if_pos hc]

theorem State.admission_notPermitted {code : Byte}
    (hh : (s.port .traffic).held = none ∨ code = 0x05#8) (hk : code ∈ requestCodes)
    (hc : code ∉ trafficCodes) : s.admission .traffic code = some .notPermitted := by
  rw [State.admission_notBusy hh, if_neg (not_not.2 hk), if_pos ⟨rfl, hc⟩]

theorem State.admission_free {p : Port} {code : Byte}
    (hh : (s.port p).held = none ∨ code = 0x05#8) (hk : code ∈ requestCodes)
    (hc : p = .site ∨ code ∈ trafficCodes) : s.admission p code = none := by
  rw [State.admission_notBusy hh, if_neg (not_not.2 hk), if_neg]
  rintro ⟨rfl, hnot⟩
  exact hc.elim nofun hnot

theorem requestCode_mem (r : Request) : requestCode r ∈ requestCodes :=
  List.contains_iff_mem.1 (requestCode_known r)

theorem State.putWaiting_none {p : Port} (f : Frame) (h : (s.port p).waiting = none) :
    s.putWaiting p f = s.setPort p { s.port p with waiting := some f } := by
  rw [State.putWaiting, h]

theorem State.putWaiting_some {p : Port} (f : Frame) (h : (s.port p).waiting ≠ none) :
    s.putWaiting p f = s.frameLost p := by
  obtain ⟨g, hg⟩ := Option.ne_none_iff_exists'.1 h
  rw [State.putWaiting, hg, State.discard_eq]

/-- A frame that finds its port's transmit queue not empty (09 R183). -/
theorem exec_waits {c : Instr} {p : Port} {body : List Byte} (hp : s.pornLow = false)
    (hq : (s.port p).queue ≠ [])
    (hc : (∃ r, commandRequest c = some (p, r) ∧ body = requestBody r) ∨
      ∃ code rest, c = .unknownRequest p code rest ∧ body = code :: rest) :
    exec c s = .next (s.putWaiting p ⟨body, frameCheck body⟩) := by
  rcases hc with ⟨r, hr, rfl⟩ | ⟨code, rest, rfl, rfl⟩
  · rw [exec_commandRequest hr, onRequest, running_next hp, State.request, if_neg hq]
    rfl
  · refine (running_next hp (s.rawRequest p code rest)).trans (congrArg _ ?_)
    rw [State.rawRequest, State.frameArrives, if_neg hq]

theorem exec_unknownRequest {p : Port} {code : Byte} (rest : List Byte) (hp : s.pornLow = false)
    (hq : (s.port p).queue = []) :
    exec (.unknownRequest p code rest) s = .next (s.dispatch p code (parseRequest code rest)) := by
  refine (running_next hp (s.rawRequest p code rest)).trans (congrArg _ ?_)
  rw [State.rawRequest, State.frameArrives, if_pos hq, State.takeFrame]
  simp only [List.headD_cons, ne_eq, not_true, if_false, List.tail_cons]

/-- Settles O24: the tests of `admission` in turn, and `putWaiting` behind a response. -/
theorem theDispatcherRefusesOrWaits : Obligations.TheDispatcherRefusesOrWaits := by
  refine ⟨fun c p r s hp hc hq => ?refuses, fun p code rest s hp hk hq => ?unknown,
    fun c p body s hp hq hc => ⟨fun hw => ?waits, fun hw => ?lost⟩⟩
  case refuses =>
    rw [exec_commandRequest hc, onRequest_dispatch r hp hq]
    refine ⟨fun hh hcode => ?busy, fun hh ht hcode => ?notPermitted,
      fun hh hcode hfits => ?badLength⟩
    case busy => rw [State.dispatch_refused _ (State.admission_busy hh hcode)]
    case notPermitted =>
      subst ht
      rw [State.dispatch_refused _
        (State.admission_notPermitted (.inl hh) (requestCode_mem r) hcode)]
    case badLength =>
      rw [hfits, if_neg Bool.false_ne_true,
        State.dispatch_badLength (State.admission_free (.inl hh) (requestCode_mem r) hcode)]
  case unknown =>
    rw [exec_unknownRequest rest hp hq]
    by_cases hh : (s.port p).held = none
    · rw [if_pos hh, State.dispatch_refused _ (State.admission_unknown (.inl hh) hk)]
    · have hcode : code ≠ 0x05#8 := fun h => hk (by rw [h]; decide)
      rw [if_neg hh, State.dispatch_refused _ (State.admission_busy hh hcode)]
  case waits => rw [exec_waits hp hq hc, State.putWaiting_none _ hw]
  case lost => rw [exec_waits hp hq hc, State.putWaiting_some _ hw]

/-! ### The silence timer -/

/-- The silence timer of a port in assembly reaches its limit with `k` more cycles (09 R181). -/
def PortState.timesOut (x : PortState) (k : Nat) : Bool :=
  decide (x.asm ≠ .hunt ∧ 2457600 ≤ x.timer + k)

/-- A port after `k` cycles of its silence timer (09 R180, R181). -/
def PortState.timed (x : PortState) (k : Nat) : PortState :=
  if x.asm = .hunt then x
  else if x.timesOut k then { x with asm := .hunt, timer := 0, errors := min 65535 (x.errors + 1) }
  else { x with timer := x.timer + k }

/-- The attention unit after LINK for port `p`, if a frame on it was lost (09 R180, 10 R199). -/
def Attention.withLink (a : Attention) (p : Port) (lost : Bool) : Attention :=
  { a with
    pendingKinds := a.pendingKinds ||| (if lost then 0x400#11 else 0#11)
    link := a.link ||| (if lost then portBit p else 0#2) }

theorem Attention.withLink_false (a : Attention) (p : Port) : a.withLink p false = a := by
  simp [Attention.withLink]

theorem timerRun_eq (k : Nat) (p : Port) (s : State) :
    timerRun k p s = { s.setPort p ((s.port p).timed k) with
      attention := s.attention.withLink p ((s.port p).timesOut k) } := by
  unfold timerRun
  by_cases hasm : (s.port p).asm = .hunt
  · have hout : (s.port p).timesOut k = false := by simp [PortState.timesOut, hasm]
    rw [if_pos hasm, PortState.timed, if_pos hasm, State.setPort_port, hout,
      Attention.withLink_false]
  · rw [if_neg hasm, PortState.timed, if_neg hasm]
    by_cases hlimit : (s.port p).timer + k ≥ Config.linkSilence
    · have hout : (s.port p).timesOut k = true := decide_eq_true ⟨hasm, hlimit⟩
      rw [if_pos hlimit, hout, if_pos rfl]
      rfl
    · have hout : (s.port p).timesOut k = false := decide_eq_false fun h => hlimit h.2
      rw [if_neg hlimit, hout, if_neg Bool.false_ne_true, Attention.withLink_false]
      rfl

/-- The silence timers of both ports (09 R181). -/
theorem forPorts_timerRun (k : Nat) (s : State) :
    forPorts (timerRun k) s = { s with
      ports := ⟨s.ports.site.timed k, s.ports.traffic.timed k⟩
      attention := (s.attention.withLink .site (s.ports.site.timesOut k)).withLink .traffic
        (s.ports.traffic.timesOut k) } := by
  rw [forPorts, timerRun_eq, timerRun_eq]
  rfl

/-! ### A step -/

theorem State.flushDue_nil (h : s.due = []) : s.flushDue = s := by
  cases s
  cases h
  rfl

theorem State.referenceCycle_counts (hp : s.pornLow = false)
    (h : s.time.phase + 1 < s.time.tickLength) :
    s.referenceCycle =
      (let t := forPorts (timerRun 1) s.flushDue
       t.setTime { t.time with phase := s.time.phase + 1 }) := by
  have hnot : ¬ s.time.phase + 1 ≥ s.time.tickLength := by omega
  rw [State.referenceCycle, hp, if_neg Bool.false_ne_true, if_neg hnot]

/-- Settles O1: with a command waiting by definition; without one, the cycle ends the tick or runs both
silence timers. -/
theorem stepRunsTheFrontCommand : Obligations.StepRunsTheFrontCommand := by
  refine ⟨fun c rest s h => ?front, fun s hnil => ⟨fun hp => ?low, fun hp hend => ?boundary,
    fun hp hgoes => ?cycle⟩⟩
  case front => rw [step, h]
  case low => rw [step, hnil, State.referenceCycle, if_pos hp]
  case boundary =>
    rw [step, hnil, State.referenceCycle, hp, if_neg Bool.false_ne_true, if_pos hend]
    exact (running_next hp _).symm
  case cycle =>
    intro r ends
    have hstep : step s = .next s.referenceCycle := by rw [step, hnil]
    rw [State.referenceCycle_counts hp hgoes, forPorts_timerRun] at hstep
    refine ⟨State.flushDue_nil, _, hstep, ?time, ?ports, ?attention, ?rest⟩
    case time => rfl
    case ports => intro p; cases p <;> rfl
    case attention =>
      have hkinds : ∀ a b : Bool, (if a then 0x400#11 else 0#11) ||| (if b then 0x400#11 else 0#11) =
          if a || b then 0x400#11 else 0#11 := by decide
      exact congrArg (fun k : BitVec 11 => ({ r.attention with
        pendingKinds := k
        link := _ } : Attention)) ((BitVec.or_assoc _ _ _).trans (congrArg _ (hkinds _ _)))
    case rest => rfl

/-! ### A work taken by its own row -/

theorem running_takeWhen (hp : s.pornLow = false) (due : Bool) (w : Work) :
    running s (takeWhen due w s) = .next (if due then s.takeWork w else s) :=
  running_next hp _

/-- A row whose event is not due does nothing (log entry 4). -/
theorem running_takeWhen_idle (due : Bool) (w : Work) (h : due = false) :
    running s (takeWhen due w s) = .next s := by
  simp [running, takeWhen, h]

theorem running_takeWhen_due (hp : s.pornLow = false) {due : Bool} (w : Work) (h : due = true) :
    running s (takeWhen due w s) =
      .next { s.take w with due := (s.settled w).due } := by
  rw [running_next hp, takeWhen, if_pos h]
  rfl

theorem State.outstanding_iff (s : State) (w : Work) : s.outstanding w = true ↔ w ∈ s.due :=
  List.contains_iff_mem

/-! ### Marks and silence -/

theorem SiteTime.edge_eq (x : SiteTime) :
    x.edge = { x with
      capture := some ⟨x.seconds, x.tickNumber, x.tickCount, x.phase⟩
      fresh := true
      edges := min 255 (x.edges + 1)
      watch := if x.watch = .off then .off else .watching
      watchCtr := 0 } := by
  have hwatch : (if x.watch = .lost then WatchState.watching else x.watch) =
      if x.watch = .off then .off else .watching := by cases x.watch <;> rfl
  rw [SiteTime.edge, hwatch]
  rfl

theorem watchWork_lost (hw : s.time.watch = .watching) (hc : 59 ≤ s.time.watchCtr) :
    watchWork s = { s.withKind 0x200#11 with
      time := { s.time with watch := .lost, watchCtr := 60 } } := by
  have hlimit : s.time.watchCtr + 1 ≥ Config.watchLimit := Nat.succ_le_succ hc
  rw [watchWork, hw]
  dsimp only
  rw [if_pos hlimit]
  rfl

theorem silenceWork_silent (hm : s.monitor.state ≠ .off) (hs : s.monitor.silent = false)
    (hc : 99 ≤ s.monitor.silence) :
    silenceWork s = { s.withKind 0x080#11 with
      monitor := { s.monitor with silence := 100, silent := true } } := by
  have hlimit : ¬ s.monitor.silence + 1 < Config.silenceLimit := by
    simp only [Config.silenceLimit]; omega
  rw [silenceWork, if_neg hm, if_neg hlimit, hs]
  rfl

/-- Settles O16: an edge is one write; each of the two rows takes its work when its count is at its limit,
and is idle otherwise. -/
theorem marksAreCapturedAndWatched : Obligations.MarksAreCapturedAndWatched := by
  refine ⟨fun s hp => ?edge, fun s hp => ⟨fun hdue hw hc => ?lost, fun h => ?watchIdle,
    fun hdue hm hs hc => ?silent, fun h => ?silenceIdle⟩⟩
  case edge =>
    refine (running_next hp s.markEdge).trans (congrArg _ ?_)
    rw [State.markEdge, SiteTime.edge_eq]
    rfl
  case lost =>
    have h : s.watchDue = true := by
      simp [State.watchDue, State.outstanding_iff, hdue, hw, Config.watchLimit]; omega
    refine (running_takeWhen_due hp .markWatch h).trans (congrArg _ ?_)
    rw [State.take, watchWork_lost hw hc]
    rfl
  case watchIdle =>
    refine running_takeWhen_idle _ _ ?_
    rw [State.watchDue, Bool.and_eq_false_iff, Bool.and_eq_false_iff]
    rcases h with h | h
    · simp [h]
    · simp [Config.watchLimit]; omega
  case silent =>
    have h : s.silenceDue = true := by
      simp [State.silenceDue, State.outstanding_iff, hdue, hm, hs, Config.silenceLimit]; omega
    refine (running_takeWhen_due hp .silence h).trans (congrArg _ ?_)
    rw [State.take, silenceWork_silent hm hs hc]
    rfl
  case silenceIdle =>
    refine running_takeWhen_idle _ _ ?_
    rw [State.silenceDue]
    rcases h with h | h | h
    · simp [h]
    · simp [h]
    · simp [Config.silenceLimit]; omega

end Sys2Proof.Machine
end

section
/-! SUPPORT. The name variants of a programme: SET NAME and SELECT NAME (O43). -/

namespace Sys2Proof.Machine

variable {s : State}

/-! ### Names adjusted -/

theorem printable_iff (b : Byte) : printable b = true ↔ 0x20 ≤ b.toNat ∧ b.toNat ≤ 0x7E := by
  simp [printable]

theorem replaceByte_eq (b : Byte) :
    replaceByte b = if 0x20 ≤ b.toNat ∧ b.toNat ≤ 0x7E then b else 0x3F#8 := by
  simp only [replaceByte, printable_iff]

theorem not_printable_eq (b : Byte) :
    (!printable b) = decide (b.toNat < 0x20 ∨ 0x7E < b.toNat) := by
  rw [Bool.eq_iff_iff, Bool.not_eq_true', ← Bool.not_eq_true, printable_iff, decide_eq_true_eq]
  omega

/-- A name cut to `k` characters, its other bytes replaced (05 R104). -/
def cutName (k : Nat) (cs : List Byte) : List Byte :=
  (cs.take k).map fun b => if 0x20 ≤ b.toNat ∧ b.toNat ≤ 0x7E then b else 0x3F#8

/-- A byte of the name that is kept is replaced (05 R104). -/
def nameReplaced (k : Nat) (cs : List Byte) : Bool :=
  (cs.take k).any fun b => decide (b.toNat < 0x20 ∨ 0x7E < b.toNat)

theorem adjustName_eq (k : Nat) (cs : List Byte) :
    adjustName k cs = (cutName k cs, decide (k < cs.length), nameReplaced k cs) := by
  rw [adjustName, cutName, nameReplaced]
  simp only [← replaceByte_eq, ← not_printable_eq]

theorem length_cutName (k : Nat) (cs : List Byte) : (cutName k cs).length = min k cs.length := by
  simp [cutName]

theorem adjustedNames_eq (short long : List Byte) :
    adjustedNames short long =
      ⟨cutName 8 short ++ List.replicate (8 - short.length) 0x20#8,
        if long = [] then none else some (cutName 24 long)⟩ := by
  have hpad : 8 - min 8 short.length = 8 - short.length := by omega
  simp only [adjustedNames, adjustName_eq, padShort, length_cutName, hpad]

theorem nameFlags_eq (short long : List Byte) :
    nameFlags short long =
      ⟨false, decide (8 < short.length ∨ 24 < long.length),
        nameReplaced 8 short || nameReplaced 24 long, false⟩ := by
  simp [nameFlags, adjustName_eq, RFlags.none]

theorem nameBytes_adjusted_short (short long : List Byte) :
    nameBytes (some (adjustedNames short long).short) =
      8#8 :: (adjustedNames short long).short := by
  have hlen : (adjustedNames short long).short.length = 8 := by
    simp [adjustedNames_eq, length_cutName]
    omega
  rw [nameBytes, hlen]

theorem optSegments_adjusted (short long : List Byte) :
    optSegments (adjustedNames short long).long = (min 24 long.length + 3) / 4 := by
  rw [adjustedNames_eq]
  by_cases h : long = []
  · simp [h, optSegments]
  · simp [h, optSegments, longSegments, length_cutName, ceilDiv]

/-! ### A variant written or made current -/

theorem State.setProg_setProg (s : State) (p : Ch) (x y : Programme) :
    (s.setProg p x).setProg p y = s.setProg p y := by
  simp [State.setProg]

theorem State.makeCurrent_eq (s : State) (p v : Ch) :
    s.makeCurrent p v = (s.setProg p { s.prog p with current := v }).setStream p
      { s.stream p with nameCtr := 0, longCtr := 0 } := rfl

/-- A variant written: it is current if all were empty, and a name event follows where the current variant
is written (05 R106). -/
theorem State.writeVariant_eq (s : State) (p v : Ch) (names : Names) :
    s.writeVariant p v names =
      let old := s.prog p
      let fresh := old.noNames
      let t := s.setProg p { old with
        variants := old.variants.set v (some names)
        current := if fresh then v else old.current }
      if fresh = true ∨ v = old.current then
        t.setStream p { s.stream p with nameCtr := 0, longCtr := 0 }
      else t := by
  unfold State.writeVariant
  dsimp only
  cases hfresh : (s.prog p).noNames with
  | true =>
    rw [if_pos rfl, if_pos (.inl rfl), State.makeCurrent_eq, State.prog_setProg_self,
      State.setProg_setProg]
    rfl
  | false => simp; rfl

theorem noNames_eq_decide (g : Programme) : g.noNames = decide (∀ w, g.variants.get w = none) := by
  rw [Bool.eq_iff_iff, Programme.noNames_iff, decide_eq_true_eq]

/-! ### The requests -/

theorem handleSetName_some {bp bv : Byte} {p v : Ch} (short long : List Byte) (s : State)
    (hp : bp.toNat = p.val) (hv : bv.toNat = v.val) :
    handleSetName bp bv short long s =
      if short = [] then setNameClear p v s else setNameWrite p v short long s := by
  simp only [handleSetName, chOf?_some hp, chOf?_some hv]

theorem handleSetName_outOfRange {bp bv : Byte} (short long : List Byte) (s : State)
    (h : 3 < bp.toNat ∨ 3 < bv.toNat) : handleSetName bp bv short long s = refuse .outOfRange s := by
  unfold handleSetName
  split
  · next p v hp hv =>
    rw [chOf?_eq_some_iff] at hp hv
    omega
  · rfl

theorem handleSelectName_outOfRange {bp bv : Byte} (s : State)
    (h : 3 < bp.toNat ∨ 3 < bv.toNat) : handleSelectName bp bv s = refuse .outOfRange s := by
  unfold handleSelectName
  split
  · next p v hp hv =>
    rw [chOf?_eq_some_iff] at hp hv
    omega
  · rfl

theorem handleSelectName_empty {bp bv : Byte} {p v : Ch} (s : State)
    (hp : bp.toNat = p.val) (hv : bv.toNat = v.val) (h : (s.prog p).variants.get v = none) :
    handleSelectName bp bv s = refuse .emptyVariant s := by
  simp only [handleSelectName, chOf?_some hp, chOf?_some hv, h]

theorem handleSelectName_some {bp bv : Byte} {p v : Ch} (s : State) {x : Names}
    (hp : bp.toNat = p.val) (hv : bv.toNat = v.val) (h : (s.prog p).variants.get v = some x) :
    handleSelectName bp bv s =
      (s.makeCurrent p v, some (Reply.ok (beBytes 1 v.val ++ nameBytes (some x.short)))) := by
  simp only [handleSelectName, chOf?_some hp, chOf?_some hv, h]

theorem setNameWrite_current (p v : Ch) (names : Names) :
    ((s.writeVariant p v names).prog p).current =
      if (s.prog p).noNames then v else (s.prog p).current := by
  rw [State.writeVariant_eq]
  dsimp only
  split <;> exact congrArg Programme.current (State.prog_setProg_self s p _)

/-- Settles O43: each request finds its programme and variant by number; what a SET NAME stores is the cut
and padded names. -/
theorem namesAreWrittenClearedAndSelected : Obligations.NamesAreWrittenClearedAndSelected := by
  refine ⟨fun bp bv short long s hr hshort hlen => ⟨fun hout => ?out, fun p v hp hv => ?write⟩,
    fun bp bv long s hr hlen => ⟨fun hout => ⟨?clearOut, ?selectOut⟩,
      fun p v hp hv => ⟨?clear, fun hnone => ?empty, fun x hx => ?select⟩⟩⟩
  case out =>
    exact onRequest_answered (.setName bp bv short long) hr (by simpa [Request.fits] using hlen)
      (handleSetName_outOfRange short long s hout)
  case write =>
    intro old names fresh current t u
    have hhandle := (handleSetName_some short long s hp hv).trans (if_neg hshort)
    refine (onRequest_answered (.setName bp bv short long) hr
      (by simpa [Request.fits] using hlen) hhandle).trans ?_
    have hnames : adjustedNames short long = names := adjustedNames_eq short long
    have hfresh : old.noNames = fresh := noNames_eq_decide old
    have hwritten : s.writeVariant p v names = u := by
      rw [State.writeVariant_eq]
      simp only [old, hfresh, u, t, current]
    have hcurrent : (u.prog p).current = current := by
      rw [← hwritten, setNameWrite_current]
      simp only [old, hfresh, current]
    have hbytes := hnames ▸ nameBytes_adjusted_short short long
    have hsegments := hnames ▸ optSegments_adjusted short long
    simp only [hnames, hwritten, hbytes, hsegments, hcurrent, nameFlags_eq]
    rfl
  case clearOut =>
    exact onRequest_answered (.setName bp bv [] long) hr (by simpa [Request.fits] using hlen)
      (handleSetName_outOfRange [] long s hout)
  case selectOut =>
    exact onRequest_answered (.selectName bp bv) hr rfl (handleSelectName_outOfRange s hout)
  case clear =>
    have hhandle := (handleSetName_some [] long s hp hv).trans (if_pos rfl)
    refine (onRequest_site (.setName bp bv [] long) s hr
      (by simpa [Request.fits] using hlen)).trans (congrArg _ ?_)
    refine (congrArg (answered .site 0x31#8) hhandle).trans ?_
    unfold setNameClear
    dsimp only
    split
    · rfl
    · split <;> rfl
  case empty =>
    exact onRequest_answered (.selectName bp bv) hr rfl (handleSelectName_empty s hp hv hnone)
  case select =>
    exact onRequest_answered (.selectName bp bv) hr rfl (handleSelectName_some s hp hv hx)

end Sys2Proof.Machine
end

section
/-! SUPPORT. Plan, overcommit test and modulator level in a stream's work of one boundary (04 R89, R95, R96;
03 R73): each step as one equation. -/

namespace Sys2Proof.Machine

variable {s t u : State}

theorem State.setStream_setStream (s : State) (n : Ch) (x y : Stream) :
    (s.setStream n x).setStream n y = s.setStream n y := by
  simp [State.setStream]

theorem Attention.withStream_none (a : Attention) (n : Ch) : a.withStream n false false = a := by
  simp [Attention.withStream]

theorem Attention.withStream_withStream (a : Attention) (n : Ch) (loaded moved : Bool) :
    (a.withStream n loaded false).withStream n false moved = a.withStream n loaded moved := by
  simp [Attention.withStream]

/-! ### The plan -/

theorem State.takePlan_eq (s : State) (n : Ch) :
    s.takePlan n = s.setStream n { s.stream n with
      plan := (s.stream n).planAt 0
      pendingPlan := none } := by
  unfold State.takePlan Stream.planAt
  cases hplan : (s.stream n).pendingPlan with
  | some plan => rfl
  | none =>
    have hsame : ({ s.stream n with plan := (s.stream n).plan, pendingPlan := none } : Stream) =
        s.stream n := by rw [← hplan]
    exact (hsame ▸ s.setStream_stream n).symm

/-- The load figure reads the table, and of the stream its plan (03 R71). -/
theorem State.load_congr {n : Ch} (htable : t.table = s.table)
    (hplan : (t.stream n).plan = (s.stream n).plan) : t.load n = s.load n := by
  have hnotice : t.notice = s.notice := by
    funext i
    rw [State.notice, htable, State.notice]
  have hrecords : t.airingRecords n = s.airingRecords n := by
    rw [State.airingRecords, State.streamRecords, hnotice]
    rfl
  have hdemand : t.demand = s.demand := by
    funext nt r
    rw [State.demand, State.classOf, htable]
    rfl
  rw [State.load, hrecords, hdemand, hplan, State.load]

theorem overcommitAt_zero (load : Nat) (old : Bool) :
    overcommitAt 0 load old = if 1000 < load then true else if load ≤ 900 then false else old := by
  simp [overcommitAt]

/-- The overcommit test (03 R73). -/
theorem State.testOvercommit_eq (s : State) (n : Ch) :
    s.testOvercommit n =
      (let flag := overcommitAt 0 (s.load n) (s.stream n).overcommit
       { s.setStream n { s.stream n with overcommit := flag } with
         attention := s.attention.withStream n (flag && !(s.stream n).overcommit) false }) := by
  have hsame : ∀ b, (s.stream n).overcommit = b →
      s.setStream n { s.stream n with overcommit := b } = s := by
    rintro _ rfl
    exact s.setStream_stream n
  unfold State.testOvercommit
  dsimp only
  rw [overcommitAt_zero]
  by_cases habove : 1000 < s.load n
  · rw [if_pos habove, if_pos habove]
    cases hold : (s.stream n).overcommit with
    | true => simp [hsame true hold, Attention.withStream_none]
    | false => simp [Attention.withStream, State.raise, Attention.mergeDetail, AttnEvent.kind, kindBit]
  · rw [if_neg habove, if_neg habove]
    by_cases hbelow : s.load n ≤ 900
    · rw [if_pos hbelow, if_pos hbelow, Bool.false_and, Attention.withStream_none]
      rfl
    · rw [if_neg hbelow, if_neg hbelow, hsame _ rfl]
      simp [Attention.withStream_none]

/-- The overcommit flag of stream `n` after the plan step of a boundary. -/
def State.overAfter (s : State) (n : Ch) : Bool :=
  overcommitAt s.time.tickNumber
    ((s.setStream n { s.stream n with plan := (s.stream n).planAt s.time.tickNumber }).load n)
    (s.stream n).overcommit

/-- Step 3 of a stream's work (04 R89, 03 R73). -/
theorem planStep_eq (n : Ch) (s : State) :
    planStep n s = { s.setStream n { s.stream n with
        plan := (s.stream n).planAt s.time.tickNumber
        pendingPlan := (s.stream n).pendingAt s.time.tickNumber
        overcommit := s.overAfter n } with
      attention := s.attention.withStream n (s.overAfter n && !(s.stream n).overcommit) false } := by
  unfold planStep State.overAfter
  by_cases htick : s.time.tickNumber = 0
  · have hload : (s.takePlan n).load n =
        (s.setStream n { s.stream n with plan := (s.stream n).planAt 0 }).load n := by
      rw [State.takePlan_eq]
      exact State.load_congr rfl (by simp)
    rw [if_pos htick, State.testOvercommit_eq, hload, State.takePlan_eq, htick]
    simp only [State.stream_setStream_self, State.setStream_setStream]
    rfl
  · rw [if_neg htick]
    have hkept : overcommitAt s.time.tickNumber
        ((s.setStream n { s.stream n with plan := (s.stream n).planAt s.time.tickNumber }).load n)
        (s.stream n).overcommit = (s.stream n).overcommit := by simp [overcommitAt, htick]
    have hplan : (s.stream n).planAt s.time.tickNumber = (s.stream n).plan := by
      simp [Stream.planAt, htick]
    have hpending : (s.stream n).pendingAt s.time.tickNumber = (s.stream n).pendingPlan := by
      simp [Stream.pendingAt, htick]
    rw [hkept, hplan, hpending]
    have hsame : s.setStream n { s.stream n with
        plan := (s.stream n).plan
        pendingPlan := (s.stream n).pendingPlan
        overcommit := (s.stream n).overcommit } = s := s.setStream_stream n
    rw [hsame]
    simp [Attention.withStream_none]

/-! ### The modulator level -/

/-- The stored level brought up to date (04 R95). -/
theorem State.storeLevel_eq (s : State) (n : Ch) :
    s.storeLevel n = { s.setStream n { s.stream n with modLevel := s.lineFound n } with
      attention := s.attention.withStream n false (s.lineFound n != (s.stream n).modLevel) } := by
  unfold State.storeLevel
  split
  · next h =>
    have hs : s.setStream n { s.stream n with modLevel := s.lineFound n } = s := by
      rw [h]; exact s.setStream_stream n
    rw [hs]
    simp [h, Attention.withStream]
  · next h =>
    simp [h, Attention.withStream, State.raise, Attention.mergeDetail, AttnEvent.kind, kindBit]

/-- What the level found makes of a stream: its state, and its run where it enters PAUSED (04 R95, 03
R63). -/
def Stream.onLevel (x : Stream) (level : Bool) : Stream :=
  { x with
    modLevel := level
    state := x.state.onLevel level
    run := if x.state.onLevel level = .paused then none else x.run }

/-- Step 4 of a stream's work (04 R95). -/
theorem State.sampleModulator_eq (s : State) (n : Ch) :
    s.sampleModulator n = { s.setStream n ((s.stream n).onLevel (s.lineFound n)) with
      attention := s.attention.withStream n false (s.lineFound n != (s.stream n).modLevel) } := by
  unfold State.sampleModulator
  rw [State.storeLevel_eq]
  simp [State.stream, State.setStream, State.lineFound, Stream.onLevel]

/-- Stream `x` after the plan, the flag and the level of a boundary (04 R96). -/
def Stream.prepared (x : Stream) (tick : Nat) (flag level : Bool) : Stream :=
  Stream.onLevel { x with
    plan := x.planAt tick
    pendingPlan := x.pendingAt tick
    overcommit := flag } level

/-- Steps 3 and 4 of a stream's work, after its stop and start (04 R96). -/
theorem prepared_eq (n : Ch) (s : State) :
    (planStep n s).sampleModulator n =
      { s.setStream n ((s.stream n).prepared s.time.tickNumber (s.overAfter n) (s.lineFound n)) with
        attention := s.attention.withStream n (s.overAfter n && !(s.stream n).overcommit)
          (s.lineFound n != (s.stream n).modLevel) } := by
  rw [State.sampleModulator_eq, planStep_eq]
  simp [State.stream, State.setStream, State.lineFound, Stream.prepared,
    Attention.withStream_withStream]

end Sys2Proof.Machine
end

section
/-! SUPPORT. What a tick boundary begins with, and the settings that no work of a boundary changes (O7). -/

namespace Sys2Proof.Machine

variable {s t u : State}

/-! ### The state in which a boundary's works are taken -/

/-- Site time, the lines and the silence timers have taken a tick boundary; its works are not yet taken. -/
def State.begun (s : State) (lines : Lines) : State :=
  let t := (s.flushDue.finishTick).withLines lines
  t.setTime t.time.boundary

theorem State.finishTick_eq (s : State) :
    s.finishTick = { s with
      ports := ⟨s.ports.site.timed (s.time.tickLength - s.time.phase),
        s.ports.traffic.timed (s.time.tickLength - s.time.phase)⟩
      attention := (s.attention.withLink .site
        (s.ports.site.timesOut (s.time.tickLength - s.time.phase))).withLink .traffic
          (s.ports.traffic.timesOut (s.time.tickLength - s.time.phase)) } :=
  forPorts_timerRun _ s

/-- A boundary's beginning, in terms of the state with nothing outstanding. -/
theorem State.begun_eq (s : State) (lines : Lines) :
    s.begun lines = { s.flushDue with
      cuePins := lines.cue
      mrdyPins := lines.mrdy
      time := s.flushDue.time.boundary
      ports := s.flushDue.finishTick.ports
      attention := s.flushDue.finishTick.attention } := by
  rw [State.begun, State.finishTick_eq]
  rfl

theorem State.tickBoundary_eq (s : State) (lines : Lines) (later : List Work) :
    s.tickBoundary lines later =
      (s.begun lines).works (decide (19 ≤ s.flushDue.time.tickNumber)) later := by
  have hnumber : ((s.flushDue.finishTick).withLines lines).time.tickNumber =
      s.flushDue.time.tickNumber := by
    rw [State.finishTick_eq]
    rfl
  rw [State.tickBoundary, State.begun]
  simp only [ge_iff_le, hnumber]

theorem exec_tickBoundary (hp : s.pornLow = false) (lines : Lines) (later : List Work) :
    exec (.tickBoundary lines later) s =
      .next ((s.begun lines).works (decide (19 ≤ s.flushDue.time.tickNumber)) later) := by
  rw [← State.tickBoundary_eq]
  exact running_next hp _

/-- What holds at a boundary's beginning and is kept by every work holds after the boundary. -/
theorem works_keeps {P : State → Prop} (h : ∀ w s, P s → P (s.take w))
    (hdue : ∀ (s : State) d, P s → P { s with due := d }) (second : Bool) (later : List Work)
    (hs : P s) : P (s.works second later) :=
  hdue _ _ (takeAll_keeps h _ s hs)

theorem flushDue_keeps {P : State → Prop} (h : ∀ w s, P s → P (s.take w))
    (hdue : ∀ (s : State) d, P s → P { s with due := d }) (hs : P s) : P s.flushDue :=
  hdue _ _ (takeAll_keeps h _ s hs)

/-! ### The clock under the works -/

/-- `y` is `x` but for a temporary trim that has run out and the mark watch. -/
structure SiteTime.Steady (x y : SiteTime) : Prop where
  same : y = { x with temporary := y.temporary, watch := y.watch, watchCtr := y.watchCtr }
  trim : y.trimNow = x.trimNow

theorem SiteTime.Steady.refl (x : SiteTime) : x.Steady x := ⟨rfl, rfl⟩

theorem SiteTime.Steady.trans {x y z : SiteTime} (h : x.Steady y) (h' : y.Steady z) : x.Steady z where
  same := by
    have hsame := h'.same
    rw [h.same] at hsame
    exact hsame
  trim := h'.trim.trans h.trim

theorem SiteTime.steady_dropTrim (x : SiteTime) : x.Steady x.dropTrim where
  same := by
    unfold SiteTime.dropTrim
    split <;> rfl
  trim := x.trimNow_dropTrim

theorem watchWork_steady (s : State) : s.time.Steady (watchWork s).time := by
  unfold watchWork
  split
  · split <;> exact ⟨rfl, rfl⟩
  · exact .refl _
  · exact .refl _

theorem State.OnlyIn.time {ks : List Part} (h : s.OnlyIn t ks) (hk : .time ∉ ks) : t.time = s.time :=
  h .time hk

theorem take_steady (s : State) (w : Work) : s.time.Steady (s.take w).time := by
  have hkept : ∀ v : Work, .time ∉ workTouches v → s.time.Steady (s.take v).time := fun v hv => by
    rw [(onlyIn_take v s).time hv]
    exact .refl _
  cases w with
  | trimExpiry => exact s.time.steady_dropTrim
  | markWatch => exact watchWork_steady s
  | _ => exact hkept _ (by simp [workTouches])

theorem takeAll_steady (s : State) (ws : List Work) : s.time.Steady (s.takeAll ws).time :=
  takeAll_keeps (P := fun t => s.time.Steady t.time) (fun w t ht => ht.trans (take_steady t w)) ws s
    (.refl _)

theorem flushDue_steady (s : State) : s.time.Steady s.flushDue.time := takeAll_steady s s.due

/-! ### The settings of each block -/

/-- What requests alone set of a programme's announcement record. -/
def Announce.settings (a : Announce) : CueSource × Nat × Nat × Nat × Bool :=
  (a.source, a.lead, a.hangover, a.maxSecs, a.linkCue)

/-- What requests alone set of site time, and the capture of the last mark. -/
def SiteTime.settings (x : SiteTime) : Int × Int × Bool × Option Capture × Bool × Nat :=
  (x.standing, x.offset, x.isSet, x.capture, x.fresh, x.edges)

/-- What a tick boundary leaves of the monitor. -/
def Monitor.settings (m : Monitor) : Ch × Nat × MonState := (m.watched, m.tolerance, m.state)

/-- What a tick boundary leaves of a port. -/
def PortState.settings (x : PortState) : Nat × Option Frame × Bool := (x.baud, x.waiting, x.stray)

/-- `t` has the settings of `s`. -/
structure State.SameSettings (s t : State) : Prop where
  limits : ∃ slots, t.table = { s.table with slots := slots }
  map : t.map = s.map
  progs : ∀ p, ∃ v, t.prog p = { s.prog p with current := v }
  cue : ∀ p, (t.ann p).settings = (s.ann p).settings
  time : t.time.settings = s.time.settings
  monitor : t.monitor.settings = s.monitor.settings
  ports : ∀ p, (t.port p).settings = (s.port p).settings
  mask : t.attention.mask = s.attention.mask

theorem State.SameSettings.refl (s : State) : s.SameSettings s :=
  ⟨⟨_, rfl⟩, rfl, fun _ => ⟨_, rfl⟩, fun _ => rfl, rfl, rfl, fun _ => rfl, rfl⟩

theorem State.SameSettings.trans (h : s.SameSettings t) (h' : t.SameSettings u) : s.SameSettings u where
  limits := by
    obtain ⟨x, hx⟩ := h.limits
    obtain ⟨y, hy⟩ := h'.limits
    exact ⟨y, by rw [hy, hx]⟩
  map := h'.map.trans h.map
  progs p := by
    obtain ⟨v, hv⟩ := h.progs p
    obtain ⟨w, hw⟩ := h'.progs p
    exact ⟨w, by rw [hw, hv]⟩
  cue p := (h'.cue p).trans (h.cue p)
  time := h'.time.trans h.time
  monitor := h'.monitor.trans h.monitor
  ports p := (h'.ports p).trans (h.ports p)
  mask := h'.mask.trans h.mask

theorem PortState.Later.settings {x y : PortState} (h : x.Later y) : y.settings = x.settings := by
  rw [PortState.settings, h.baud, h.waiting, h.stray, PortState.settings]

theorem SiteTime.Steady.settings {x y : SiteTime} (h : x.Steady y) : y.settings = x.settings := by
  rw [h.same]
  rfl

theorem State.OnlyIn.limits {ks : List Part} (h : s.OnlyIn t ks) (hk : .limits ∉ ks) :
    ∃ slots, t.table = { s.table with slots := slots } := by
  have hparts : (t.table.classes, t.table.withdrawCells, t.table.lifetime, t.table.confirmSecs) =
      (s.table.classes, s.table.withdrawCells, s.table.lifetime, s.table.confirmSecs) := h .limits hk
  simp only [Prod.mk.injEq] at hparts
  obtain ⟨hclasses, hcells, hlifetime, hconfirm⟩ := hparts
  refine ⟨t.table.slots, ?_⟩
  dsimp only
  rw [← hclasses, ← hcells, ← hlifetime, ← hconfirm]

theorem State.OnlyIn.map {ks : List Part} (h : s.OnlyIn t ks) (hk : .map ∉ ks) : t.map = s.map :=
  h .map hk

theorem State.OnlyIn.ann {ks : List Part} (h : s.OnlyIn t ks) (hk : .announce ∉ ks) (p : Ch) :
    t.ann p = s.ann p := congrArg (·.get p) (h .announce hk : t.announce = s.announce)

theorem State.OnlyIn.monitor {ks : List Part} (h : s.OnlyIn t ks) (hk : .monitor ∉ ks) :
    t.monitor = s.monitor := h .monitor hk

theorem State.OnlyIn.attention {ks : List Part} (h : s.OnlyIn t ks) (hk : .attention ∉ ks) :
    t.attention = s.attention := h .attention hk

theorem State.OnlyIn.prog {ks : List Part} (h : s.OnlyIn t ks) (hc : .cover ∉ ks) (hn : .names ∉ ks)
    (ht : .target ∉ ks) (p : Ch) : t.prog p = s.prog p := by
  have hcover : ((t.prog p).coverage, (t.prog p).carries) = ((s.prog p).coverage, (s.prog p).carries) :=
    congrFun (h .cover hc) p
  have hnames : ((t.prog p).code, (t.prog p).variants, (t.prog p).current) =
      ((s.prog p).code, (s.prog p).variants, (s.prog p).current) := congrFun (h .names hn) p
  have htarget : (t.prog p).target = (s.prog p).target := congrFun (h .target ht) p
  simp only [Prod.mk.injEq] at hcover hnames
  cases hx : t.prog p
  cases hy : s.prog p
  simp_all

/-! ### Every work keeps the settings -/

theorem Announce.settings_recompute (a : Announce) (carries : Bool) (b : Bulletin) :
    (a.recompute carries b).settings = a.settings := by
  unfold Announce.recompute Announce.rise Announce.fall Announce.enterOnAir
  dsimp only
  repeat' split
  all_goals rfl

theorem Announce.settings_boundary (a : Announce) (found carries : Bool) (b : Bulletin) :
    (a.boundary found carries b).settings = a.settings := by
  have hsample : (a.sampleLine found carries b).settings = a.settings := by
    unfold Announce.sampleLine
    split
    · exact Announce.settings_recompute _ _ _
    · rfl
  have hcount : ∀ x : Announce, (x.countDown b).settings = x.settings := by
    intro x
    unfold Announce.countDown Announce.enterOnAir
    repeat' split
    all_goals rfl
  unfold Announce.boundary
  dsimp only
  split
  · exact (hcount _).trans hsample
  · exact hsample

theorem putAnn_settings (s : State) (p : Ch) (a : Announce) (h : a.settings = (s.ann p).settings)
    (q : Ch) : ((s.putAnn p a).ann q).settings = (s.ann q).settings := by
  rw [State.putAnn_ann]
  split
  · next e => subst e; exact h
  · rfl

theorem announceWork_settings (p : Ch) (s : State) (q : Ch) :
    ((announceWork p s).ann q).settings = (s.ann q).settings := by
  have hput := putAnn_settings s p _
    (Announce.settings_boundary (s.ann p) (s.cueFound p) (s.prog p).carries s.bulletinNow)
  unfold announceWork
  dsimp only
  split
  · exact (putAnn_settings _ p (Announce.overrun _) rfl q).trans (hput q)
  · exact hput q

theorem putAnn_attention (s : State) (p : Ch) (a : Announce) :
    (s.putAnn p a).attention = s.attention := by rw [State.putAnn_eq]

theorem announceWork_mask (p : Ch) (s : State) :
    (announceWork p s).attention.mask = s.attention.mask := by
  unfold announceWork
  dsimp only
  split
  · rw [State.overrunAt, State.raise_mask, putAnn_attention, putAnn_attention]
  · rw [putAnn_attention]

theorem setAnn_settings (s : State) (p : Ch) (a : Announce) (h : a.settings = (s.ann p).settings)
    (q : Ch) : ((s.setAnn p a).ann q).settings = (s.ann q).settings := by
  by_cases e : q = p
  · subst e; rwa [State.ann_setAnn_self]
  · rw [State.ann_setAnn_ne _ _ _ _ e]

theorem reportRefer_settings (s : State) (x : Ch) (flag : Bool) (q : Ch) :
    ((s.reportRefer x flag).ann q).settings = (s.ann q).settings := by
  unfold State.reportRefer
  split
  · rfl
  · exact setAnn_settings s x _ (by rfl) q

theorem sendCell_settings (s : State) (n q : Ch) :
    ((s.sendCell n).ann q).settings = (s.ann q).settings := by
  have hrefer : ∀ y, ((s.sendRefer n y).ann q).settings = (s.ann q).settings := fun y =>
    reportRefer_settings (s.emit n _ _) n _ q
  have harb : ((s.arbitrate n).ann q).settings = (s.ann q).settings := by
    rw [(onlyIn_arbitrate s n).ann (by decide)]
  unfold State.sendCell
  split
  · rw [(onlyIn_sendStatus s n).ann (by decide)]
  · rw [(onlyIn_sendName s n).ann (by decide)]
  · split
    · rw [(onlyIn_sendLongName s n _).ann (by decide)]
    · exact harb
  · split
    · split
      · exact hrefer _
      · exact harb
    · exact harb
  · exact harb

theorem streamWork_settings (n : Ch) (s : State) (q : Ch) :
    ((streamWork n s).ann q).settings = (s.ann q).settings := by
  have hbefore : (s.beforeCell n).ann q = s.ann q := by
    rw [State.beforeCell, (onlyIn_sampleModulator _ n).ann (by decide),
      (onlyIn_planStep n _).ann (by decide), (onlyIn_startStep n _).ann (by decide),
      (onlyIn_stopStep n s).ann (by decide)]
  change ((cellStep n (s.beforeCell n)).ann q).settings = _
  unfold cellStep
  split
  · rw [sendCell_settings, hbefore]
  · exact congrArg Announce.settings hbefore

theorem streamWork_attention (n : Ch) (s : State) :
    ∃ loaded moved, (streamWork n s).attention = s.attention.withStream n loaded moved := by
  have hcell : (streamWork n s).attention = (s.beforeCell n).attention :=
    (onlyIn_cellStep n (s.beforeCell n)).attention (by decide)
  rw [hcell, State.beforeCell, prepared_eq, (onlyIn_startStep n _).attention (by decide),
    (onlyIn_stopStep n s).attention (by decide)]
  exact ⟨_, _, rfl⟩

theorem streamWork_mask (n : Ch) (s : State) :
    (streamWork n s).attention.mask = s.attention.mask := by
  obtain ⟨loaded, moved, h⟩ := streamWork_attention n s
  rw [h]
  rfl

/-- The attention unit after TIMED_SKIPPED for programme `p`, if a timed change of it was skipped (05
R112). -/
def Attention.withSkip (a : Attention) (p : Ch) (skipped : Bool) : Attention :=
  { a with
    pendingKinds := a.pendingKinds ||| (if skipped then 0x020#11 else 0#11)
    timedSkipped := if skipped then chInsert a.timedSkipped p else a.timedSkipped }

/-- The timed changes of one programme tested, as one write of each block (05 R112, R113). -/
theorem timedWork_eq (p : Ch) (s : State) :
    timedWork p s = { s with
      store :=
        { progs := s.store.progs.set p { s.prog p with
            current := (s.firedVariant p).getD (s.prog p).current }
          timed := s.store.timed.map fun e =>
            if e.prog = p && e.fires s.time.seconds then e.advance s.time.seconds else e }
      streams := s.streams.set p ((s.stream p).renamed (s.firedVariant p))
      attention := s.attention.withSkip p ((s.firing p).any s.namesEmpty) } := by
  have hstream : s.streams.set p (s.stream p) = s.streams := Four.set_get s.streams p
  have hprog : s.store.progs.set p (s.prog p) = s.store.progs := Four.set_get s.store.progs p
  unfold timedWork
  dsimp only
  cases hv : s.firedVariant p <;> cases hskip : (s.firing p).any s.namesEmpty <;>
    simp [Stream.renamed, Attention.withSkip, hstream, hprog, State.makeCurrent_eq, State.raise,
      Attention.mergeDetail, AttnEvent.kind, kindBit] <;> rfl

theorem timedWork_prog (p q : Ch) (s : State) :
    (timedWork p s).prog q =
      if q = p then { s.prog p with current := (s.firedVariant p).getD (s.prog p).current }
      else s.prog q := by
  rw [timedWork_eq]
  exact State.prog_setProg s p q _

theorem timedWork_mask (p : Ch) (s : State) :
    (timedWork p s).attention.mask = s.attention.mask := by
  rw [timedWork_eq]
  rfl

theorem testTimed_progs (s : State) (q : Ch) :
    ∃ v, s.testTimed.prog q = { s.prog q with current := v } := by
  refine forChannels_keeps (P := fun t => ∃ v, t.prog q = { s.prog q with current := v })
    (fun p t ht => ?_) s ⟨_, rfl⟩
  obtain ⟨v, hv⟩ := ht
  rw [timedWork_prog]
  split
  · next e => subst e; exact ⟨_, by rw [hv]⟩
  · exact ⟨v, hv⟩

theorem testTimed_mask (s : State) : s.testTimed.attention.mask = s.attention.mask :=
  forChannels_keeps (P := fun t => t.attention.mask = s.attention.mask)
    (fun p t ht => (timedWork_mask p t).trans ht) s rfl

theorem take_progs (w : Work) (s : State) (p : Ch) :
    ∃ v, (s.take w).prog p = { s.prog p with current := v } := by
  have hkept : ∀ v : Work, .cover ∉ workTouches v ∧ .names ∉ workTouches v ∧
      .target ∉ workTouches v → ∃ x, (s.take v).prog p = { s.prog p with current := x } :=
    fun v ⟨hc, hn, ht⟩ => ⟨_, (onlyIn_take v s).prog hc hn ht p⟩
  cases w with
  | timedFire => exact testTimed_progs s p
  | _ => exact hkept _ (by simp [workTouches])

theorem take_cue (w : Work) (s : State) (p : Ch) :
    ((s.take w).ann p).settings = (s.ann p).settings := by
  have hkept : ∀ v : Work, .announce ∉ workTouches v →
      ((s.take v).ann p).settings = (s.ann p).settings := fun v hv => by
    rw [(onlyIn_take v s).ann hv]
  cases w with
  | stream n => exact streamWork_settings n s p
  | announce q => exact announceWork_settings q s p
  | _ => exact hkept _ (by simp [workTouches])

theorem silenceWork_settings (s : State) :
    (silenceWork s).monitor.settings = s.monitor.settings := by
  unfold silenceWork
  dsimp only
  repeat' split
  all_goals rfl

theorem take_monitor (w : Work) (s : State) :
    (s.take w).monitor.settings = s.monitor.settings := by
  have hkept : ∀ v : Work, .monitor ∉ workTouches v →
      (s.take v).monitor.settings = s.monitor.settings := fun v hv => by
    rw [(onlyIn_take v s).monitor hv]
  cases w with
  | minute => rfl
  | silence => exact silenceWork_settings s
  | _ => exact hkept _ (by simp [workTouches])

theorem silenceWork_mask (s : State) : (silenceWork s).attention.mask = s.attention.mask := by
  unfold silenceWork
  dsimp only
  repeat' split
  all_goals rfl

theorem watchWork_mask (s : State) : (watchWork s).attention.mask = s.attention.mask := by
  unfold watchWork
  repeat' split
  all_goals rfl

theorem take_mask (w : Work) (s : State) :
    (s.take w).attention.mask = s.attention.mask := by
  have hkept : ∀ v : Work, .attention ∉ workTouches v →
      (s.take v).attention.mask = s.attention.mask := fun v hv => by
    rw [(onlyIn_take v s).attention hv]
  cases w with
  | timedFire => exact testTimed_mask s
  | stream n => exact streamWork_mask n s
  | announce p => exact announceWork_mask p s
  | silence => exact silenceWork_mask s
  | markWatch => exact watchWork_mask s
  | _ => exact hkept _ (by simp [workTouches])

theorem take_sameSettings (w : Work) (s : State) : s.SameSettings (s.take w) where
  limits := (onlyIn_take w s).limits (by cases w <;> simp [workTouches])
  map := (onlyIn_take w s).map (by cases w <;> simp [workTouches])
  progs := take_progs w s
  cue := take_cue w s
  time := (take_steady s w).settings
  monitor := take_monitor w s
  ports p := ((evolves_take w s).ports p).settings
  mask := take_mask w s

/-! ### A boundary keeps the settings -/

theorem PortState.timed_settings (x : PortState) (k : Nat) : (x.timed k).settings = x.settings := by
  unfold PortState.timed
  repeat' split
  all_goals rfl

theorem SiteTime.boundary_settings (x : SiteTime) : x.boundary.settings = x.settings := by
  unfold SiteTime.boundary SiteTime.nextSecond SiteTime.nextTick SiteTime.useTrim
    SiteTime.computeLength
  repeat' split
  all_goals rfl

theorem begun_sameSettings (s : State) (lines : Lines) : s.flushDue.SameSettings (s.begun lines) := by
  rw [State.begun_eq, State.finishTick_eq]
  exact ⟨⟨_, rfl⟩, rfl, fun _ => ⟨_, rfl⟩, fun _ => rfl, SiteTime.boundary_settings _, rfl,
    fun p => by cases p <;> exact PortState.timed_settings _ _, rfl⟩

/-- Settles O7: every work keeps the settings, and so does what a boundary begins with. -/
theorem aTickBoundaryKeepsTheSettingsListed : Obligations.ATickBoundaryKeepsTheSettingsListed := by
  intro lines later s hp
  have htake : ∀ (r : State) w t, r.SameSettings t → r.SameSettings (t.take w) :=
    fun r w t h => h.trans (take_sameSettings w t)
  have hdue : ∀ (r t : State) d, r.SameSettings t → r.SameSettings { t with due := d } :=
    fun r t d h => h.trans ⟨⟨_, rfl⟩, rfl, fun _ => ⟨_, rfl⟩, fun _ => rfl, rfl, rfl, fun _ => rfl, rfl⟩
  have hflush : s.SameSettings s.flushDue := flushDue_keeps (htake s) (hdue s) (.refl s)
  have h := hflush.trans ((begun_sameSettings s lines).trans
    (works_keeps (htake _) (hdue _) (decide (19 ≤ s.flushDue.time.tickNumber)) later (.refl _)))
  have htime := h.time
  have hmonitor := h.monitor
  simp only [SiteTime.settings, Monitor.settings, Prod.mk.injEq] at htime hmonitor
  obtain ⟨hstanding, hoffset, hset, hcapture, hfresh, hedges⟩ := htime
  obtain ⟨hwatched, htolerance, hstate⟩ := hmonitor
  refine ⟨_, exec_tickBoundary hp lines later, h.limits, h.map, h.progs, fun p => ?cue, hstanding,
    hoffset, hset, hcapture, hfresh, hedges, hwatched, htolerance, hstate, fun p => ?port, h.mask⟩
  case cue => simpa only [Announce.settings, Prod.mk.injEq] using h.cue p
  case port => simpa only [PortState.settings, Prod.mk.injEq] using h.ports p

end Sys2Proof.Machine
end

section
/-! SUPPORT. Site time, the minute, the mark watch and silence at a tick boundary (O5). -/

namespace Sys2Proof.Machine

variable {s t u : State}

/-! ### What one work alone changes -/

theorem takeAll_untouched {α : Type} (f : State → α) (ws : List Work)
    (h : ∀ w ∈ ws, ∀ s : State, f (s.take w) = f s) (s : State) : f (s.takeAll ws) = f s := by
  induction ws generalizing s with
  | nil => rfl
  | cons w ws ih =>
    exact (ih (fun v hv => h v (List.mem_cons_of_mem _ hv)) _).trans (h w List.mem_cons_self s)

theorem takeAll_append (s : State) (ws vs : List Work) :
    s.takeAll (ws ++ vs) = (s.takeAll ws).takeAll vs := List.foldl_append

/-- The temporary trim is emptied by its own work alone. -/
theorem take_temporary {w : Work} (hw : w ≠ .trimExpiry) (s : State) :
    (s.take w).time.temporary = s.time.temporary := by
  have hkept : ∀ v : Work, .time ∉ workTouches v →
      (s.take v).time.temporary = s.time.temporary := fun v hv => by
    rw [(onlyIn_take v s).time hv]
  cases w with
  | trimExpiry => exact absurd rfl hw
  | markWatch =>
    simp only [State.take, watchWork]
    repeat' split
    all_goals rfl
  | _ => exact hkept _ (by simp [workTouches])

/-- The mark watch and its counter. -/
def SiteTime.watched (x : SiteTime) : WatchState × Nat := (x.watch, x.watchCtr)

theorem SiteTime.watched_dropTrim (x : SiteTime) : x.dropTrim.watched = x.watched := by
  unfold SiteTime.dropTrim
  split <;> rfl

theorem take_watched {w : Work} (hw : w ≠ .markWatch) (s : State) :
    (s.take w).time.watched = s.time.watched := by
  have hkept : ∀ v : Work, .time ∉ workTouches v →
      (s.take v).time.watched = s.time.watched := fun v hv => by
    rw [(onlyIn_take v s).time hv]
  cases w with
  | markWatch => exact absurd rfl hw
  | trimExpiry => exact s.time.watched_dropTrim
  | _ => exact hkept _ (by simp [workTouches])

/-- The silence counter and its mark. -/
def Monitor.quiet (m : Monitor) : Nat × Bool := (m.silence, m.silent)

theorem take_quiet {w : Work} (hw : w ≠ .silence) (s : State) :
    (s.take w).monitor.quiet = s.monitor.quiet := by
  have hkept : ∀ v : Work, .monitor ∉ workTouches v →
      (s.take v).monitor.quiet = s.monitor.quiet := fun v hv => by
    rw [(onlyIn_take v s).monitor hv]
  cases w with
  | silence => exact absurd rfl hw
  | minute => rfl
  | _ => exact hkept _ (by simp [workTouches])

/-- The tallies in progress and those of the last minute. -/
def Monitor.tallied (m : Monitor) : Tallies × Nat × Tallies × Option Span :=
  (m.holding, m.holdingStart, m.last, m.span)

theorem silenceWork_tallied (s : State) :
    (silenceWork s).monitor.tallied = s.monitor.tallied := by
  unfold silenceWork
  dsimp only
  repeat' split
  all_goals rfl

theorem take_tallied {w : Work} (hw : w ≠ .minute) (s : State) :
    (s.take w).monitor.tallied = s.monitor.tallied := by
  have hkept : ∀ v : Work, .monitor ∉ workTouches v →
      (s.take v).monitor.tallied = s.monitor.tallied := fun v hv => by
    rw [(onlyIn_take v s).monitor hv]
  cases w with
  | minute => exact absurd rfl hw
  | silence => exact silenceWork_tallied s
  | _ => exact hkept _ (by simp [workTouches])

/-! ### Site time at a boundary -/

theorem SiteTime.useTrim_eq (x : SiteTime) :
    x.useTrim = { x with temporary := x.temporary.map fun y => (y.1, y.2 - 1) } := by
  unfold SiteTime.useTrim
  split
  · next h => rw [h]; rfl
  · next h => rw [h]; cases x; cases h; rfl

/-- Site time after a boundary, field by field (07 R142 to R144, R147). -/
theorem SiteTime.boundary_eq (x : SiteTime) :
    x.boundary = { x with
      seconds := if 19 ≤ x.tickNumber then min 4294967295 (x.seconds + 1) else x.seconds
      tickCount := x.tickCount + 1
      tickNumber := if 19 ≤ x.tickNumber then 0 else x.tickNumber + 1
      phase := 0
      tickLength := (614400 - x.shortening).toNat
      residue := x.raised - x.shortening * 100000000
      temporary := x.temporary.map fun y => (y.1, y.2 - 1) } := by
  unfold SiteTime.boundary SiteTime.nextTick
  rw [SiteTime.useTrim_eq]
  by_cases h : 19 ≤ x.tickNumber <;>
    simp only [h, if_true, if_false, SiteTime.nextSecond, SiteTime.computeLength] <;> rfl

theorem SiteTime.Steady.raised {x y : SiteTime} (h : x.Steady y) : y.raised = x.raised := by
  have hstanding : y.standing = x.standing := by rw [h.same]
  have hresidue : y.residue = x.residue := by rw [h.same]
  rw [SiteTime.raised, SiteTime.effectiveTrim, h.trim, hstanding, hresidue]
  rfl

theorem SiteTime.Steady.shortening {x y : SiteTime} (h : x.Steady y) :
    y.shortening = x.shortening := by rw [SiteTime.shortening, h.raised, SiteTime.shortening]

/-- The shortening of a tick is at most 123 cycles. -/
theorem SiteTime.shortening_le {x : SiteTime} (hx : x.Sound) : x.shortening ≤ 123 := by
  obtain ⟨-, -, -, he1, he2, hr1, hr2, -⟩ := hx
  have hraised : x.raised = x.residue + x.effectiveTrim * 614400 := rfl
  have hshort : x.shortening = Int.tdiv x.raised 100000000 := rfl
  simp only [Config.maxTrim, Config.residueUnit] at *
  have hbounds := tdiv_bounds x.raised (by omega) (by omega)
  rw [hshort]
  exact hbounds.2.1

/-- A boundary's site time, of the one before; `y` is `x` after works that were left outstanding. -/
theorem SiteTime.Steady.boundary {x y : SiteTime} (h : x.Steady y) :
    y.boundary = { x.boundary with
      temporary := y.boundary.temporary, watch := y.watch, watchCtr := y.watchCtr } := by
  have hsame := h.same
  rw [SiteTime.boundary_eq, SiteTime.boundary_eq, h.raised, h.shortening]
  cases y
  cases x
  cases hsame
  rfl

theorem begun_time (s : State) (lines : Lines) :
    (s.begun lines).time = s.flushDue.time.boundary := by rw [State.begun_eq]

/-- Site time after a tick boundary, but for the temporary trim and the mark watch. -/
theorem works_clock (s : State) (lines : Lines) (second : Bool) (later : List Work) :
    ∃ temporary watch ctr, ((s.begun lines).works second later).time = { s.time.boundary with
      temporary := temporary, watch := watch, watchCtr := ctr } := by
  have hworks : (s.begun lines).time.Steady ((s.begun lines).works second later).time :=
    takeAll_steady (s.begun lines) _
  have hsame := hworks.same
  rw [begun_time, (flushDue_steady s).boundary] at hsame
  exact ⟨_, _, _, hsame⟩

theorem tickNumber_flushDue (s : State) : s.flushDue.time.tickNumber = s.time.tickNumber := by
  rw [(flushDue_steady s).same]

theorem works_pins (s : State) (lines : Lines) (second : Bool) (later : List Work) :
    ((s.begun lines).works second later).cuePins = lines.cue ∧
      ((s.begun lines).works second later).mrdyPins = lines.mrdy := by
  have hkept : ∀ w (t : State), (t.take w).cuePins = t.cuePins ∧ (t.take w).mrdyPins = t.mrdyPins := by
    intro w t
    have henv : ((t.take w).pending, (t.take w).due, (t.take w).pornLow, (t.take w).cuePins,
        (t.take w).mrdyPins) = (t.pending, t.due, t.pornLow, t.cuePins, t.mrdyPins) :=
      onlyIn_take w t .env (by cases w <;> simp [workTouches])
    simp only [Prod.mk.injEq] at henv
    exact henv.2.2.2
  have h := works_keeps (P := fun t : State => t.cuePins = lines.cue ∧ t.mrdyPins = lines.mrdy)
    (fun w t ht => by rwa [(hkept w t).1, (hkept w t).2]) (fun _ _ ht => ht) second later
    (s := s.begun lines) (by rw [State.begun_eq]; exact ⟨rfl, rfl⟩)
  exact h

/-! ### A second boundary -/

theorem exec_secondBoundary_idle (lines : Lines) (later : List Work)
    (h : s.time.tickNumber < 19) : exec (.secondBoundary lines later) s = .next s := by
  have hnot : ¬ s.time.tickNumber ≥ 19 := by omega
  refine (show exec (.secondBoundary lines later) s = running s _ from rfl).trans ?_
  rw [if_neg hnot, running, ite_self]

theorem exec_secondBoundary (lines : Lines) (later : List Work) (h : 19 ≤ s.time.tickNumber) :
    exec (.secondBoundary lines later) s = exec (.tickBoundary lines later) s := by
  refine (show exec (.secondBoundary lines later) s = running s _ from rfl).trans ?_
  rw [if_pos h]
  rfl

theorem exec_tickBoundary_second (hp : s.pornLow = false) (lines : Lines) (later : List Work)
    (h : s.time.tickNumber = 19) :
    exec (.tickBoundary lines later) s = .next ((s.begun lines).works true later) := by
  rw [exec_tickBoundary hp, tickNumber_flushDue, h]
  rfl

/-! ### The minute -/

/-- The works of a boundary that are before the minute's. -/
def State.beforeMinute (s : State) : List Work :=
  (if s.time.trimSpent then [Work.trimExpiry] else []) ++
    (slotNumbers.map Work.noticeTest ++ [Work.timedFire])

/-- The works of a boundary that follow the minute's. -/
def State.afterMinute (s : State) : List Work :=
  engineWorks ++
    (slotNumbers.filter s.withdrawLimitReached).map Work.withdrawLimit ++
    ([Port.site, Port.traffic].filter s.confirmLimitReached).map Work.confirmLimit ++
    [Work.silence, Work.markWatch]

theorem boundaryWorks_minute (h : s.time.seconds % 60 = 0) :
    s.boundaryWorks true = s.beforeMinute ++ .minute :: s.afterMinute := by
  simp [State.boundaryWorks, State.secondWorks, State.beforeMinute, State.afterMinute, h]

theorem minute_notMem_before (s : State) : .minute ∉ s.beforeMinute := by
  unfold State.beforeMinute
  split <;> simp

theorem minute_notMem_after (s : State) : .minute ∉ s.afterMinute := by
  simp [State.afterMinute, engineWorks]

/-- At a whole minute the tallies in progress become those of the last minute, unless that work is left
(08 R173). -/
theorem works_minute (later : List Work) (h : s.time.seconds % 60 = 0) (hl : .minute ∉ later) :
    (s.works true later).monitor.tallied =
      (Tallies.zero, s.time.tickCount, s.monitor.holding,
        some ⟨s.monitor.holdingStart, s.time.tickCount, s.time.seconds⟩) := by
  have hlater : (!later.contains Work.minute) = true := by simpa using hl
  have hbefore := takeAll_untouched (fun t => t.monitor.tallied)
    (s.beforeMinute.filter fun w => !later.contains w)
    (fun w hw => take_tallied fun e => minute_notMem_before s (e ▸ (List.mem_filter.1 hw).1)) s
  have hclock := (takeAll_steady s (s.beforeMinute.filter fun w => !later.contains w)).same
  have hafter := takeAll_untouched (fun t => t.monitor.tallied)
    (s.afterMinute.filter fun w => !later.contains w)
    (fun w hw => take_tallied fun e => minute_notMem_after s (e ▸ (List.mem_filter.1 hw).1))
  have hworks : (s.works true later).monitor = (s.takeAll
      ((s.boundaryWorks true).filter fun w => !later.contains w)).monitor := rfl
  rw [hworks, boundaryWorks_minute h, List.filter_append, List.filter_cons_of_pos (p := fun w => !later.contains w) hlater,
    takeAll_append]
  refine (hafter _).trans ?_
  generalize hr : s.takeAll (s.beforeMinute.filter fun w => !later.contains w) = r at hbefore hclock
  simp only [Monitor.tallied, Prod.mk.injEq] at hbefore
  obtain ⟨hholding, hstart, -, -⟩ := hbefore
  have hminute : (r.take .minute).monitor.tallied = (Tallies.zero, r.time.tickCount,
      r.monitor.holding, some ⟨r.monitor.holdingStart, r.time.tickCount, r.time.seconds⟩) := rfl
  rw [hminute, hholding, hstart, hclock]

/-! ### Watch and silence -/

/-- The works of a boundary but the monitor's count and the mark watch's, which are last. -/
def State.earlyWorks (s : State) (second : Bool) : List Work :=
  (if s.time.trimSpent then [Work.trimExpiry] else []) ++
    (if second then s.secondWorks else []) ++ engineWorks ++
    (slotNumbers.filter s.withdrawLimitReached).map Work.withdrawLimit ++
    ([Port.site, Port.traffic].filter s.confirmLimitReached).map Work.confirmLimit

theorem counts_notMem_early (s : State) (second : Bool) :
    .silence ∉ s.earlyWorks second ∧ .markWatch ∉ s.earlyWorks second := by
  unfold State.earlyWorks State.secondWorks
  cases second <;> cases s.time.trimSpent <;> simp [engineWorks]

/-- A boundary with nothing left ends with the monitor's count and the mark watch's. -/
theorem works_nil (s : State) (second : Bool) :
    s.works second [] = { watchWork (silenceWork (s.takeAll (s.earlyWorks second))) with due := [] } := by
  have hall : (s.boundaryWorks second).filter (fun w => !([] : List Work).contains w) =
      s.earlyWorks second ++ [.silence, .markWatch] := by
    simp [State.boundaryWorks, State.earlyWorks]
  have hnone : (s.boundaryWorks second).filter (fun w => ([] : List Work).contains w) = [] := by
    simp
  rw [State.works, hall, hnone, takeAll_append]
  rfl

/-- The temporary trim after a boundary's works, with nothing left (07 R144). -/
theorem SiteTime.temporary_dropTrim (x : SiteTime) : x.dropTrim.temporary = x.trimNow := by
  unfold SiteTime.dropTrim SiteTime.trimSpent SiteTime.trimNow
  rcases hx : x.temporary with _ | ⟨v, _ | k⟩ <;> simp [hx]

theorem works_temporary (s : State) (second : Bool) :
    (s.works second []).time.temporary = s.time.trimNow := by
  have hlast : ∀ t : State, (watchWork (silenceWork t)).time.temporary = t.time.temporary := fun t =>
    (take_temporary (w := .markWatch) nofun (silenceWork t)).trans
      (take_temporary (w := .silence) nofun t)
  have hrest : ∀ w ∈ (if second then s.secondWorks else []) ++ engineWorks ++
      (slotNumbers.filter s.withdrawLimitReached).map Work.withdrawLimit ++
      ([Port.site, Port.traffic].filter s.confirmLimitReached).map Work.confirmLimit,
      w ≠ .trimExpiry := by
    rintro w hw rfl
    revert hw
    unfold State.secondWorks
    cases second <;> simp [engineWorks]
  have hkept := takeAll_untouched (fun t => t.time.temporary) _
    (fun w hw => take_temporary (hrest w hw))
  rw [works_nil]
  refine (hlast _).trans ?_
  rw [State.earlyWorks, List.append_assoc, List.append_assoc, List.append_assoc, takeAll_append]
  simp only [List.append_assoc] at hkept
  refine (hkept _).trans ?_
  rw [← SiteTime.temporary_dropTrim, SiteTime.dropTrim]
  split
  · next h => simp only [State.takeAll, List.foldl, State.take, SiteTime.dropTrim, h, if_true]; rfl
  · rfl

theorem SiteTime.trimNow_boundary (x : SiteTime) :
    x.boundary.trimNow =
      match x.trimNow with
      | some (v, k + 2) => some (v, k + 1)
      | _ => none := by
  have htemporary : x.boundary.temporary = x.temporary.map fun y => (y.1, y.2 - 1) := by
    rw [SiteTime.boundary_eq]
  rw [SiteTime.trimNow, htemporary, SiteTime.trimNow]
  rcases x.temporary with _ | ⟨v, _ | _ | k⟩ <;> rfl

theorem watchWork_idle (h : s.time.watch ≠ .watching) : watchWork s = s := by
  unfold watchWork
  split
  · next hw => exact absurd hw h
  · rfl
  · rfl

theorem watchWork_counts (hw : s.time.watch = .watching) (hc : s.time.watchCtr < 59) :
    watchWork s = s.setTime { s.time with watchCtr := s.time.watchCtr + 1 } := by
  have hlimit : ¬ s.time.watchCtr + 1 ≥ Config.watchLimit := by
    simp only [Config.watchLimit]; omega
  rw [watchWork, hw]
  exact if_neg hlimit

theorem silenceWork_idle
    (h : s.monitor.state = .off ∨ s.monitor.silent = true ∧ 99 ≤ s.monitor.silence) :
    silenceWork s = s := by
  unfold silenceWork
  dsimp only
  rcases h with h | ⟨hs, hhigh⟩
  · rw [if_pos h]
  · have hlimit : ¬ s.monitor.silence + 1 < Config.silenceLimit := by
      simp only [Config.silenceLimit]; omega
    rw [if_neg hlimit, if_pos hs, ite_self]

theorem silenceWork_counts (hm : s.monitor.state ≠ .off) (hc : s.monitor.silence < 99) :
    silenceWork s = s.setMonitor { s.monitor with silence := s.monitor.silence + 1 } := by
  have hlimit : s.monitor.silence + 1 < Config.silenceLimit := by
    simp only [Config.silenceLimit]; omega
  rw [silenceWork, if_neg hm, if_pos hlimit]

/-- The mark watch after a boundary's works, with nothing left (07 R155). -/
theorem works_watch (s : State) (second : Bool) :
    (s.time.watch ≠ .watching → (s.works second []).time.watched = s.time.watched) ∧
      (s.time.watch = .watching →
        (s.time.watchCtr < 59 →
          (s.works second []).time.watched = (.watching, s.time.watchCtr + 1)) ∧
        (59 ≤ s.time.watchCtr → (s.works second []).time.watched = (.lost, 60) ∧
          (s.works second []).attention.isPending 9 = true)) := by
  have hearly : (silenceWork (s.takeAll (s.earlyWorks second))).time.watched = s.time.watched :=
    (take_watched (w := .silence) nofun _).trans (takeAll_untouched (fun t => t.time.watched) _
      (fun w hw => take_watched fun e => (counts_notMem_early s second).2 (e ▸ hw)) s)
  rw [works_nil]
  generalize silenceWork (s.takeAll (s.earlyWorks second)) = r at hearly
  simp only [SiteTime.watched, Prod.mk.injEq] at hearly
  obtain ⟨hwatch, hctr⟩ := hearly
  refine ⟨fun hoff => ?off, fun hon => ⟨fun hlow => ?counts, fun hhigh => ?lost⟩⟩
  case off =>
    simp only [watchWork_idle (hwatch ▸ hoff), SiteTime.watched, hwatch, hctr]
  case counts =>
    simp only [watchWork_counts (hwatch.trans hon) (hctr ▸ hlow), SiteTime.watched,
      State.setTime_time, hwatch, hon, hctr]
  case lost =>
    rw [watchWork_lost (hwatch.trans hon) (hctr ▸ hhigh)]
    refine ⟨rfl, ?_⟩
    simp [Attention.isPending, State.withKind]

/-- The silence counter after a boundary's works, with nothing left (08 R172). -/
theorem works_silence (s : State) (second : Bool) :
    (s.monitor.state = .off ∨ s.monitor.silent = true ∧ 99 ≤ s.monitor.silence →
        (s.works second []).monitor.quiet = s.monitor.quiet) ∧
      (s.monitor.state ≠ .off → s.monitor.silence < 99 →
        (s.works second []).monitor.quiet = (s.monitor.silence + 1, s.monitor.silent)) ∧
      (s.monitor.state ≠ .off → s.monitor.silent = false → 99 ≤ s.monitor.silence →
        (s.works second []).monitor.quiet = (100, true) ∧
          (s.works second []).attention.isPending 7 = true) := by
  have hearly : (s.takeAll (s.earlyWorks second)).monitor.quiet = s.monitor.quiet :=
    takeAll_untouched (fun t => t.monitor.quiet) _
      (fun w hw => take_quiet fun e => (counts_notMem_early s second).1 (e ▸ hw)) s
  have hstate : (s.takeAll (s.earlyWorks second)).monitor.settings = s.monitor.settings :=
    takeAll_untouched (fun t => t.monitor.settings) _ (fun w _ => take_monitor w) s
  have hlast : ∀ r : State, (watchWork r).monitor = r.monitor := fun r =>
    (onlyIn_take .markWatch r).monitor (by simp [workTouches])
  rw [works_nil]
  generalize s.takeAll (s.earlyWorks second) = r at hearly hstate
  simp only [Monitor.quiet, Monitor.settings, Prod.mk.injEq] at hearly hstate
  obtain ⟨hsilence, hsilent⟩ := hearly
  obtain ⟨-, -, hstate⟩ := hstate
  refine ⟨fun h => ?idle, fun hm hlow => ?counts, fun hm hs hhigh => ?silent⟩
  case idle =>
    rw [← hstate, ← hsilent, ← hsilence] at h
    simp only [hlast, silenceWork_idle h, Monitor.quiet, hsilence, hsilent]
  case counts =>
    simp only [hlast, silenceWork_counts (hstate ▸ hm) (hsilence ▸ hlow), Monitor.quiet,
      State.setMonitor_monitor, hsilence, hsilent]
  case silent =>
    have hsilence' := silenceWork_silent (s := r) (hstate ▸ hm) (hsilent.trans hs) (hsilence ▸ hhigh)
    refine ⟨by simp only [hlast, hsilence', Monitor.quiet], ?_⟩
    have hpending : (silenceWork r).attention.isPending 7 = true := by
      rw [hsilence']
      simp [Attention.isPending, State.withKind]
    have hkept : ∀ r : State, r.attention.isPending 7 = true →
        (watchWork r).attention.isPending 7 = true := by
      intro r hr
      unfold watchWork
      repeat' split
      · simpa [State.raise, Attention.isPending, Attention.mergeDetail] using .inl hr
      all_goals exact hr
    exact hkept _ hpending

/-- Settles O5: the clock moves at the beginning of a boundary and its works keep it; the minute's, the
monitor's and the watch's work are each taken once. -/
theorem aBoundaryAdvancesSiteTime : Obligations.ABoundaryAdvancesSiteTime := by
  refine ⟨fun lines later s hp hc => ?clock, fun lines later s hp hc => ⟨fun h => ?idle, fun h => ?second⟩,
    fun lines s hp => ?counts⟩
  case clock =>
    obtain ⟨temporary, watch, ctr, htime⟩ :=
      works_clock s lines (decide (19 ≤ s.flushDue.time.tickNumber)) later
    have hpins := works_pins s lines (decide (19 ≤ s.flushDue.time.tickNumber)) later
    have hshort := SiteTime.shortening_le (x := s.time) hc
    have hnumber : s.time.tickNumber < 20 := by
      rw [hc.1]
      exact Nat.mod_lt _ (by decide)
    refine ⟨_, exec_tickBoundary hp lines later, ?_⟩
    rw [htime, SiteTime.boundary_eq]
    refine ⟨rfl, ?number, rfl, ?length, ?seconds, hpins⟩
    case number => dsimp only; split <;> omega
    case length =>
      intro trim raised k
      have htrim : trim = s.time.effectiveTrim := s.time.effectiveTrim_eq.symm
      have hraised : raised = s.time.raised := by simp only [raised, htrim]; rfl
      have hk : k = s.time.shortening := by simp only [k, hraised]; rfl
      refine ⟨?_, by rw [hk, hraised]⟩
      rw [hk]
      dsimp only
      omega
    case seconds =>
      have hsame : 19 ≤ s.time.tickNumber ↔ s.time.tickNumber = 19 := by omega
      simp only [hsame]
  case idle => exact exec_secondBoundary_idle lines later h
  case second =>
    have hexec := exec_tickBoundary_second hp lines later h
    refine ⟨_, (exec_secondBoundary lines later h.ge).trans hexec, hexec, ?_⟩
    obtain ⟨temporary, watch, ctr, htime⟩ := works_clock s lines true later
    rw [htime, SiteTime.boundary_eq]
    refine ⟨by simp [h], by simp [h], fun hminute hl => ?_⟩
    have hbegun : (s.begun lines).time.seconds = s.time.boundary.seconds ∧
        (s.begun lines).time.tickCount = s.time.boundary.tickCount := by
      rw [begun_time, (flushDue_steady s).boundary]
      exact ⟨rfl, rfl⟩
    have hmonitor : (s.begun lines).monitor = s.flushDue.monitor := by rw [State.begun_eq]
    rw [SiteTime.boundary_eq] at hbegun
    have htallied := works_minute (s := s.begun lines) later (by rw [hbegun.1]; exact hminute) hl
    rw [hmonitor, hbegun.1, hbegun.2] at htallied
    simp only [Monitor.tallied, Prod.mk.injEq] at htallied
    obtain ⟨hholding, hstart, hlast, hspan⟩ := htallied
    exact ⟨hlast, hholding, hstart, hspan⟩
  case counts =>
    have hbegun : (s.begun lines).time.watched = s.flushDue.time.watched := by
      rw [begun_time, SiteTime.boundary_eq]
      rfl
    have hmonitor : (s.begun lines).monitor = s.flushDue.monitor := by rw [State.begun_eq]
    have hwatch := works_watch (s.begun lines) (decide (19 ≤ s.flushDue.time.tickNumber))
    have hsilence := works_silence (s.begun lines) (decide (19 ≤ s.flushDue.time.tickNumber))
    have htemporary := works_temporary (s.begun lines) (decide (19 ≤ s.flushDue.time.tickNumber))
    simp only [SiteTime.watched, Prod.mk.injEq] at hbegun hwatch
    simp only [hbegun.1, hbegun.2] at hwatch
    simp only [hmonitor, Monitor.quiet, Prod.mk.injEq] at hsilence
    obtain ⟨hoff, hon⟩ := hwatch
    obtain ⟨hidle, hcounts, hsilent⟩ := hsilence
    refine ⟨_, exec_tickBoundary hp lines [], ?temporary, hoff, fun h => ⟨(hon h).1, fun hhigh => ?lost⟩,
      hidle, hcounts, fun hm hs hhigh => ?silent⟩
    case temporary =>
      rw [htemporary, begun_time, SiteTime.trimNow_boundary, (flushDue_steady s).trim,
        SiteTime.trimNow]
      rcases s.time.temporary with _ | ⟨v, _ | _ | k⟩ <;> rfl
    case lost =>
      obtain ⟨⟨hlost, hctr⟩, hpending⟩ := (hon h).2 hhigh
      exact ⟨hlost, hctr, hpending⟩
    case silent =>
      obtain ⟨⟨hsilence, hmark⟩, hpending⟩ := hsilent hm hs hhigh
      exact ⟨hsilence, hmark, hpending⟩

end Sys2Proof.Machine
end

section
/-! SUPPORT. Request bodies written and read (O52): each reader undoes its writer, and what is read was
written. -/

namespace Sys2Proof.Machine

/-! ### Values of two and four bytes -/

theorem join2_split2 (v : BitVec 16) : v.extractLsb' 8 8 ++ v.extractLsb' 0 8 = v := by
  ext i hi
  simp only [BitVec.getElem_append, BitVec.getElem_extractLsb']
  split
  · simp [BitVec.getLsbD_eq_getElem hi]
  · rw [show 8 + (i - 8) = i by omega, BitVec.getLsbD_eq_getElem hi]

theorem join4_split4 (v : BitVec 32) :
    v.extractLsb' 24 8 ++ v.extractLsb' 16 8 ++ v.extractLsb' 8 8 ++ v.extractLsb' 0 8 = v := by
  ext i hi
  simp only [BitVec.getElem_append, BitVec.getElem_extractLsb']
  repeat' split
  all_goals
    rw [← BitVec.getLsbD_eq_getElem hi]
    congr 1
    omega

/-- The low part of two joined words. -/
theorem extract_append_low {m n : Nat} (a : BitVec m) (b : BitVec n) :
    (a ++ b).extractLsb' 0 n = b := by
  ext i hi
  simp [BitVec.getLsbD_append, hi]

/-- The part of two joined words above the low one. -/
theorem extract_append_high {m n : Nat} (a : BitVec m) (b : BitVec n) (k l : Nat) :
    (a ++ b).extractLsb' (n + k) l = a.extractLsb' k l := by
  ext i hi
  have hnot : ¬ n + k + i < n := by omega
  simp [BitVec.getLsbD_append, hnot, show n + k + i - n = k + i by omega]

@[simp] theorem split2_join2 (a b : Byte) : split2 (a ++ b) = [a, b] := by
  have hlow : (a ++ b).extractLsb' 0 8 = b := extract_append_low a b
  have hhigh : (a ++ b).extractLsb' 8 8 = a :=
    (extract_append_high a b 0 8).trans (BitVec.extractLsb'_eq_self (x := a))
  rw [split2, hlow, hhigh]

@[simp] theorem split4_join4 (a b c d : Byte) : split4 (a ++ b ++ c ++ d) = [a, b, c, d] := by
  have h0 : (a ++ b ++ c ++ d).extractLsb' 0 8 = d := extract_append_low (a ++ b ++ c) d
  have h1 : (a ++ b ++ c ++ d).extractLsb' 8 8 = c :=
    (extract_append_high (a ++ b ++ c) d 0 8).trans (extract_append_low (a ++ b) c)
  have h2 : (a ++ b ++ c ++ d).extractLsb' 16 8 = b :=
    (extract_append_high (a ++ b ++ c) d 8 8).trans
      ((extract_append_high (a ++ b) c 0 8).trans (extract_append_low a b))
  have h3 : (a ++ b ++ c ++ d).extractLsb' 24 8 = a :=
    (extract_append_high (a ++ b ++ c) d 16 8).trans
      ((extract_append_high (a ++ b) c 8 8).trans
        ((extract_append_high a b 0 8).trans (BitVec.extractLsb'_eq_self (x := a))))
  rw [split4, h0, h1, h2, h3]

@[simp] theorem take2_split2 (v : BitVec 16) (rest : List Byte) :
    take2 (split2 v ++ rest) = some (v, rest) := by
  simp only [split2, List.cons_append, List.nil_append, take2, join2_split2]

@[simp] theorem take4_split4 (v : BitVec 32) (rest : List Byte) :
    take4 (split4 v ++ rest) = some (v, rest) := by
  simp only [split4, List.cons_append, List.nil_append, take4, join4_split4]

theorem take2_some {bs rest : List Byte} {v : BitVec 16} (h : take2 bs = some (v, rest)) :
    bs = split2 v ++ rest := by
  unfold take2 at h
  split at h
  · cases h; simp
  · contradiction

theorem take4_some {bs rest : List Byte} {v : BitVec 32} (h : take4 bs = some (v, rest)) :
    bs = split4 v ++ rest := by
  unfold take4 at h
  split at h
  · cases h; simp
  · contradiction

/-! ### The optional fields of a SUBMIT -/

/-- An advice code and its duration hint on the wire. -/
def adviceBytes (x : BitVec 16 × Byte) : List Byte := split2 x.1 ++ [x.2]

/-- A text on the wire. -/
def textBytes (t : List Byte) : List Byte := BitVec.ofNat 8 t.length :: t

/-- An optional field on the wire. -/
def fieldBytes {α : Type} (write : α → List Byte) (x : Option α) : List Byte :=
  (x.map write).getD []

@[simp] theorem takeAdvice_adviceBytes (x : BitVec 16 × Byte) (rest : List Byte) :
    takeAdvice (adviceBytes x ++ rest) = some (x, rest) := by
  simp only [adviceBytes, split2, List.cons_append, List.nil_append, takeAdvice, join2_split2]

theorem takeAdvice_some {bs rest : List Byte} {x : BitVec 16 × Byte}
    (h : takeAdvice bs = some (x, rest)) : bs = adviceBytes x ++ rest := by
  unfold takeAdvice at h
  split at h
  · cases h; simp [adviceBytes]
  · contradiction

theorem takeText_textBytes {t : List Byte} (rest : List Byte) (h0 : t ≠ []) (h : t.length < 256) :
    takeText (textBytes t ++ rest) = some (t, rest) := by
  have hlen : (BitVec.ofNat 8 t.length).toNat = t.length := by
    simp only [BitVec.toNat_ofNat]
    omega
  have hpos : t.length ≠ 0 := fun h => h0 (List.length_eq_zero_iff.1 h)
  simp only [textBytes, List.cons_append, takeText, hlen]
  rw [if_neg (by simp [hpos])]
  simp

theorem takeText_some {bs rest t : List Byte} (h : takeText bs = some (t, rest)) :
    bs = textBytes t ++ rest ∧ t ≠ [] := by
  unfold takeText at h
  split at h
  · next b tail =>
    split at h
    · contradiction
    · next hb =>
      cases h
      have hle : b.toNat ≤ tail.length := by omega
      have hlen : (tail.take b.toNat).length = b.toNat := by simp [hle]
      refine ⟨?_, fun hnil => hb (.inl ?_)⟩
      · simp [textBytes, hle]
      · rw [← hlen, hnil]; rfl
  · contradiction

theorem takeIf_fieldBytes {α : Type} {take : List Byte → Option (α × List Byte)}
    {write : α → List Byte} (x : Option α) (rest : List Byte)
    (h : ∀ v, x = some v → take (write v ++ rest) = some (v, rest)) :
    takeIf x.isSome take (fieldBytes write x ++ rest) = some (x, rest) := by
  cases x with
  | none => rfl
  | some v => simp [takeIf, fieldBytes, h v rfl]

theorem takeIf_some {α : Type} {take : List Byte → Option (α × List Byte)}
    {write : α → List Byte} {present : Bool} {bs : List Byte} {x : Option α} {rest : List Byte}
    (hread : ∀ v cs, take bs = some (v, cs) → bs = write v ++ cs)
    (h : takeIf present take bs = some (x, rest)) :
    bs = fieldBytes write x ++ rest ∧ present = x.isSome := by
  unfold takeIf at h
  cases present with
  | false => cases h; exact ⟨rfl, rfl⟩
  | true =>
    obtain ⟨⟨v, cs⟩, hv, he⟩ := Option.map_eq_some_iff.1 h
    cases he
    exact ⟨hread v cs hv, rfl⟩

/-! ### SUBMIT -/

theorem submitBytes_eq (a : SubmitArgs) :
    submitBytes a = split2 a.number ++ [a.version, a.urgency] ++ split2 a.event ++
      split2 a.location ++ [a.extent ++ a.direction, submitPresence a] ++
      (fieldBytes split2 a.areas ++ (fieldBytes split4 a.startsAt ++ (fieldBytes split4 a.endsAt ++
        (fieldBytes adviceBytes a.advice ++ (fieldBytes textBytes a.text ++ [a.confirm]))))) := by
  unfold submitBytes fieldBytes
  cases a.areas <;> cases a.startsAt <;> cases a.endsAt <;> cases a.advice <;> cases a.text <;>
    simp [adviceBytes, textBytes]

/-- The presence byte of a SUBMIT, of its spare bits and its five marks. -/
def presenceByte (spare : BitVec 3) (text advice ends starts areas : Bool) : Byte :=
  spare ++ BitVec.ofBool text ++ BitVec.ofBool advice ++ BitVec.ofBool ends ++
    BitVec.ofBool starts ++ BitVec.ofBool areas

theorem presenceByte_bits : ∀ (spare : BitVec 3) (text advice ends starts areas : Bool),
    (presenceByte spare text advice ends starts areas).getLsbD 0 = areas ∧
      (presenceByte spare text advice ends starts areas).getLsbD 1 = starts ∧
      (presenceByte spare text advice ends starts areas).getLsbD 2 = ends ∧
      (presenceByte spare text advice ends starts areas).getLsbD 3 = advice ∧
      (presenceByte spare text advice ends starts areas).getLsbD 4 = text ∧
      (presenceByte spare text advice ends starts areas).extractLsb' 5 3 = spare := by
  decide

theorem submitPresence_bits (a : SubmitArgs) :
    (submitPresence a).getLsbD 0 = a.areas.isSome ∧
      (submitPresence a).getLsbD 1 = a.startsAt.isSome ∧
      (submitPresence a).getLsbD 2 = a.endsAt.isSome ∧
      (submitPresence a).getLsbD 3 = a.advice.isSome ∧
      (submitPresence a).getLsbD 4 = a.text.isSome ∧
      (submitPresence a).extractLsb' 5 3 = a.spare :=
  presenceByte_bits a.spare a.text.isSome a.advice.isSome a.endsAt.isSome a.startsAt.isSome
    a.areas.isSome

/-- A byte is the presence byte of its own bits. -/
theorem presenceByte_of_bits : ∀ b : Byte,
    presenceByte (b.extractLsb' 5 3) (b.getLsbD 4) (b.getLsbD 3) (b.getLsbD 2) (b.getLsbD 1)
      (b.getLsbD 0) = b := by
  decide

theorem nibbles_join : ∀ b : Byte, b.extractLsb' 4 4 ++ b.extractLsb' 0 4 = b := by decide

theorem takeIf_text_ne_nil {present : Bool} {bs rest : List Byte} {x : Option (List Byte)}
    (h : takeIf present takeText bs = some (x, rest)) : x ≠ some [] := by
  rintro rfl
  unfold takeIf at h
  cases present with
  | false => cases h
  | true =>
    obtain ⟨⟨t, cs⟩, ht, he⟩ := Option.map_eq_some_iff.1 h
    cases he
    exact (takeText_some ht).2 rfl

theorem fits_text {a : SubmitArgs} {t : List Byte} (h : a.fits = true) (ht : a.text = some t) :
    t ≠ [] ∧ t.length < 256 := by
  simp only [SubmitArgs.fits, SubmitArgs.bodyLength, ht, Bool.and_eq_true, decide_eq_true_eq] at h
  refine ⟨fun e => h.1 (by rw [e]), ?_⟩
  have := h.2
  omega

/-- A SUBMIT that fits is read as it was written (09 R187 and section 9.9). -/
theorem parseSubmit_submitBytes (a : SubmitArgs) (h : a.fits = true) :
    parseSubmit (submitBytes a) = some a := by
  obtain ⟨h0, h1, h2, h3, h4, h5⟩ := submitPresence_bits a
  have hareas := takeIf_fieldBytes (write := split2) a.areas
    (fieldBytes split4 a.startsAt ++ (fieldBytes split4 a.endsAt ++
      (fieldBytes adviceBytes a.advice ++ (fieldBytes textBytes a.text ++ [a.confirm]))))
    (fun v _ => take2_split2 v _)
  have hstarts := takeIf_fieldBytes (write := split4) a.startsAt
    (fieldBytes split4 a.endsAt ++
      (fieldBytes adviceBytes a.advice ++ (fieldBytes textBytes a.text ++ [a.confirm])))
    (fun v _ => take4_split4 v _)
  have hends := takeIf_fieldBytes (write := split4) a.endsAt
    (fieldBytes adviceBytes a.advice ++ (fieldBytes textBytes a.text ++ [a.confirm]))
    (fun v _ => take4_split4 v _)
  have hadvice := takeIf_fieldBytes (write := adviceBytes) a.advice
    (fieldBytes textBytes a.text ++ [a.confirm]) (fun x _ => takeAdvice_adviceBytes x _)
  have htext := takeIf_fieldBytes (write := textBytes) a.text [a.confirm]
    (fun t ht => takeText_textBytes _ (fits_text h ht).1 (fits_text h ht).2)
  have hextent : (a.extent ++ a.direction).extractLsb' 4 4 = a.extent :=
    (extract_append_high a.extent a.direction 0 4).trans BitVec.extractLsb'_eq_self
  have hdirection : (a.extent ++ a.direction).extractLsb' 0 4 = a.direction :=
    extract_append_low a.extent a.direction
  rw [submitBytes_eq]
  simp only [split2, List.cons_append, List.nil_append, parseSubmit, h0, h1, h2, h3, h4, h5,
    join2_split2, hextent, hdirection]
  simp only [hareas, hstarts, hends, hadvice, htext, Option.bind_some]

/-- What is read as a SUBMIT was written as one. -/
theorem parseSubmit_some {bs : List Byte} {a : SubmitArgs} (h : parseSubmit bs = some a) :
    submitBytes a = bs ∧ a.text ≠ some [] := by
  unfold parseSubmit at h
  split at h
  · next n1 n0 version cls e1 e0 l1 l0 x pr rest =>
    obtain ⟨⟨areas, r1⟩, hareas, h⟩ := Option.bind_eq_some_iff.1 h
    obtain ⟨⟨starts, r2⟩, hstarts, h⟩ := Option.bind_eq_some_iff.1 h
    obtain ⟨⟨ends, r3⟩, hends, h⟩ := Option.bind_eq_some_iff.1 h
    obtain ⟨⟨advice, r4⟩, hadvice, h⟩ := Option.bind_eq_some_iff.1 h
    obtain ⟨⟨text, r5⟩, htext, h⟩ := Option.bind_eq_some_iff.1 h
    split at h
    · next confirm hconfirm =>
      cases h
      obtain ⟨he1, hp0⟩ := takeIf_some (write := split2) (fun v cs => take2_some) hareas
      obtain ⟨he2, hp1⟩ := takeIf_some (write := split4) (fun v cs => take4_some) hstarts
      obtain ⟨he3, hp2⟩ := takeIf_some (write := split4) (fun v cs => take4_some) hends
      obtain ⟨he4, hp3⟩ := takeIf_some (write := adviceBytes) (fun v cs => takeAdvice_some) hadvice
      obtain ⟨he5, hp4⟩ :=
        takeIf_some (write := textBytes) (fun v cs hv => (takeText_some hv).1) htext
      dsimp only at he1 he2 he3 he4 he5 hconfirm
      refine ⟨?_, ?_⟩
      · rw [submitBytes_eq, he1, he2, he3, he4, he5, hconfirm]
        have hpresence : pr.extractLsb' 5 3 ++ BitVec.ofBool text.isSome ++
            BitVec.ofBool advice.isSome ++ BitVec.ofBool ends.isSome ++
            BitVec.ofBool starts.isSome ++ BitVec.ofBool areas.isSome = pr := by
          rw [← hp0, ← hp1, ← hp2, ← hp3, ← hp4]
          exact presenceByte_of_bits pr
        simp only [split2_join2, nibbles_join, submitPresence, hpresence]
        rfl
      · exact takeIf_text_ne_nil htext
    · contradiction
  · contradiction

/-! ### SET NAME -/

theorem parseSetName_params (prog variant : Byte) (short long : List Byte)
    (h : 5 + short.length + long.length ≤ 250) :
    parseSetName (requestParams (.setName prog variant short long)) =
      some (.setName prog variant short long) := by
  have hs : (BitVec.ofNat 8 short.length).toNat = short.length := by
    simp only [BitVec.toNat_ofNat]; omega
  have hl : (BitVec.ofNat 8 long.length).toNat = long.length := by
    simp only [BitVec.toNat_ofNat]; omega
  simp only [requestParams, List.cons_append, List.nil_append, List.append_assoc, parseSetName, hs,
    List.drop_left', List.take_left', hl]
  rw [if_pos (by simp only [List.length_append, List.length_cons]; omega)]

theorem parseSetName_some {bs : List Byte} {r : Request} (h : parseSetName bs = some r) :
    ∃ prog variant short long, r = .setName prog variant short long ∧ requestParams r = bs := by
  unfold parseSetName at h
  split at h
  · next prog variant s rest =>
    split at h
    · next l long hdrop =>
      split at h
      · next hlen =>
        cases h
        refine ⟨prog, variant, rest.take s.toNat, long, rfl, ?_⟩
        have hle : s.toNat ≤ rest.length := by omega
        have hlong : long.length = l.toNat := by
          have := congrArg List.length hdrop
          simp only [List.length_drop, List.length_cons] at this
          omega
        simp only [requestParams, List.length_take, Nat.min_eq_left hle, hlong, BitVec.ofNat_toNat,
          BitVec.setWidth_eq, List.cons_append, List.nil_append, List.append_assoc, ← hdrop,
          List.take_append_drop]
      · contradiction
    · contradiction
  · contradiction

/-! ### Every request -/

/-- Settles O52: of the requests of fixed length each list of bytes is joined again; SUBMIT, SET NAME and
SET PLAN have readers of their own. -/
theorem everyRequestIsReadAsItIsWritten : Obligations.EveryRequestIsReadAsItIsWritten := by
  intro r hr
  cases r with
  | submit a => exact congrArg (Option.map Request.submit) (parseSubmit_submitBytes a hr)
  | setName prog variant short long =>
    exact parseSetName_params prog variant short long (by simpa [Request.fits] using hr)
  | setPlan stream duties =>
    have hlen : duties.length = 20 := by simpa [Request.fits] using hr
    exact if_pos hlen
  | setAttentionMask v => exact congrArg (some ∘ Request.setAttentionMask) (join2_split2 v)
  | withdraw v => exact congrArg (some ∘ Request.withdraw) (join2_split2 v)
  | purge v => exact congrArg (some ∘ Request.purge) (join2_split2 v)
  | queryNotice v => exact congrArg (some ∘ Request.queryNotice) (join2_split2 v)
  | setDefaultAreas v => exact congrArg (some ∘ Request.setDefaultAreas) (join2_split2 v)
  | setTime v => exact congrArg (some ∘ Request.setTime) (join4_split4 v)
  | stepTime v => exact congrArg (some ∘ Request.stepTime) (join4_split4 v)
  | setTrim v => exact congrArg (some ∘ Request.setTrim) (join4_split4 v)
  | setClass c v s => exact congrArg (fun x => some (Request.setClass c x s)) (join2_split2 v)
  | setCue p c l h v => exact congrArg (some ∘ Request.setCue p c l h) (join2_split2 v)
  | setNoticeLimits w u v =>
    exact congrArg₂ (fun x y => some (Request.setNoticeLimits w x y)) (join4_split4 u) (join2_split2 v)
  | setRange e n u v a =>
    exact congrArg₂ (fun x y => some (Request.setRange e n x y a)) (join2_split2 u) (join2_split2 v)
  | setProgramme p u v t y =>
    exact congrArg₂ (fun x z => some (Request.setProgramme p x z t y)) (join2_split2 u)
      (join2_split2 v)
  | setTimedChange e p n u v =>
    exact congrArg₂ (fun x y => some (Request.setTimedChange e p n x y)) (join4_split4 u)
      (join4_split4 v)
  | trimFor u v =>
    exact congrArg₂ (fun x y => some (Request.trimFor x y)) (join4_split4 u) (join4_split4 v)
  | _ => rfl

theorem length_submitBytes (a : SubmitArgs) : (submitBytes a).length + 1 = a.bodyLength := by
  rw [submitBytes_eq, SubmitArgs.bodyLength]
  cases a.areas <;> cases a.startsAt <;> cases a.endsAt <;> cases a.advice <;> cases a.text <;>
    simp [fieldBytes, split2, split4, adviceBytes, textBytes] <;> omega

theorem submit_fits_of_length {a : SubmitArgs} (ht : a.text ≠ some [])
    (h : (submitBytes a).length ≤ 249) : a.fits = true := by
  have hlen := length_submitBytes a
  simp only [SubmitArgs.fits, Bool.and_eq_true, decide_eq_true_eq]
  exact ⟨ht, by omega⟩

/-- What is read as a request is that request's body, one case per code of 09 section 9.8; in a frame of at
most 250 body bytes it fits (09 R187). -/
theorem parseRequest_some {code : Byte} {bs : List Byte} {r : Request} (hcode : code ∈ requestCodes)
    (h : parseRequest code bs = some r) :
    requestCode r = code ∧ requestParams r = bs ∧ (bs.length ≤ 249 → r.fits = true) := by
  fin_cases hcode
  · match bs, h with
    | [], rfl => exact ⟨rfl, rfl, fun _ => rfl⟩
  · match bs, h with
    | [], rfl => exact ⟨rfl, rfl, fun _ => rfl⟩
  · match bs, h with
    | [a, b], rfl => exact ⟨rfl, split2_join2 a b, fun _ => rfl⟩
  · match bs, h with
    | [a, b], rfl => exact ⟨rfl, rfl, fun _ => rfl⟩
  · match bs, h with
    | [], rfl => exact ⟨rfl, rfl, fun _ => rfl⟩
  · match bs, h with
    | [a], rfl => exact ⟨rfl, rfl, fun _ => rfl⟩
  · obtain ⟨a, ha, rfl⟩ := Option.map_eq_some_iff.1 h
    obtain ⟨hbytes, htext⟩ := parseSubmit_some ha
    exact ⟨rfl, hbytes, fun hlen => submit_fits_of_length htext (hbytes ▸ hlen)⟩
  · match bs, h with
    | [a, b], rfl => exact ⟨rfl, split2_join2 a b, fun _ => rfl⟩
  · match bs, h with
    | [], rfl => exact ⟨rfl, rfl, fun _ => rfl⟩
  · match bs, h with
    | [a, b], rfl => exact ⟨rfl, split2_join2 a b, fun _ => rfl⟩
  · match bs, h with
    | [a, b], rfl => exact ⟨rfl, split2_join2 a b, fun _ => rfl⟩
  · match bs, h with
    | [a], rfl => exact ⟨rfl, rfl, fun _ => rfl⟩
  · match bs, h with
    | [a, b, c, d], rfl => exact ⟨rfl, by simp [requestParams], fun _ => rfl⟩
  · match bs, h with
    | [a, b, c, d, e, f, g], rfl => exact ⟨rfl, by simp [requestParams], fun _ => rfl⟩
  · match bs, h with
    | [a, b, c, d, e, f, g], rfl => exact ⟨rfl, by simp [requestParams], fun _ => rfl⟩
  · match bs, h with
    | [a], rfl => exact ⟨rfl, rfl, fun _ => rfl⟩
  · match bs, h with
    | [a, b], rfl => exact ⟨rfl, split2_join2 a b, fun _ => rfl⟩
  · match bs, h with
    | [a, b, c, d, e, f, g], rfl => exact ⟨rfl, by simp [requestParams], fun _ => rfl⟩
  · obtain ⟨prog, variant, short, long, rfl, hparams⟩ := parseSetName_some h
    refine ⟨rfl, hparams, fun hlen => ?_⟩
    rw [← hparams] at hlen
    simp only [requestParams, List.length_append, List.length_cons, List.length_nil] at hlen
    simp only [Request.fits, decide_eq_true_eq]
    omega
  · match bs, h with
    | [a, b], rfl => exact ⟨rfl, rfl, fun _ => rfl⟩
  · match bs, h with
    | [a, b, c, d, e, f, g, h, i, j, k], rfl => exact ⟨rfl, by simp [requestParams], fun _ => rfl⟩
  · match bs, h with
    | [a], rfl => exact ⟨rfl, rfl, fun _ => rfl⟩
  · match bs, h with
    | stream :: duties, h =>
      have hplan : (if duties.length = 20 then some (Request.setPlan stream duties) else none) =
        some r := h
      split at hplan
      · next hlen => cases hplan; exact ⟨rfl, rfl, fun _ => by simpa [Request.fits] using hlen⟩
      · contradiction
  · match bs, h with
    | [a], rfl => exact ⟨rfl, rfl, fun _ => rfl⟩
  · match bs, h with
    | [a], rfl => exact ⟨rfl, rfl, fun _ => rfl⟩
  · match bs, h with
    | [a], rfl => exact ⟨rfl, rfl, fun _ => rfl⟩
  · match bs, h with
    | [a], rfl => exact ⟨rfl, rfl, fun _ => rfl⟩
  · match bs, h with
    | [a, b, c, d, e, f], rfl => exact ⟨rfl, by simp [requestParams], fun _ => rfl⟩
  · match bs, h with
    | [a], rfl => exact ⟨rfl, rfl, fun _ => rfl⟩
  · match bs, h with
    | [a], rfl => exact ⟨rfl, rfl, fun _ => rfl⟩
  · match bs, h with
    | [a], rfl => exact ⟨rfl, rfl, fun _ => rfl⟩
  · match bs, h with
    | [a, b, c, d], rfl => exact ⟨rfl, split4_join4 a b c d, fun _ => rfl⟩
  · match bs, h with
    | [a, b, c, d], rfl => exact ⟨rfl, split4_join4 a b c d, fun _ => rfl⟩
  · match bs, h with
    | [a, b, c, d], rfl => exact ⟨rfl, split4_join4 a b c d, fun _ => rfl⟩
  · match bs, h with
    | [a, b, c, d, e, f, g, h], rfl => exact ⟨rfl, by simp [requestParams], fun _ => rfl⟩
  · match bs, h with
    | [], rfl => exact ⟨rfl, rfl, fun _ => rfl⟩
  · match bs, h with
    | [], rfl => exact ⟨rfl, rfl, fun _ => rfl⟩
  · match bs, h with
    | [a], rfl => exact ⟨rfl, rfl, fun _ => rfl⟩
  · match bs, h with
    | [a], rfl => exact ⟨rfl, rfl, fun _ => rfl⟩
  · match bs, h with
    | [a, b, c], rfl => exact ⟨rfl, rfl, fun _ => rfl⟩
  · match bs, h with
    | [], rfl => exact ⟨rfl, rfl, fun _ => rfl⟩

end Sys2Proof.Machine
end

section
/-! SUPPORT. Characters and frames received on a port (O20, O21, O53). -/

namespace Sys2Proof.Machine

variable {s t u : State}

/-! ### A character received -/

theorem exec_byteReceived (hp : s.pornLow = false) (p : Port) (c : RxChar) :
    exec (.byteReceived p c) s = .next (s.receiveChar p c) := running_next hp _

theorem State.strayByte_eq (s : State) (p : Port) :
    s.strayByte p = if (s.port p).stray = true then s
      else (s.setPort p { s.port p with stray := true }).frameLost p := by
  rw [State.strayByte, State.discard_eq]

/-- A byte that its assembly goes on with (09 R179). -/
theorem receiveChar_goOn {p : Port} {b : Byte} {asm : Assembly}
    (h : (s.port p).asm.take b = .goOn asm) :
    s.receiveChar p (.byte b) = s.setPort p ((s.port p).goOn asm) := by
  simp only [State.receiveChar, State.takeByte, h]

theorem receiveChar_stray {p : Port} {b : Byte} (h : (s.port p).asm.take b = .stray) :
    s.receiveChar p (.byte b) = s.strayByte p := by
  simp only [State.receiveChar, State.takeByte, h]

theorem receiveChar_discard {p : Port} {b : Byte} (h : (s.port p).asm.take b = .discard) :
    s.receiveChar p (.byte b) = s.frameLost p := by
  simp only [State.receiveChar, State.takeByte, h, State.discard_eq]

theorem receiveChar_complete {p : Port} {b : Byte} {f : Frame}
    (h : (s.port p).asm.take b = .complete f) :
    s.receiveChar p (.byte b) =
      (s.setPort p { s.port p with asm := .hunt, timer := 0 }).frameArrives p f := by
  simp only [State.receiveChar, State.takeByte, h]

theorem PortState.goOn_assembling {x : PortState} (asm : Assembly) (h : x.asm ≠ .hunt) :
    x.goOn asm = { x with asm := asm, timer := 0 } := by
  rw [PortState.goOn, if_neg h]

theorem receiveChar_framingError (s : State) (p : Port) :
    s.receiveChar p .framingError =
      if (s.port p).asm = .hunt then s.strayByte p else s.frameLost p := by
  rw [State.receiveChar, State.framingError, State.discard_eq]

/-! ### A character on the line -/

theorem charOf_byte : ∀ b : Byte, charOf [b.getLsbD 0, b.getLsbD 1, b.getLsbD 2, b.getLsbD 3,
    b.getLsbD 4, b.getLsbD 5, b.getLsbD 6, b.getLsbD 7] true = .byte b := by
  decide

/-! ### The attention unit under the works of a boundary -/

/-- `b` has every kind pending that `a` has, and the same LINK detail. -/
structure Attention.Covers (a b : Attention) : Prop where
  kinds : ∀ k, a.isPending k = true → b.isPending k = true
  link : b.link = a.link

theorem Attention.Covers.refl (a : Attention) : a.Covers a := ⟨fun _ h => h, rfl⟩

theorem Attention.Covers.trans {a b c : Attention} (h : a.Covers b) (h' : b.Covers c) : a.Covers c :=
  ⟨fun k hk => h'.kinds k (h.kinds k hk), h'.link.trans h.link⟩

/-- Kinds added, and details other than LINK's. -/
theorem Attention.covers_of_or {a b : Attention} (kinds : BitVec 11)
    (hk : b.pendingKinds = a.pendingKinds ||| kinds) (hl : b.link = a.link) : a.Covers b where
  kinds k h := by
    rw [Attention.isPending] at h ⊢
    rw [hk, BitVec.getLsbD_or, h, Bool.true_or]
  link := hl

theorem raise_covers (s : State) (e : AttnEvent) (he : ∀ p, e ≠ .link p) :
    s.attention.Covers (s.raise e).attention := by
  refine Attention.covers_of_or (kindBit e.kind) rfl ?_
  cases e with
  | link p => exact absurd rfl (he p)
  | _ => rfl

theorem announceWork_covers (p : Ch) (s : State) :
    s.attention.Covers (announceWork p s).attention := by
  unfold announceWork
  dsimp only
  split
  · refine .trans ?_ (raise_covers _ (.overrun p) nofun)
    rw [putAnn_attention, putAnn_attention]
    exact .refl _
  · rw [putAnn_attention]
    exact .refl _

theorem take_covers (w : Work) (s : State) : s.attention.Covers (s.take w).attention := by
  have hkept : ∀ v : Work, .attention ∉ workTouches v →
      s.attention.Covers (s.take v).attention := fun v hv => by
    rw [(onlyIn_take v s).attention hv]
    exact .refl _
  cases w with
  | timedFire =>
    refine forChannels_keeps (P := fun t => s.attention.Covers t.attention)
      (fun p t ht => ht.trans ?_) s (.refl _)
    rw [timedWork_eq]
    exact Attention.covers_of_or _ rfl rfl
  | stream n =>
    obtain ⟨loaded, moved, h⟩ := streamWork_attention n s
    refine Attention.covers_of_or ((if loaded then 0x001#11 else 0#11) |||
      (if moved then 0x002#11 else 0#11)) ?_ ?_
    · rw [State.take, h, ← BitVec.or_assoc]; rfl
    · rw [State.take, h]; rfl
  | announce p => exact announceWork_covers p s
  | silence =>
    simp only [State.take, silenceWork]
    repeat' split
    all_goals first | exact .refl _ | exact raise_covers _ .silent nofun
  | markWatch =>
    simp only [State.take, watchWork]
    repeat' split
    all_goals first | exact .refl _ | exact raise_covers _ .markLost nofun
  | _ => exact hkept _ (by simp [workTouches])

/-- A port's assembly after a tick boundary is that of its silence timer run to the end of the tick
(09 R181). -/
theorem works_port (s : State) (lines : Lines) (second : Bool) (later : List Work) (p : Port) :
    let x := (s.port p).timed (s.time.tickLength - s.time.phase)
    let y := ((s.begun lines).works second later).port p
    y.asm = x.asm ∧ y.timer = x.timer ∧ y.errors = x.errors := by
  have hflush : (s.port p).Later (s.flushDue.port p) := (evolves_takeAll s.due s).ports p
  have hworks : ((s.begun lines).port p).Later (((s.begun lines).works second later).port p) :=
    (evolves_takeAll _ (s.begun lines)).ports p
  have hclock : s.flushDue.time.tickLength = s.time.tickLength ∧
      s.flushDue.time.phase = s.time.phase := by
    rw [(flushDue_steady s).same]
    exact ⟨rfl, rfl⟩
  have hbegun : (s.begun lines).port p =
      (s.flushDue.port p).timed (s.time.tickLength - s.time.phase) := by
    rw [State.begun_eq, State.finishTick_eq, hclock.1, hclock.2]
    cases p <;> rfl
  rw [hbegun] at hworks
  intro x y
  rw [hworks.asm, hworks.timer, hworks.errors]
  have hout : (s.flushDue.port p).timesOut (s.time.tickLength - s.time.phase) =
      (s.port p).timesOut (s.time.tickLength - s.time.phase) := by
    rw [PortState.timesOut, hflush.asm, hflush.timer, PortState.timesOut]
  simp only [x, PortState.timed, hflush.asm, hout]
  repeat' split
  all_goals exact ⟨by simp only [hflush.asm], by simp only [hflush.timer], by simp only [hflush.errors]⟩

/-- LINK is pending and names the port whose frame was lost to its silence timer, also after the boundary's
works. -/
theorem works_link (s : State) (lines : Lines) (second : Bool) (later : List Work) (p : Port)
    (h : (s.port p).timesOut (s.time.tickLength - s.time.phase) = true) :
    ((s.begun lines).works second later).attention.isPending 10 = true ∧
      ((s.begun lines).works second later).attention.link &&& portBit p = portBit p := by
  have hflush : (s.port p).Later (s.flushDue.port p) := (evolves_takeAll s.due s).ports p
  have hclock : s.flushDue.time.tickLength = s.time.tickLength ∧
      s.flushDue.time.phase = s.time.phase := by
    rw [(flushDue_steady s).same]
    exact ⟨rfl, rfl⟩
  have hout : (s.flushDue.port p).timesOut (s.time.tickLength - s.time.phase) = true := by
    rwa [PortState.timesOut, hflush.asm, hflush.timer, ← PortState.timesOut]
  have hworks : (s.begun lines).attention.Covers
      ((s.begun lines).works second later).attention :=
    takeAll_keeps (P := fun t => (s.begun lines).attention.Covers t.attention)
      (fun w t ht => ht.trans (take_covers w t)) _ _ (.refl _)
  have hbegun : (s.begun lines).attention.isPending 10 = true ∧
      (s.begun lines).attention.link &&& portBit p = portBit p := by
    rw [State.begun_eq, State.finishTick_eq, hclock.1, hclock.2]
    cases p with
    | site =>
      have hsite : s.flushDue.ports.site.timesOut (s.time.tickLength - s.time.phase) = true := hout
      rw [hsite]
      generalize s.flushDue.ports.traffic.timesOut (s.time.tickLength - s.time.phase) = b
      generalize s.flushDue.attention = a
      refine ⟨by simp [Attention.withLink, Attention.isPending], ?_⟩
      have hbits : ∀ (l : BitVec 2) (b : Bool), (l ||| (if true then 1#2 else 0#2) |||
        (if b then 2#2 else 0#2)) &&& 1#2 = 1#2 := by decide
      exact hbits a.link b
    | traffic =>
      have htraffic : s.flushDue.ports.traffic.timesOut (s.time.tickLength - s.time.phase) = true :=
        hout
      rw [htraffic]
      generalize s.flushDue.ports.site.timesOut (s.time.tickLength - s.time.phase) = b
      generalize s.flushDue.attention = a
      refine ⟨by simp [Attention.withLink, Attention.isPending], ?_⟩
      have hbits : ∀ (l : BitVec 2) (b : Bool), (l ||| (if b then 1#2 else 0#2) |||
        (if true then 2#2 else 0#2)) &&& 2#2 = 2#2 := by decide
      exact hbits a.link b
  exact ⟨hworks.kinds 10 hbegun.1, by rw [hworks.link]; exact hbegun.2⟩

/-- Settles O20: the assembly's test of a byte decides; a boundary runs the silence timer to the end of the
tick, and its works leave the assembly alone. -/
theorem bytesAreAssembledOrDiscarded : Obligations.BytesAreAssembledOrDiscarded := by
  refine ⟨fun p b s hp => ⟨fun hasm => ?hunt, fun hasm => ?length, fun left got hasm => ?body,
      fun body hasm => ?check⟩, fun p s hp => ⟨fun hasm => ?lost, fun hasm => ?idle⟩,
    fun lines later p s hp => ?boundary, fun b => ⟨charOf_byte b, fun _ => rfl⟩⟩
  case hunt =>
    rw [exec_byteReceived hp]
    refine ⟨fun hlead => ?lead, fun hb hstray => ?first, fun hb hstray => ?dropped⟩
    case lead =>
      have htake : (s.port p).asm.take b = .goOn .length := by
        rw [hasm]
        exact if_pos hlead
      rw [receiveChar_goOn htake, PortState.goOn, if_pos hasm]
    all_goals
      have htake : (s.port p).asm.take b = .stray := by
        rw [hasm, Assembly.take]
        exact if_neg hb
      rw [receiveChar_stray htake, State.strayByte_eq, hstray]
      rfl
  case length =>
    have hne : (s.port p).asm ≠ .hunt := by rw [hasm]; nofun
    rw [exec_byteReceived hp]
    refine ⟨fun hlo hhi => ?goes, fun hout => ?out⟩
    case goes =>
      have htake : (s.port p).asm.take b = .goOn (.body b.toNat []) := by
        rw [hasm, Assembly.take, if_pos ⟨hlo, hhi⟩]
      rw [receiveChar_goOn htake, PortState.goOn_assembling _ hne]
    case out =>
      have htake : (s.port p).asm.take b = .discard := by
        rw [hasm, Assembly.take, if_neg (by omega)]
      rw [receiveChar_discard htake]
  case body =>
    have hne : (s.port p).asm ≠ .hunt := by rw [hasm]; nofun
    rw [exec_byteReceived hp]
    refine ⟨fun hmore => ?more, fun hlast => ?last⟩
    case more =>
      have htake : (s.port p).asm.take b = .goOn (.body (left - 1) (got ++ [b])) := by
        rw [hasm, Assembly.take, if_neg (by omega)]
      rw [receiveChar_goOn htake, PortState.goOn_assembling _ hne]
    case last =>
      have htake : (s.port p).asm.take b = .goOn (.check (got ++ [b]) none) := by
        rw [hasm, Assembly.take, if_pos hlast]
      rw [receiveChar_goOn htake, PortState.goOn_assembling _ hne]
  case check =>
    have hne : (s.port p).asm ≠ .hunt := by rw [hasm]; nofun
    have htake : (s.port p).asm.take b = .goOn (.check body (some b)) := by rw [hasm, Assembly.take]
    rw [exec_byteReceived hp, receiveChar_goOn htake, PortState.goOn_assembling _ hne]
  case lost =>
    refine ⟨?framing, ?silence⟩
    case framing => rw [exec_byteReceived hp, receiveChar_framingError, if_neg hasm]
    case silence =>
      refine (running_next hp (s.silenceEnd p)).trans (congrArg _ ?_)
      rw [State.silenceEnd, if_neg hasm, State.discard_eq]
  case idle =>
    refine ⟨?timer, fun hstray => ?again, fun hstray => ?stray⟩
    case timer =>
      refine (running_next hp (s.silenceEnd p)).trans (congrArg _ ?_)
      rw [State.silenceEnd, if_pos hasm]
    all_goals
      rw [exec_byteReceived hp, receiveChar_framingError, if_pos hasm, State.strayByte_eq, hstray]
      rfl
  case boundary =>
    have hport := works_port s lines (decide (19 ≤ s.flushDue.time.tickNumber)) later p
    have hlink := works_link s lines (decide (19 ≤ s.flushDue.time.tickNumber)) later p
    refine ⟨_, exec_tickBoundary hp lines later, fun hasm => ?hunting, fun hasm hlow => ?counting,
      fun hasm hhigh => ?ended⟩
    case hunting =>
      have htimed : (s.port p).timed (s.time.tickLength - s.time.phase) = s.port p := if_pos hasm
      rw [htimed] at hport
      exact ⟨hport.1.trans hasm, hport.2⟩
    case counting =>
      have hout : (s.port p).timesOut (s.time.tickLength - s.time.phase) = false :=
        decide_eq_false fun h => absurd h.2 (Nat.not_le.2 hlow)
      rw [PortState.timed, if_neg hasm, hout] at hport
      exact hport
    case ended =>
      have hout : (s.port p).timesOut (s.time.tickLength - s.time.phase) = true :=
        decide_eq_true ⟨hasm, hhigh⟩
      rw [PortState.timed, if_neg hasm, hout] at hport
      exact ⟨hport.1, hport.2.1, hport.2.2, hlink hout⟩

end Sys2Proof.Machine
end

section
/-! SUPPORT. A complete frame: taken, waiting or lost (O21), and received byte by byte (O53). -/

namespace Sys2Proof.Machine

variable {s t u : State}

/-! ### A frame taken -/

theorem takeFrame_badCheck {p : Port} {f : Frame} (h : frameCheck f.body ≠ f.check) :
    t.takeFrame p f = t.send p (refusal (f.body.headD 0#8) .badCheck) := by
  rw [State.takeFrame]
  exact if_pos h

theorem takeFrame_goodCheck {p : Port} {f : Frame} (h : frameCheck f.body = f.check) :
    t.takeFrame p f = t.dispatch p (f.body.headD 0#8) (parseRequest (f.body.headD 0#8) f.body.tail) := by
  rw [State.takeFrame]
  exact if_neg (not_not.2 h)

/-- A body of at most 250 bytes that is no request's is read as none (09 R187). -/
theorem parseRequest_none {body : List Byte} (hcode : body.headD 0#8 ∈ requestCodes)
    (hlen : body.length ≤ 250) (h : ∀ r : Request, r.fits = true → requestBody r ≠ body) :
    parseRequest (body.headD 0#8) body.tail = none := by
  match body with
  | [] => exact absurd hcode (by decide)
  | code :: bs =>
    rw [Option.eq_none_iff_forall_ne_some]
    intro r hr
    obtain ⟨hc, hparams, hfits⟩ := parseRequest_some hcode hr
    refine h r (hfits ?_) ?_
    · exact Nat.le_of_lt_succ (by simpa using hlen)
    · rw [requestBody, hc, hparams]
      rfl

theorem parseRequest_body {r : Request} (hf : r.fits = true) :
    parseRequest ((requestBody r).headD 0#8) (requestBody r).tail = some r :=
  everyRequestIsReadAsItIsWritten r hf

/-- A frame taken into the dispatcher, test by test (09 R182, R185 to R188). -/
theorem takeFrame_tests (p : Port) (f : Frame) (hp : t.pornLow = false)
    (hq : (t.port p).queue = []) :
    let code := f.body.headD 0#8
    let refused (st : Status) : Prop := t.takeFrame p f = t.send p (refusal code st)
    (frameCheck f.body ≠ f.check → refused .badCheck) ∧
      (frameCheck f.body = f.check →
        ((t.port p).held ≠ none ∧ code ≠ 0x05#8 → refused .busy) ∧
        ((t.port p).held = none ∨ code = 0x05#8 →
          (code ∉ requestCodes → refused .unknownRequest) ∧
          (code ∈ requestCodes → p = .traffic → code ∉ trafficCodes → refused .notPermitted) ∧
          (code ∈ requestCodes → (p = .site ∨ code ∈ trafficCodes) → f.body.length ≤ 250 →
            (∀ r : Request, r.fits = true → requestBody r ≠ f.body) → refused .badLength)) ∧
        ∀ (c : Instr) (r : Request), commandRequest c = some (p, r) → r.fits = true →
          requestBody r = f.body → exec c t = .next (t.takeFrame p f)) := by
  intro code refused
  refine ⟨takeFrame_badCheck, fun hcheck => ⟨fun ⟨hh, hc⟩ => ?busy, fun hh => ⟨fun hk => ?unknown,
    fun hk ht hc => ?notPermitted, fun hk hc hlen hno => ?badLength⟩, fun c r hcr hf hbody => ?taken⟩⟩
  all_goals try simp only [refused, takeFrame_goodCheck hcheck]
  case busy => exact State.dispatch_refused _ (State.admission_busy hh hc)
  case unknown => exact State.dispatch_refused _ (State.admission_unknown hh hk)
  case notPermitted =>
    subst ht
    exact State.dispatch_refused _ (State.admission_notPermitted hh hk hc)
  case badLength =>
    rw [parseRequest_none hk hlen hno]
    exact State.dispatch_badLength (State.admission_free hh hk hc)
  case taken =>
    rw [exec_commandRequest hcr, onRequest_dispatch r hp hq, if_pos hf, ← hbody, parseRequest_body hf]
    rfl

theorem frameArrives_empty {p : Port} (f : Frame) (h : (t.port p).queue = []) :
    t.frameArrives p f = t.takeFrame p f := by rw [State.frameArrives, if_pos h]

theorem frameArrives_behind {p : Port} (f : Frame) (h : (t.port p).queue ≠ []) :
    t.frameArrives p f = t.putWaiting p f := by rw [State.frameArrives, if_neg h]

theorem PortsSound.asm_fits (h : s.PortsSound) (p : Port) : (s.port p).asm.fits = true := by
  cases p with
  | site => exact (h .site (by simp)).2.2
  | traffic => exact (h .traffic (by simp)).2.2

/-- Settles O21: the last check byte gives the frame to `frameArrives`, and `takeFrame`'s tests follow. -/
theorem aCompleteFrameIsTakenWaitsOrIsLost : Obligations.ACompleteFrameIsTakenWaitsOrIsLost := by
  intro p body high low s hp hasm hsound t code allowed
  have htake : (s.port p).asm.take low = .complete ⟨body, high ++ low⟩ := by
    rw [hasm, Assembly.take]
  have hexec : exec (.byteReceived p (.byte low)) s = .next (t.frameArrives p ⟨body, high ++ low⟩) := by
    rw [exec_byteReceived hp, receiveChar_complete htake]
  have hport : t.port p = { s.port p with asm := .hunt, timer := 0 } := State.port_setPort_self ..
  have hheld : (t.port p).held = (s.port p).held := by rw [hport]
  have hlen : body.length ≤ 250 := by
    have hfits := PortsSound.asm_fits hsound p
    rw [hasm, Assembly.fits, decide_eq_true_eq] at hfits
    exact hfits.2
  rw [hexec]
  have htests := fun hq : (s.port p).queue = [] =>
    takeFrame_tests (t := t) p ⟨body, high ++ low⟩ hp (by rw [hport]; exact hq)
  have hempty := fun hq : (s.port p).queue = [] =>
    frameArrives_empty (t := t) (p := p) ⟨body, high ++ low⟩ (by rw [hport]; exact hq)
  have hbehind := fun hq : (s.port p).queue ≠ [] =>
    frameArrives_behind (t := t) (p := p) ⟨body, high ++ low⟩ (by rw [hport]; exact hq)
  refine ⟨fun hq hcheck => ?bad, fun hq hcheck => ⟨fun hbusy => ?busy, fun hfree => ⟨fun hk => ?unknown,
    fun hk ht hc => ?notPermitted, fun hk hc hno => ?badLength⟩, fun c r hcr hf hbody => ?taken⟩,
    fun hq hw => ?waits, fun hq hw => ?lost⟩
  case bad => rw [hempty hq, (htests hq).1 hcheck]
  case busy => rw [hempty hq, ((htests hq).2 hcheck).1 (hheld ▸ hbusy)]
  case unknown => rw [hempty hq, (((htests hq).2 hcheck).2.1 (hheld ▸ hfree)).1 hk]
  case notPermitted => rw [hempty hq, (((htests hq).2 hcheck).2.1 (hheld ▸ hfree)).2.1 hk ht hc]
  case badLength =>
    rw [hempty hq, (((htests hq).2 hcheck).2.1 (hheld ▸ hfree)).2.2 hk hc hlen hno]
  case taken => rw [hempty hq, ((htests hq).2 hcheck).2.2 c r hcr hf hbody]
  case waits => rw [hbehind hq, State.putWaiting_none _ (by rw [hport]; exact hw)]
  case lost => rw [hbehind hq, State.putWaiting_some _ (by rw [hport]; exact hw)]

/-! ### A frame received byte by byte -/

theorem after_byte (hp : s.pornLow = false) (p : Port) (b : Byte) (cs : List Instr) :
    s.after (.byteReceived p (.byte b) :: cs) = (s.receiveChar p (.byte b)).after cs := by
  rw [State.after, List.foldl_cons, exec_byteReceived hp]
  rfl

/-- A byte that a frame in assembly goes on with. -/
theorem after_goOn (hp : s.pornLow = false) {p : Port} {b : Byte} {asm : Assembly} (cs : List Instr)
    (hasm : (s.port p).asm ≠ .hunt) (h : (s.port p).asm.take b = .goOn asm) :
    s.after (.byteReceived p (.byte b) :: cs) =
      (s.setPort p { s.port p with asm := asm, timer := 0 }).after cs := by
  rw [after_byte hp, receiveChar_goOn h, PortState.goOn_assembling asm hasm]

/-- The bytes of a body collected (09 R179). -/
theorem after_body (bs got : List Byte) (cs : List Instr) (p : Port) (hne : bs ≠ []) :
    ∀ s : State, s.pornLow = false → (s.port p).asm = .body bs.length got →
      s.after ((bs.map fun b => Instr.byteReceived p (.byte b)) ++ cs) =
        (s.setPort p { s.port p with asm := .check (got ++ bs) none, timer := 0 }).after cs := by
  induction bs generalizing got with
  | nil => exact absurd rfl hne
  | cons b bs ih =>
    intro s hp hasm
    have hhunt : (s.port p).asm ≠ .hunt := by rw [hasm]; nofun
    rw [List.map_cons, List.cons_append]
    by_cases hlast : bs = []
    · subst hlast
      have htake : (s.port p).asm.take b = .goOn (.check (got ++ [b]) none) := by rw [hasm]; rfl
      exact after_goOn hp _ hhunt htake
    · have hlen : ¬ (b :: bs).length ≤ 1 := by
        have := List.length_pos_of_ne_nil hlast
        simp only [List.length_cons]
        omega
      have htake : (s.port p).asm.take b = .goOn (.body bs.length (got ++ [b])) := by
        rw [hasm, Assembly.take, if_neg hlen]
        rfl
      have hrest := ih (got ++ [b]) hlast
        (s.setPort p { s.port p with asm := .body bs.length (got ++ [b]), timer := 0 }) hp
        (by rw [State.port_setPort_self])
      rw [after_goOn hp _ hhunt htake, hrest, State.port_setPort_self, State.setPort_setPort,
        List.append_assoc]
      rfl

theorem length_requestBody {r : Request} (hf : r.fits = true) :
    1 ≤ (requestBody r).length ∧ (requestBody r).length ≤ 250 := by
  refine ⟨by simp [requestBody], ?_⟩
  cases r with
  | submit a =>
    have hlen := length_submitBytes a
    simp only [Request.fits, SubmitArgs.fits, Bool.and_eq_true, decide_eq_true_eq] at hf
    simp only [requestBody, requestParams, List.length_cons]
    omega
  | setName prog variant short long =>
    simp only [Request.fits, decide_eq_true_eq] at hf
    simp only [requestBody, requestParams, List.length_cons, List.length_append, List.length_nil]
    omega
  | setPlan stream duties =>
    have hlen : duties.length = 20 := by simpa [Request.fits] using hf
    simp only [requestBody, requestParams, List.length_cons, hlen]
    decide
  | _ => simp [requestBody, requestParams, split2, split4]

/-- A frame whose bytes arrive in turn, received in HUNT (09 R179). -/
theorem after_frame (p : Port) (body : List Byte) (check : BitVec 16) (hp : s.pornLow = false)
    (hasm : (s.port p).asm = .hunt) (hpos : 1 ≤ body.length) (hle : body.length ≤ 250) :
    s.after ((0xA5#8 :: BitVec.ofNat 8 body.length :: (body ++ split2 check)).map
        fun b => Instr.byteReceived p (.byte b)) =
      (s.setPort p { s.port p with timer := 0, stray := false }).frameArrives p ⟨body, check⟩ := by
  have hlen : (BitVec.ofNat 8 body.length).toNat = body.length := by
    simp only [BitVec.toNat_ofNat]
    omega
  have hne : body ≠ [] := fun h => by simp [h] at hpos
  -- the lead
  have hlead : (s.port p).asm.take 0xA5#8 = .goOn .length := by rw [hasm]; rfl
  rw [List.map_cons, after_byte hp, receiveChar_goOn hlead, PortState.goOn, if_pos hasm]
  generalize hs1 : s.setPort p { s.port p with asm := .length, timer := 0, stray := false } = s1
  have hp1 : s1.pornLow = false := by rw [← hs1]; exact hp
  have hport1 : s1.port p = { s.port p with asm := .length, timer := 0, stray := false } := by
    rw [← hs1]
    exact State.port_setPort_self ..
  -- the length byte
  have hlength : (s1.port p).asm.take (BitVec.ofNat 8 body.length) = .goOn (.body body.length []) := by
    rw [hport1]
    refine (if_pos ?_).trans (by rw [hlen])
    rw [hlen]
    exact ⟨hpos, hle⟩
  rw [List.map_cons, after_goOn hp1 _ (by rw [hport1]; nofun) hlength, List.map_append,
    after_body body [] _ p hne (s1.setPort p _) hp1 (by rw [State.port_setPort_self]),
    State.port_setPort_self, State.setPort_setPort, List.nil_append]
  generalize hs2 : s1.setPort p { s1.port p with asm := .check body none, timer := 0 } = s2
  have hp2 : s2.pornLow = false := by rw [← hs2]; exact hp1
  have hport2 : s2.port p = { s1.port p with asm := .check body none, timer := 0 } := by
    rw [← hs2]
    exact State.port_setPort_self ..
  -- the two check bytes
  have hhigh : (s2.port p).asm.take (check.extractLsb' 8 8) =
      .goOn (.check body (some (check.extractLsb' 8 8))) := by rw [hport2]; rfl
  have hlow : ((s2.setPort p { s2.port p with
      asm := .check body (some (check.extractLsb' 8 8)), timer := 0 }).port p).asm.take
        (check.extractLsb' 0 8) = .complete ⟨body, check⟩ := by
    rw [State.port_setPort_self]
    exact congrArg (fun c => Taken.complete ⟨body, c⟩) (join2_split2 check)
  rw [split2, List.map_cons, after_goOn hp2 _ (by rw [hport2]; nofun) hhigh, List.map_cons,
    after_byte (s := s2.setPort p _) hp2, receiveChar_complete hlow, State.port_setPort_self,
    State.setPort_setPort, hport2, hport1, ← hs2, State.setPort_setPort, ← hs1,
    State.setPort_setPort]
  have hsame : ({ s.port p with asm := .hunt, timer := 0, stray := false } : PortState) =
      { s.port p with timer := 0, stray := false } := by rw [← hasm]
  exact congrArg (fun x => (s.setPort p x).frameArrives p ⟨body, check⟩) hsame

/-- Settles O53: the bytes of the frame leave the port as its command finds it, and then the frame's request
is dispatched, or waits, as the command's is. -/
theorem aFrameReceivedIsItsCommand : Obligations.AFrameReceivedIsItsCommand := by
  intro c p r s hp hc hf hasm body
  obtain ⟨hpos, hle⟩ := length_requestBody hf
  obtain ⟨check, hcheck⟩ : ∃ check, frameCheck body = check := ⟨_, rfl⟩
  rw [hcheck, after_frame p body check hp hasm hpos hle]
  generalize hu : s.setPort p { s.port p with timer := 0, stray := false } = u
  have hpu : u.pornLow = false := by rw [← hu]; exact hp
  by_cases hq : (u.port p).queue = []
  · rw [frameArrives_empty _ hq]
    exact ((takeFrame_tests p ⟨body, check⟩ hpu hq).2 hcheck).2.2 c r hc hf rfl
  · rw [frameArrives_behind _ hq, ← hcheck]
    exact exec_waits hpu hq (.inl ⟨r, hc, rfl⟩)

end Sys2Proof.Machine
end

section
/-! SUPPORT. A response that leaves (O22), and the bits on a serial line. -/

namespace Sys2Proof.Machine

variable {s t u : State}

/-! ### The bits of a frame -/

@[simp] theorem length_charBits (b : Byte) : (charBits b).length = 10 := by simp [charBits]

theorem flatMap_charBits_get (l : List Byte) (j i : Nat) (b : Byte) (hj : l[j]? = some b)
    (hi : i < 10) : (l.flatMap charBits)[10 * j + i]? = (charBits b)[i]? := by
  induction l generalizing j with
  | nil => simp at hj
  | cons a l ih =>
    rw [List.flatMap_cons]
    cases j with
    | zero =>
      cases hj
      rw [Nat.mul_zero, Nat.zero_add, List.getElem?_append_left (by simpa using hi)]
    | succ j =>
      rw [List.getElem?_append_right (by simp; omega), length_charBits,
        show 10 * (j + 1) + i - 10 = 10 * j + i by omega]
      exact ih j (by simpa using hj)

theorem length_flatMap_charBits (l : List Byte) : (l.flatMap charBits).length = 10 * l.length := by
  induction l with
  | nil => rfl
  | cons a l ih => rw [List.flatMap_cons, List.length_append, ih, length_charBits, List.length_cons]; omega

theorem charBits_start (b : Byte) : (charBits b)[0]? = some false := rfl

theorem charBits_stop (b : Byte) : (charBits b)[9]? = some true := rfl

theorem charBits_data (b : Byte) (i : Nat) (hi : i < 8) :
    (charBits b)[1 + i]? = some (b.getLsbD i) := by
  rw [charBits, List.cons_append, Nat.add_comm, List.getElem?_cons_succ,
    List.getElem?_append_left (by simpa using hi)]
  simp [hi]

theorem serialOut_sending (hp : s.pornLow = false) {p : Port} {r : Response} {rest : List Response}
    (h : (s.port p).queue = r :: rest) (k : Nat) :
    s.serialOut p k = ((r.frame.flatMap charBits)[k]?).getD true := by
  rw [State.serialOut, hp, if_neg Bool.false_ne_true, h]
  exact List.getD_eq_getElem?_getD ..

theorem serialOut_idle (hp : s.pornLow = false) {p : Port} (h : (s.port p).queue = []) (k : Nat) :
    s.serialOut p k = true := by
  rw [State.serialOut, hp, if_neg Bool.false_ne_true, h]
  rfl

/-! ### The transmitter -/

/-- Port `q` given another baud code, a frame in assembly on it lost (09 R192). -/
def State.rebauded (s : State) (q : Port) (code : Nat) : State :=
  let lost := if (s.port q).asm = .hunt then s else s.frameLost q
  lost.setPort q { lost.port q with baud := code }

theorem State.changeBaud_eq (s : State) (q : Port) (code : Nat) :
    s.changeBaud q code = s.rebauded q code := by
  rw [State.changeBaud, State.discard_eq]
  rfl

theorem frameLost_port (s : State) (q p : Port) :
    ((s.frameLost q).port p).queue = (s.port p).queue ∧
      ((s.frameLost q).port p).waiting = (s.port p).waiting ∧
      ((s.frameLost q).port p).held = (s.port p).held := by
  cases q <;> cases p <;> exact ⟨rfl, rfl, rfl⟩

theorem rebauded_port (s : State) (q p : Port) (code : Nat) :
    ((s.rebauded q code).port p).queue = (s.port p).queue ∧
      ((s.rebauded q code).port p).waiting = (s.port p).waiting ∧
      ((s.rebauded q code).port p).held = (s.port p).held := by
  have hset : ∀ t : State, ((t.setPort q { t.port q with baud := code }).port p).queue =
      (t.port p).queue ∧ ((t.setPort q { t.port q with baud := code }).port p).waiting =
        (t.port p).waiting ∧ ((t.setPort q { t.port q with baud := code }).port p).held =
          (t.port p).held := fun t => by
    cases q <;> cases p <;> exact ⟨rfl, rfl, rfl⟩
  unfold State.rebauded
  dsimp only
  split
  · exact hset s
  · rw [(hset _).1, (hset _).2.1, (hset _).2.2]
    exact frameLost_port s q p

theorem rebauded_pornLow (s : State) (q : Port) (code : Nat) :
    (s.rebauded q code).pornLow = s.pornLow := by
  unfold State.rebauded
  dsimp only
  split <;> rfl

theorem exec_responseSent (hp : s.pornLow = false) {p : Port} {r : Response} {rest : List Response}
    (lines : Lines) (h : (s.port p).queue = r :: rest) :
    exec (.responseSent p lines) s =
      .next ((((s.setPort p { s.port p with queue := rest }).perform r.next lines).beginNext
        p).takeWaiting p) := by
  refine (running_next hp (s.responseSent p lines)).trans ?_
  rw [State.responseSent, h]

theorem beginNext_empty {p : Port} (h : (u.port p).queue = []) : u.beginNext p = u := by
  rw [State.beginNext, if_pos h]

theorem beginNext_more {p : Port} (h : (u.port p).queue ≠ []) :
    u.beginNext p = u.setPort p { u.port p with txBaud := (u.port p).baud } := by
  rw [State.beginNext, if_neg h]

theorem takeWaiting_more {p : Port} (h : (u.port p).queue ≠ []) : u.takeWaiting p = u := by
  rw [State.takeWaiting, if_neg h]

theorem takeWaiting_none {p : Port} (h : (u.port p).waiting = none) : u.takeWaiting p = u := by
  rw [State.takeWaiting, h, ite_self]

theorem takeWaiting_some {p : Port} {f : Frame} (hq : (u.port p).queue = [])
    (h : (u.port p).waiting = some f) :
    u.takeWaiting p = (u.setPort p { u.port p with waiting := none }).takeFrame p f := by
  rw [State.takeWaiting, if_pos hq, h]

/-- What a response that is no RESTART's leaves to its end: nothing, or a baud code (09 R192). -/
theorem perform_eq {p : Port} {r : Response} {rest : List Response} (lines : Lines)
    (h : let left := s.setPort p { s.port p with queue := rest }
      r.next = none ∧ u = left ∨
        ∃ q code, r.next = some (.setBaud q code) ∧
          let lost := if (s.port q).asm = .hunt then left else left.frameLost q
          u = lost.setPort q { lost.port q with baud := code }) :
    (s.setPort p { s.port p with queue := rest }).perform r.next lines = u ∧
      u.pornLow = s.pornLow ∧ (u.port p).queue = rest ∧ (u.port p).waiting = (s.port p).waiting ∧
      (u.port p).held = (s.port p).held := by
  have hleft : (s.setPort p { s.port p with queue := rest }).port p =
      { s.port p with queue := rest } := State.port_setPort_self ..
  rcases h with ⟨hnext, rfl⟩ | ⟨q, code, hnext, hu⟩
  · rw [hnext, hleft]
    exact ⟨rfl, rfl, rfl, rfl, rfl⟩
  · have hasm : ((s.setPort p { s.port p with queue := rest }).port q).asm = (s.port q).asm := by
      cases p <;> cases q <;> rfl
    have hsame : u = (s.setPort p { s.port p with queue := rest }).rebauded q code := by
      rw [State.rebauded, hasm]
      exact hu
    have hport := rebauded_port (s.setPort p { s.port p with queue := rest }) q p code
    rw [← hsame, hleft] at hport
    refine ⟨?_, by rw [hsame, rebauded_pornLow]; rfl, hport⟩
    rw [hnext, hsame]
    exact State.changeBaud_eq ..

/-- Settles O22: the response leaves the queue, its effect follows, and a waiting frame meets `takeFrame`'s
tests once the queue is empty; on the line each character of the frame has its ten bits. -/
theorem aResponseLeaves : Obligations.AResponseLeaves := by
  refine ⟨fun p r rest lines s u hp hq hu => ?leaves, fun p s hp => ⟨serialOut_idle hp,
    fun r rest hq => ?line⟩⟩
  case leaves =>
    obtain ⟨hperform, hpu, hqueue, hwaiting, hheld⟩ := perform_eq lines hu
    rw [exec_responseSent hp lines hq, hperform]
    refine ⟨fun hrest => ?more, fun hrest hw => ?empty, fun f hrest hw => ?waiting⟩
    case more =>
      have hne : (u.port p).queue ≠ [] := by rw [hqueue]; exact hrest
      rw [beginNext_more hne, takeWaiting_more]
      rw [State.port_setPort_self]
      exact hne
    case empty =>
      rw [beginNext_empty (hqueue.trans hrest), takeWaiting_none (hwaiting.trans hw)]
    case waiting =>
      intro t code allowed refused
      have hempty : (u.port p).queue = [] := hqueue.trans hrest
      have hport : t.port p = { u.port p with waiting := none } := State.port_setPort_self ..
      have hheldt : (t.port p).held = (s.port p).held := by rw [hport]; exact hheld
      have htakes : (u.beginNext p).takeWaiting p = t.takeFrame p f := by
        rw [beginNext_empty hempty, takeWaiting_some hempty (hwaiting.trans hw)]
      obtain ⟨hbad, hgood⟩ := takeFrame_tests (t := t) p f (hpu.trans hp) (by rw [hport]; exact hempty)
      simp only [refused, htakes, Host.Outcome.next.injEq]
      refine ⟨hbad, fun hcheck => ?_⟩
      obtain ⟨hbusy, hfree, htaken⟩ := hgood hcheck
      rw [hheldt] at hbusy hfree
      exact ⟨hbusy, hfree, fun c x hc hf hbody => (htaken c x hc hf hbody).symm⟩
  case line =>
    intro body frame
    refine ⟨fun j b hb => ⟨?start, ?stop, fun i hi => ?data⟩, fun k hk => ?after⟩
    case start =>
      rw [serialOut_sending hp hq, show 10 * j = 10 * j + 0 from rfl,
        flatMap_charBits_get r.frame j 0 b hb (by decide), charBits_start]
      rfl
    case stop =>
      rw [serialOut_sending hp hq, flatMap_charBits_get r.frame j 9 b hb (by decide), charBits_stop]
      rfl
    case data =>
      rw [serialOut_sending hp hq, Nat.add_assoc,
        flatMap_charBits_get r.frame j (1 + i) b hb (by omega), charBits_data b i hi]
      rfl
    case after =>
      rw [serialOut_sending hp hq, List.getElem?_eq_none]
      · rfl
      · rw [length_flatMap_charBits]
        exact hk

end Sys2Proof.Machine
end

section
/-! SUPPORT. The beginnings of tick 0 (07 R142, 09 R194): what the works of a boundary make of a state that
is at its reset state but for the lines, the stored levels and the ports; and the release of PORN (O4). -/

namespace Sys2Proof.Machine

variable {s : State}

/-! ### The works on blocks at their reset state -/

/-- The table and site time as a restart leaves them. -/
structure State.Blank (s : State) : Prop where
  table : s.table = Table.reset
  time : s.time = SiteTime.reset

theorem State.Blank.notice (h : s.Blank) (i : Nat) : s.notice i = none := by
  have hreset := State.notice_reset i
  rw [State.notice] at hreset ⊢
  rw [h.table]
  exact hreset

theorem State.Blank.load (h : s.Blank) (n : Ch) : s.load n = 0 := by
  have hnone : s.streamRecords n = [] := by
    simp [State.streamRecords, h.notice]
  simp [State.load, State.airingRecords, hnone]

/-- A stream at its reset state takes its line's level, and does nothing else. -/
theorem State.Blank.streamWork (h : s.Blank) (n : Ch) (level : Bool)
    (hn : s.stream n = Stream.reset level) :
    Machine.streamWork n s = { s.setStream n (Stream.reset (s.lineFound n)) with
      attention := s.attention.withStream n false (s.lineFound n != level) } := by
  have hstop : stopStep n s = s := by simp [stopStep, hn, Stream.reset]
  have hstart : startStep n s = s := by simp [startStep, hn, Stream.reset]
  have hovercommit : s.testOvercommit n = s := by
    have hset : s.setStream n { s.stream n with overcommit := false } = s := by
      have hsame : ({ s.stream n with overcommit := false } : Stream) = s.stream n := by
        rw [hn]; rfl
      rw [hsame, State.setStream_stream]
    simp only [State.testOvercommit, h.load, hset]
    rfl
  have hplan : planStep n s = s := by
    have htake : s.takePlan n = s := by simp [State.takePlan, hn, Stream.reset]
    unfold planStep
    rw [htake, hovercommit]
    split <;> rfl
  simp only [Machine.streamWork, hstop, hstart, hplan, State.sampleModulator, State.storeLevel_eq,
    State.stream_setStream_self, cellStep, hn]
  simp [Stream.reset, StreamState.onLevel, State.setStream, State.stream]

/-- A programme at its reset state samples its cue line, and does nothing else. -/
theorem announceWork_reset (p : Ch) (hp : s.ann p = Announce.reset) :
    announceWork p s = s.setAnn p { Announce.reset with lineSample := s.cueFound p } := by
  have hsample : ∀ found, Announce.reset.boundary found (s.prog p).carries s.bulletinNow =
      { Announce.reset with lineSample := found } := by
    intro found
    cases found <;> rfl
  have hput : s.putAnn p { Announce.reset with lineSample := s.cueFound p } =
      s.setAnn p { Announce.reset with lineSample := s.cueFound p } := by
    simp [State.putAnn, hp, Announce.flag, Announce.reset]
  simp only [announceWork, hp, hsample, hput, State.ann_setAnn_self]
  rfl

/-! ### Tick 0 -/

/-- Every block at its reset state, but for the queue, PORN, the lines, the ports, the modulator levels stored,
the samples of the cue lines and the attention unit. -/
def freshState (q : List Instr) (low : Bool) (lines : Lines) (ports : Ports PortState)
    (levels samples : Ch → Bool) (a : Attention) : State :=
  { State.reset with
    pending := q
    pornLow := low
    cuePins := lines.cue
    mrdyPins := lines.mrdy
    streams := Four.tab fun n => Stream.reset (levels n)
    announce := Four.tab fun p => { Announce.reset with lineSample := samples p }
    ports := ports
    attention := a }

section
variable (q : List Instr) (low : Bool) (lines : Lines) (ports : Ports PortState)
  (levels samples : Ch → Bool) (a : Attention)

theorem freshState_streamWork (n : Ch) :
    streamWork n (freshState q low lines ports levels samples a) =
      freshState q low lines ports (Function.update levels n (lines.mrdy.getLsbD n.val)) samples
        (a.withStream n false (lines.mrdy.getLsbD n.val != levels n)) := by
  have hblank : (freshState q low lines ports levels samples a).Blank := ⟨rfl, rfl⟩
  rw [hblank.streamWork n (levels n) (Four.get_tab ..)]
  have hstreams : (Four.tab fun n => Stream.reset (levels n)).set n
      (Stream.reset (lines.mrdy.getLsbD n.val)) =
        Four.tab fun m => Stream.reset (Function.update levels n (lines.mrdy.getLsbD n.val) m) := by
    refine Four.ext_get fun m => ?_
    by_cases hm : m = n
    · subst hm; simp
    · simp [hm]
  simp only [freshState, State.setStream, State.lineFound, hstreams]

theorem freshState_announceWork (p : Ch) (hp : samples p = false) :
    announceWork p (freshState q low lines ports levels samples a) =
      freshState q low lines ports levels
        (Function.update samples p (!lines.cue.getLsbD p.val)) a := by
  have hreset : (freshState q low lines ports levels samples a).ann p = Announce.reset := by
    rw [State.ann, freshState, Four.get_tab, hp]
    rfl
  rw [announceWork_reset p hreset]
  have hann : (Four.tab fun p => { Announce.reset with lineSample := samples p }).set p
      { Announce.reset with lineSample := !lines.cue.getLsbD p.val } =
        Four.tab fun m => { Announce.reset with
          lineSample := Function.update samples p (!lines.cue.getLsbD p.val) m } := by
    refine Four.ext_get fun m => ?_
    by_cases hm : m = p
    · subst hm; simp
    · simp [hm]
  simp only [freshState, State.setAnn, State.cueFound, hann]

theorem freshState_boundaryWorks (hsite : ports.site.held = none)
    (htraffic : ports.traffic.held = none) :
    (freshState q low lines ports levels samples a).boundaryWorks false =
      engineWorks ++ [.silence, .markWatch] := by
  have hslots : slotNumbers.filter
      (freshState q low lines ports levels samples a).withdrawLimitReached = [] := by
    rw [List.filter_eq_nil_iff]
    intro i _
    have hnone : (freshState q low lines ports levels samples a).notice i = none :=
      State.notice_reset i
    simp [State.withdrawLimitReached, hnone]
  have hports : [Port.site, Port.traffic].filter
      (freshState q low lines ports levels samples a).confirmLimitReached = [] := by
    rw [List.filter_eq_nil_iff]
    intro p _
    cases p <;> simp [State.confirmLimitReached, State.port, Ports.get, freshState, hsite, htraffic]
  simp only [State.boundaryWorks, hslots, hports]
  rfl
end

theorem update_four {f g : Ch → Bool} :
    Function.update (Function.update (Function.update (Function.update f 0 (g 0)) 1 (g 1)) 2 (g 2))
      3 (g 3) = g := by
  funext n
  match n with
  | 0 | 1 | 2 | 3 => simp

theorem Attention.withStream_reset_four (m : Ch → Bool) :
    ((((Attention.reset.withStream 0 false (m 0)).withStream 1 false (m 1)).withStream 2 false
      (m 2)).withStream 3 false (m 3)) =
      { Attention.reset with
        pendingKinds := if ∀ n, m n = false then 0#11 else 2#11
        modulator := chSet m } := by
  have hm : m = fun n => ![m 0, m 1, m 2, m 3] n := by
    funext n
    match n with
    | 0 | 1 | 2 | 3 => rfl
  rw [hm]
  cases m 0 <;> cases m 1 <;> cases m 2 <;> cases m 3 <;> decide

/-- Tick 0 begun on a fresh state: the modulator levels are the lines', with MODULATOR for those that have
changed, and each cue line has been sampled once (04 R95, 06 R119). -/
theorem beginTickZero_fresh (q : List Instr) (low : Bool) (lines : Lines) (ports : Ports PortState)
    (levels : Ch → Bool) (hsite : ports.site.held = none) (htraffic : ports.traffic.held = none) :
    (freshState q low lines ports levels (fun _ => false) Attention.reset).beginTickZero =
      freshState q low lines ports (fun n => lines.mrdy.getLsbD n.val)
        (fun p => !lines.cue.getLsbD p.val) { Attention.reset with
          pendingKinds := if ∀ n, levels n = lines.mrdy.getLsbD n.val then 0#11 else 2#11
          modulator := chSet fun n => levels n != lines.mrdy.getLsbD n.val } := by
  have hsilence : ∀ l a, silenceWork (freshState q low lines ports (fun n => lines.mrdy.getLsbD n.val) l a) =
      freshState q low lines ports (fun n => lines.mrdy.getLsbD n.val) l a := fun l a =>
    silenceWork_idle (Or.inl rfl)
  have hwatch : ∀ l a, watchWork (freshState q low lines ports (fun n => lines.mrdy.getLsbD n.val) l a) =
      freshState q low lines ports (fun n => lines.mrdy.getLsbD n.val) l a := fun l a =>
    watchWork_idle (by simp [freshState, State.reset, SiteTime.reset])
  have hmoved : ∀ n, (lines.mrdy.getLsbD n.val != levels n) = (levels n != lines.mrdy.getLsbD n.val) :=
    fun n => bne_comm
  have hall : (∀ n, levels n = lines.mrdy.getLsbD n.val) ↔
      ∀ n, (levels n != lines.mrdy.getLsbD n.val) = false := by simp
  have hattention := Attention.withStream_reset_four fun n => levels n != lines.mrdy.getLsbD n.val
  simp only [← hall] at hattention
  have hlevels := update_four (f := levels) (g := fun n => lines.mrdy.getLsbD n.val)
  have hsamples := update_four (f := fun _ => false) (g := fun p => !lines.cue.getLsbD p.val)
  rw [State.beginTickZero, State.works, freshState_boundaryWorks _ _ _ _ _ _ _ hsite htraffic]
  simp only [List.contains_nil, Bool.not_false, List.filter_true, List.filter_false, engineWorks,
    channels, List.map_cons, List.map_nil, List.cons_append, List.nil_append, State.takeAll,
    List.foldl_cons, List.foldl_nil, State.take, freshState_streamWork]
  rw [hlevels]
  simp only [Function.update_of_ne, ne_eq, Fin.reduceEq, not_false_eq_true, hmoved]
  rw [hattention, freshState_announceWork _ _ _ _ _ _ _ _ rfl,
    freshState_announceWork _ _ _ _ _ _ _ _ rfl, freshState_announceWork _ _ _ _ _ _ _ _ rfl,
    freshState_announceWork _ _ _ _ _ _ _ _ rfl, hsamples, hsilence, hwatch]
  rfl

/-! ### The two restarts -/

/-- Settles O4: the state that the release of PORN begins tick 0 on is fresh, with the levels as found, so
that no work of tick 0 but the sampling of the cue lines changes it. -/
theorem powerOnPutsEveryBlockAtItsResetState : Obligations.PowerOnPutsEveryBlockAtItsResetState := by
  intro lines s
  have hstart : ({ ({ State.reset with pending := s.pending } : State).withLines lines with
      streams := Four.tab fun n => Stream.reset (lines.mrdy.getLsbD n.val) } : State) =
        freshState s.pending false lines State.reset.ports (fun n => lines.mrdy.getLsbD n.val)
          (fun _ => false) Attention.reset := rfl
  have hrun : exec (.powerOn lines) s = .next (s.powerOn lines) := rfl
  have htick := beginTickZero_fresh s.pending false lines State.reset.ports
    (fun n => lines.mrdy.getLsbD n.val) rfl rfl
  simp only [implies_true, if_true, bne_self_eq_false] at htick
  rw [hrun, State.powerOn]
  refine congrArg Host.Outcome.next ((congrArg State.beginTickZero hstart).trans (htick.trans ?_))
  rfl

/-- A port whose hold, if its slot is one of `f`'s, is SUPERSEDED. -/
def PortState.withoutHolds (f : Nat → Bool) (x : PortState) : PortState :=
  match x.held with
  | some h => if f h.slot then x.heldAnswered .superseded else x
  | none => x

/-- The part with the slots of `f` FREE, their holds ended and their runs cut. -/
def State.cleared (s : State) (f : Nat → Bool) : State :=
  { s with
    table := { s.table with slots := s.table.slots.mapIdx fun i x => if f i then none else x }
    streams := Four.tab fun n => (s.stream n).runWithout f
    ports := ⟨s.ports.site.withoutHolds f, s.ports.traffic.withoutHolds f⟩ }

theorem PortState.withoutHolds_withoutHolds (f g : Nat → Bool) (x : PortState) :
    (x.withoutHolds f).withoutHolds g = x.withoutHolds fun i => f i || g i := by
  unfold PortState.withoutHolds
  cases hx : x.held with
  | none => simp [hx]
  | some h => cases hf : f h.slot <;> simp [hx, hf, PortState.heldAnswered]

theorem Stream.runWithout_runWithout (f g : Nat → Bool) (x : Stream) :
    (x.runWithout f).runWithout g = x.runWithout fun i => f i || g i := by
  unfold Stream.runWithout
  cases hx : x.run with
  | none => simp [hx]
  | some r => cases hf : f r.slot <;> simp [hx, hf]

theorem State.cleared_cleared (s : State) (f g : Nat → Bool) :
    (s.cleared f).cleared g = s.cleared fun i => f i || g i := by
  have hslots : ∀ l : List (Option Notice),
      (l.mapIdx fun i x => if f i then none else x).mapIdx (fun i x => if g i then none else x) =
        l.mapIdx fun i x => if (f i || g i) then none else x := by
    intro l
    rw [List.mapIdx_mapIdx]
    congr 1
    funext i x
    cases f i <;> simp
  simp only [State.cleared, State.stream, Four.get_tab, hslots,
    PortState.withoutHolds_withoutHolds, Stream.runWithout_runWithout]

theorem State.notice_cleared (s : State) (f : Nat → Bool) (i : Nat) :
    (s.cleared f).notice i = if f i then none else s.notice i := by
  simp only [State.notice, State.cleared, List.getD_eq_getElem?_getD, List.getElem?_mapIdx]
  cases s.table.slots[i]? <;> simp

theorem State.cleared_none (s : State) : (s.cleared fun _ => false) = s := by
  have hstreams : (Four.tab fun n => (s.stream n).runWithout fun _ => false) = s.streams := by
    refine Four.ext_get fun n => ?_
    rw [Four.get_tab, Stream.runWithout]
    split <;> rfl
  have hport : ∀ x : PortState, (x.withoutHolds fun _ => false) = x := by
    intro x
    rw [PortState.withoutHolds]
    split <;> rfl
  have hslots : ∀ l : List (Option Notice), (l.mapIdx fun _ x => x) = l :=
    fun l => List.ext_getElem? fun i => by simp
  simp only [State.cleared, hstreams, hport, Bool.false_eq_true, if_false, hslots]

theorem State.replaced_none (s : State) (i : Nat) :
    s.replaced i none = s.cleared fun j => j == i := by
  have hslots : s.table.slots.set i none =
      s.table.slots.mapIdx fun j x => if j == i then none else x := by
    refine List.ext_getElem? fun j => ?_
    rw [List.getElem?_set, List.getElem?_mapIdx]
    by_cases hj : i = j
    · subst hj
      cases h : s.table.slots[i]? with
      | none => simpa using h
      | some x =>
        have hlt := (List.getElem?_eq_some_iff.1 h).1
        simp [hlt]
    · simp [hj, Ne.symm hj]
  have hstreams : (fun n => if s.inRun n i then { s.stream n with run := none } else s.stream n) =
      fun n => (s.stream n).runWithout fun j => j == i := by
    funext n
    rw [State.inRun, Stream.runWithout]
    cases hr : (s.stream n).run <;> simp
  have hport : ∀ x : PortState, x.withoutHold i = x.withoutHolds fun j => j == i := by
    intro x
    rw [PortState.withoutHold, PortState.withoutHolds]
    cases x.held <;> simp
  simp only [State.replaced, State.holdsEnded, State.runsEnded, State.setSlot, State.cleared,
    ← hslots, ← hport]
  rw [← hstreams]
  rfl

theorem State.freeAtOnce_cleared (s : State) (i : Nat) :
    s.freeAtOnce i = s.cleared fun j => j == i && (s.notice j).isSome := by
  cases h : s.notice i with
  | none =>
    have hnone : (fun j => j == i && (s.notice j).isSome) = fun _ => false := by
      funext j
      by_cases hj : j = i
      · simp [hj, h]
      · simp [hj]
    rw [hnone, State.cleared_none, State.freeAtOnce, h]
  | some nt =>
    have hself : (fun j => j == i && (s.notice j).isSome) = fun j => j == i := by
      funext j
      by_cases hj : j = i
      · simp [hj, h]
      · simp [hj]
    rw [hself, s.freeAtOnce_eq i nt h, State.replaced_none]

theorem State.restartTable_eq (s : State) :
    s.restartTable =
      s.cleared fun i => decide (i < Config.slots) && (s.notice i).isSome := by
  have key : ∀ l : List Nat, l.foldl (fun t i => t.freeAtOnce i) s =
      s.cleared fun j => l.contains j && (s.notice j).isSome := by
    intro l
    induction l using List.reverseRecOn with
    | nil => simpa using s.cleared_none.symm
    | append_singleton l i ih =>
      rw [List.foldl_append, List.foldl_cons, List.foldl_nil, ih, State.freeAtOnce_cleared,
        State.cleared_cleared]
      congr 1
      funext j
      rw [State.notice_cleared]
      by_cases hl : l.contains j <;> by_cases hj : j = i <;> cases hn : s.notice j <;>
        simp_all
  have hmem : ∀ j, slotNumbers.contains j = decide (j < Config.slots) := by
    intro j
    simp [slotNumbers]
  rw [State.restartTable, forSlots, key]
  simp only [hmem]

theorem PortState.withoutHolds_parts (f : Nat → Bool) (x : PortState) :
    (x.withoutHolds f).waiting = x.waiting ∧
      ((x.withoutHolds f).queue ≠ [] → x.queue = [] → (x.withoutHolds f).txBaud =
        (x.withoutHolds f).baud) := by
  unfold PortState.withoutHolds
  cases hx : x.held with
  | none => exact ⟨rfl, fun h h' => absurd h' h⟩
  | some h =>
    dsimp only
    split
    · simp only [PortState.heldAnswered, hx]
      exact ⟨trivial, fun _ h' => if_pos h'⟩
    · exact ⟨rfl, fun h h' => absurd h' h⟩

/-- After RESTART TABLE the response whose turn it is begins at the rate in force, which it has if the
queue was empty before it. -/
theorem beginNext_cleared (f : Nat → Bool) (s : State) (p : Port) (hq : (s.port p).queue = []) :
    (s.cleared f).beginNext p = s.cleared f := by
  have hport : (s.cleared f).port p = (s.port p).withoutHolds f := by cases p <;> rfl
  by_cases h : ((s.cleared f).port p).queue = []
  · exact beginNext_empty h
  · rw [beginNext_more h]
    rw [hport] at h ⊢
    rw [← (PortState.withoutHolds_parts f (s.port p)).2 h hq, ← hport]
    exact State.setPort_port ..

/-- Settles O23: TABLE clears every occupied slot and no more; ALL begins tick 0 on a fresh state. -/
theorem aRestartIsPerformed : Obligations.ARestartIsPerformed := by
  intro p r lines s hp hq
  have hleaves := exec_responseSent hp lines hq
  refine ⟨fun hr hw htable => ?table, fun hr => ?all⟩
  case table =>
    let occupied := fun i => decide (i < Config.slots) && (s.notice i).isSome
    have hoccupied : ∀ i, occupied i = (s.notice i).isSome := by
      intro i
      cases h : s.notice i with
      | none => simp [occupied, h]
      | some nt =>
        have hlt : i < Config.slots := htable.1 ▸ State.lt_of_notice h
        simp [occupied, h, hlt]
    let left := s.setPort p { s.port p with queue := [] }
    have hport : ∀ q, left.port q = if q = p then { s.port p with queue := [] } else s.port q := by
      intro q
      cases p <;> cases q <;> rfl
    have hrestart : left.restartTable = left.cleared occupied := left.restartTable_eq
    have hself : left.port p = { s.port p with queue := [] } := by rw [hport, if_pos rfl]
    have hwaiting : ((left.cleared occupied).port p).waiting = none := by
      have hcleared : (left.cleared occupied).port p = (left.port p).withoutHolds occupied := by
        cases p <;> rfl
      rw [hcleared, (PortState.withoutHolds_parts ..).1, hself]
      exact hw
    refine ⟨left.cleared occupied, ?_, fun i => ?_, ⟨_, rfl⟩, rfl, rfl, rfl, rfl, rfl, rfl,
      fun n => ?_, fun q => ?_⟩
    · rw [hleaves, hr]
      have hperform : left.perform (some .restartTable) lines = left.cleared occupied := hrestart
      rw [hperform, beginNext_cleared _ _ _ (by rw [hself]), takeWaiting_none hwaiting]
    · rw [State.notice_cleared, hoccupied]
      change (if (s.notice i).isSome then none else s.notice i) = none
      cases s.notice i <;> rfl
    · simp only [← hoccupied]
      exact Four.get_tab ..
    · intro x
      simp only [← hoccupied]
      have hcleared : (left.cleared occupied).port q = (left.port q).withoutHolds occupied := by
        cases q <;> rfl
      have hx : left.port q = x := hport q
      have hheld : x.held = (s.port q).held := by
        rw [← hx]
        cases p <;> cases q <;> rfl
      cases h : (s.port q).held with
      | none => rw [hcleared, hx, PortState.withoutHolds, hheld, h]
      | some held => rw [hcleared, hx, PortState.withoutHolds, hheld, h]
  case all =>
    let left := s.setPort p { s.port p with queue := [] }
    let ports : Ports PortState := ⟨left.ports.site.restarted, left.ports.traffic.restarted⟩
    have hperform : left.perform (some .restartAll) lines =
        freshState s.pending s.pornLow lines ports (fun n => lines.mrdy.getLsbD n.val)
          (fun p => !lines.cue.getLsbD p.val) { Attention.reset with
            pendingKinds := if ∀ n, (s.stream n).modLevel = lines.mrdy.getLsbD n.val then 0#11 else 2#11
            modulator := chSet fun n => (s.stream n).modLevel != lines.mrdy.getLsbD n.val } :=
      beginTickZero_fresh s.pending s.pornLow lines ports (fun n => (s.stream n).modLevel) rfl rfl
    rw [hleaves, hr, hperform, beginNext_empty, takeWaiting_none, hp]
    · cases p <;> rfl
    · cases p <;> rfl
    · cases p <;> rfl

end Sys2Proof.Machine
end

section
/-! SUPPORT. SUBMIT (01 R14 to R22, R29): its checks, the notice it describes, the slot it takes, and the proofs
of O32, O33 and O34. -/

namespace Sys2Proof.Machine

variable {s t : State} {p : Port} {a : SubmitArgs} {u : Urgency}

/-- A request that either link may use, on a port that is free (09 R185). -/
theorem onRequest_ready (r : Request) (hr : s.Ready p)
    (ht : trafficCodes.contains (requestCode r) = true) (hf : r.fits = true) :
    onRequest p r s = .next (answered p (requestCode r) (handle p r s)) := by
  obtain ⟨hp, hq, hh⟩ := hr
  exact onRequest_idle p r s hp hq hh (fun _ => ht) (requestCode_known r) hf

/-! ### The first of a list -/

/-- The search for the first of a list, from the best found so far. -/
def betterOf {α : Type} (lt : α → α → Bool) (best : Option α) (x : α) : Option α :=
  match best with
  | none => some x
  | some b => if lt x b then some x else some b

theorem leastBy_eq {α : Type} (lt : α → α → Bool) (xs : List α) :
    leastBy lt xs = xs.foldl (betterOf lt) none := rfl

/-- An entry that comes before all earlier ones, and that no later one comes before, is the first. -/
theorem leastBy_eq_some {α : Type} {lt : α → α → Bool} {xs ys : List α} {x : α}
    (hx : ∀ y ∈ xs, lt x y = true) (hy : ∀ y ∈ ys, lt y x = false) :
    leastBy lt (xs ++ x :: ys) = some x := by
  have hstays : ∀ zs : List α, (∀ y ∈ zs, lt y x = false) →
      zs.foldl (betterOf lt) (some x) = some x := by
    intro zs
    induction zs with
    | nil => exact fun _ => rfl
    | cons z zs ih =>
      intro h
      rw [List.foldl_cons, betterOf, h z List.mem_cons_self]
      exact ih fun y hy => h y (List.mem_cons_of_mem _ hy)
  have htaken : betterOf lt (leastBy lt xs) x = some x := by
    cases h : leastBy lt xs with
    | none => rfl
    | some b => exact if_pos (hx b (mem_of_leastBy h))
  rw [leastBy_eq, List.foldl_append, List.foldl_cons, ← leastBy_eq, htaken]
  exact hstays ys hy

theorem leastBy_nil {α : Type} (lt : α → α → Bool) : leastBy lt [] = none := rfl

theorem slotNumbers_split {i : Nat} (hi : i < 96) :
    slotNumbers = List.range i ++ i :: List.range' (i + 1) (95 - i) := by
  rw [slotNumbers, List.range_eq_range', List.range_eq_range',
    show Config.slots = i + (95 - i + 1) by simp only [Config.slots]; omega, ← List.range'_append,
    List.range'_succ]
  simp

/-! ### The checks -/

theorem submitOutOfRange_iff (a : SubmitArgs) : submitOutOfRange a = true ↔ SubmitOutOfRange a := by
  have hzero : ∀ x : BitVec 16, x = 0#16 ↔ x.toNat = 0 := fun x => by
    rw [← BitVec.toNat_inj]
    rfl
  cases h : a.advice with
  | none => simp [submitOutOfRange, SubmitOutOfRange, h, ← hzero, or_assoc]
  | some x => simp [submitOutOfRange, SubmitOutOfRange, h, ← hzero, or_assoc]

theorem urgencyOf?_of_inRange (h : ¬ SubmitOutOfRange a) : ∃ u, urgencyOf? a.urgency.toNat = some u := by
  have hle : a.urgency.toNat < 4 := by
    simp only [SubmitOutOfRange, not_or] at h
    omega
  match hn : a.urgency.toNat, hle with
  | 0, _ => exact ⟨.urgent, rfl⟩
  | 1, _ => exact ⟨.high, rfl⟩
  | 2, _ => exact ⟨.normal, rfl⟩
  | 3, _ => exact ⟨.background, rfl⟩

theorem handleSubmit_outOfRange (h : SubmitOutOfRange a) :
    handleSubmit p a s = refuse .outOfRange s := by
  rw [handleSubmit, if_pos ((submitOutOfRange_iff a).2 h)]

theorem handleSubmit_existing (ht : s.TableSound) (h : ¬ SubmitOutOfRange a)
    (hu : urgencyOf? a.urgency.toNat = some u) {i : Nat} {nt : Notice} (hn : s.notice i = some nt)
    (hnum : nt.number = a.number.toNat) : handleSubmit p a s = submitExisting p a u i nt s := by
  rw [handleSubmit, if_neg fun hc => h ((submitOutOfRange_iff a).1 hc)]
  simp only [hu, (State.findSlot_eq_some_iff ht _ i).2 ⟨nt, hn, hnum⟩, hn]

theorem handleSubmit_new (h : ¬ SubmitOutOfRange a) (hu : urgencyOf? a.urgency.toNat = some u)
    (hn : ∀ i nt, s.notice i = some nt → nt.number ≠ a.number.toNat) :
    handleSubmit p a s = submitNew p a u s := by
  rw [handleSubmit, if_neg fun hc => h ((submitOutOfRange_iff a).1 hc)]
  simp only [hu, (s.findSlot_eq_none_iff _).2 hn]

/-- The end of a SUBMIT, none when it is STALE (01 R16). -/
theorem resolveEnd_eq (s : State) (a : SubmitArgs) :
    resolveEnd s.time.seconds s.table.lifetime (a.startsAt.map BitVec.toNat)
        (a.endsAt.map BitVec.toNat) =
      if s.submitStale a then none else some (s.submitEnd a) := by
  have hbefore : ∀ e, endsBeforeStart (a.startsAt.map BitVec.toNat) e = true ↔
      ∃ b, a.startsAt = some b ∧ e ≤ b.toNat := by
    intro e
    cases a.startsAt <;> simp [endsBeforeStart]
  have hcomputed : computedEnd s.time.seconds s.table.lifetime (a.startsAt.map BitVec.toNat) =
      min 4294967295 (max s.time.seconds ((a.startsAt.map BitVec.toNat).getD 0) + s.table.lifetime) := by
    cases a.startsAt with
    | none => simp [computedEnd, Config.maxSeconds]
    | some b => simp [computedEnd, Config.maxSeconds, max_comm]
  obtain ⟨x, he⟩ : ∃ x, a.endsAt = x := ⟨_, rfl⟩
  cases x with
  | some e =>
    simp only [Option.map_some, resolveEnd, State.submitStale, State.submitEnd, he, Bool.or_eq_true,
      hbefore, decide_eq_true_eq, ne_eq, reduceCtorEq, not_false_eq_true, true_and]
  | none =>
    simp only [Option.map_none, resolveEnd, State.submitStale, State.submitEnd, he, hbefore,
      hcomputed, ne_eq, not_true_eq_false, false_and, false_or]

/-- The areas of a SUBMIT in range, none when it is UNPLACED (01 R17). -/
theorem resolveAreas_eq (s : State) (h : ¬ SubmitOutOfRange a) :
    resolveAreas s.map a =
      if s.submitAreas a = 0#16 then none
      else some (s.submitAreas a, if a.areas = none then .derived else .explicit) := by
  cases ha : a.areas with
  | none => simp only [resolveAreas, State.submitAreas, ha, if_true]
  | some v =>
    have hv : v ≠ 0#16 := by
      rintro rfl
      exact h (by simp [SubmitOutOfRange, ha])
    simp [resolveAreas, State.submitAreas, ha, hv]

/-! ### The notice and its response -/

theorem adjustText_eq (t : List Byte) :
    (adjustText t).1 =
      (t.map fun b => if 0x20 ≤ b.toNat ∧ b.toNat ≤ 0x7E then b else 0x3F#8).take 30 := by
  have hbyte : replaceByte = fun b => if 0x20 ≤ b.toNat ∧ b.toNat ≤ 0x7E then b else 0x3F#8 := by
    funext b
    exact replaceByte_eq b
  rw [adjustText, hbyte]

theorem submitFlags_eq (a : SubmitArgs) :
    submitFlags a =
      { adjusted := false
        truncated := decide (30 < (a.text.getD []).length)
        replaced := (a.text.getD []).any fun b => decide (b.toNat < 0x20 ∨ 0x7E < b.toNat)
        uncarried := false } := by
  cases h : a.text with
  | none => simp [submitFlags, h, RFlags.none]
  | some t =>
    have hbyte : (fun b : Byte => !printable b) =
        fun b => decide (b.toNat < 0x20 ∨ 0x7E < b.toNat) := by
      funext b
      exact not_printable_eq b
    simp [submitFlags, h, adjustText, RFlags.none, hbyte]

/-- The content that a SUBMIT describes, with its end and areas fixed (01 R2, R18, R20). -/
theorem submitNotice_eq (s : State) (a : SubmitArgs) (owner : Port) (u : Urgency)
    (records : Four (Option Record)) :
    { submitNotice a owner s.time.seconds (s.submitEnd a) (s.submitAreas a)
        (if a.areas = none then .derived else .explicit) u with records := records } =
      s.submitted a u owner records := by
  have htext : (a.text.map fun t => (adjustText t).1) = a.text.map fun t =>
      (t.map fun b => if 0x20 ≤ b.toNat ∧ b.toNat ≤ 0x7E then b else 0x3F#8).take 30 := by
    simp only [adjustText_eq]
  have hstate : startState s.time.seconds (a.startsAt.map BitVec.toNat) =
      if s.time.seconds < (a.startsAt.map BitVec.toNat).getD 0 then .pending else .live := by
    cases a.startsAt <;> simp [startState]
  simp only [submitNotice, State.submitted, htext, hstate]

/-- The end of an accepted SUBMIT: its response, or the hold of its port (01 R22, R29). -/
theorem acceptSubmit_eq (s : State) (p : Port) (a : SubmitArgs) {i : Nat} {nt : Notice}
    (h : s.notice i = some nt) (st : Status) (displaced : Nat) :
    answered p 0x10#8 (s.acceptSubmit p i st (submitFlags a) displaced a.confirm.toNat) =
      s.submitDone p i nt a st displaced := by
  have hresults : submitResults i nt displaced = [BitVec.ofNat 8 i, BitVec.ofNat 8 nt.state.code,
      BitVec.ofNat 8 nt.runLength, fourByte nt.carriedSet] ++ beBytes 2 displaced := by
    simp only [submitResults, beBytes_one, List.cons_append, List.nil_append]
  have hconfirm : ∀ k : Nat, k < 4 → (a.confirm.toNat = k ↔ a.confirm = BitVec.ofNat 8 k) := by
    intro k hk
    rw [← BitVec.toNat_inj, BitVec.toNat_ofNat]
    omega
  unfold State.acceptSubmit State.submitDone
  simp only [h, hresults, submitFlags_eq, State.targetSet, State.heardStream,
    hconfirm 0 (by decide), hconfirm 2 (by decide)]
  by_cases hc : a.confirm = 0#8 ∨ (chSet fun n => nt.airsOn n &&
      ((s.stream n).state = .running || (s.stream n).state = .paused)) = 0#4
  · rw [if_pos hc, if_pos hc]
    rfl
  · rw [if_neg hc, if_neg hc]
    rfl

/-! ### A number in the table -/

theorem mayUpdate_iff (p owner : Port) :
    ¬ (p = .traffic ∧ owner = .site) ↔ p = .site ∨ owner = .traffic := by
  cases p <;> cases owner <;> simp

theorem submitExisting_notOwner {i : Nat} {nt : Notice} (hp : p = .traffic) (ho : nt.owner = .site) :
    submitExisting p a u i nt s = refuse .notOwner s := if_pos ⟨hp, ho⟩

theorem submitExisting_unchanged {i : Nat} {nt : Notice} (ho : p = .site ∨ nt.owner = .traffic)
    (hv : nt.version = a.version.toNat) :
    submitExisting p a u i nt s = (s, some (Reply.unchanged (submitResults i nt 0))) := by
  rw [submitExisting, if_neg ((mayUpdate_iff ..).2 ho), if_pos hv]

/-- An update is STALE, UNPLACED or made (01 R16 to R18). -/
theorem submitExisting_checked {i : Nat} {nt : Notice} (h : ¬ SubmitOutOfRange a)
    (ho : p = .site ∨ nt.owner = .traffic) (hv : nt.version ≠ a.version.toNat) :
    submitExisting p a u i nt s =
      if s.submitStale a then refuse .stale s
      else if s.submitAreas a = 0#16 then refuse .unplaced s
      else (s.updateNotice i nt (submitNotice a nt.owner s.time.seconds (s.submitEnd a)
        (s.submitAreas a) (if a.areas = none then .derived else .explicit) u)).acceptSubmit
          p i .ok (submitFlags a) 0 a.confirm.toNat := by
  rw [submitExisting, if_neg ((mayUpdate_iff ..).2 ho), if_neg hv]
  simp only [resolveEnd_eq, resolveAreas_eq s h]
  by_cases hs : s.submitStale a
  · simp only [if_pos hs]
  · simp only [if_neg hs]
    by_cases hz : s.submitAreas a = 0#16
    · simp only [if_pos hz]
    · simp only [if_neg hz]

/-- The records of an updated notice (01 R19). -/
theorem State.updateNotice_eq (s : State) (i : Nat) (old nt : Notice)
    (hstate : ∀ now : Nat, nt.state ≠ .withdrawing now) :
    s.updateNotice i old nt = s.replaced i (some { nt with
      records := Four.tab fun n =>
        if nt.state = .pending then none
        else if s.onStream n nt.areas then some (freshAt s.time.tickCount)
        else (old.record n).map (Record.withdrawn s.table.withdrawCells s.time.tickCount) }) := by
  rw [State.updateNotice, State.supersede_eq, State.cutRuns_eq]
  cases hst : nt.state with
  | pending =>
    have hlive : nt.isLive = false := by rw [Notice.isLive, hst]
    rw [hlive, if_neg Bool.false_ne_true]
    simp only [if_true]
    rfl
  | live =>
    have hlive : nt.isLive = true := (Notice.isLive_iff nt).2 hst
    have hcarries : ∀ n, (s.carries n nt = true) = s.onStream n nt.areas := by
      intro n
      rw [State.carries_eq, hst]
      simp
    simp only [hlive, if_true, updatedRecord, Record.withdraw_eq, hcarries, reduceCtorEq, if_false]
    rfl
  | withdrawing now => exact absurd hst (hstate now)

/-! ### A new number -/

/-- A SUBMIT of a new number meets the same two checks (01 R16, R17). -/
theorem submitNew_checked (h : ¬ SubmitOutOfRange a) :
    ∃ x, submitNew p a u s =
      if s.submitStale a then refuse .stale s
      else if s.submitAreas a = 0#16 then refuse .unplaced s else x := by
  by_cases hs : s.submitStale a
  · exact ⟨refuse .stale s, by simp only [submitNew, resolveEnd_eq, if_pos hs]⟩
  · by_cases hz : s.submitAreas a = 0#16
    · exact ⟨refuse .stale s, by
        simp only [submitNew, resolveEnd_eq, resolveAreas_eq s h, if_neg hs, if_pos hz]⟩
    · exact ⟨submitNew p a u s, by rw [if_neg hs, if_neg hz]⟩

/-- The notice that a SUBMIT of a new number describes, without records (01 R20). -/
def State.newNotice (s : State) (p : Port) (a : SubmitArgs) (u : Urgency) : Notice :=
  submitNotice a p s.time.seconds (s.submitEnd a) (s.submitAreas a)
    (if a.areas = none then .derived else .explicit) u

section
variable (h : ¬ SubmitOutOfRange a) (hs : ¬ s.submitStale a) (hz : s.submitAreas a ≠ 0#16)
include h hs hz

theorem submitNew_free {i : Nat} (hfree : s.freeSlot? = some i) :
    submitNew p a u s =
      (s.placeNotice i (s.newNotice p a u)).acceptSubmit p i .ok (submitFlags a) 0
        a.confirm.toNat := by
  simp only [submitNew, resolveEnd_eq, resolveAreas_eq s h, if_neg hs, if_neg hz, hfree,
    State.newNotice]

theorem submitNew_full (hfree : s.freeSlot? = none) (hv : s.victim u = none) :
    submitNew p a u s = refuse .full s := by
  simp only [submitNew, resolveEnd_eq, resolveAreas_eq s h, if_neg hs, if_neg hz, hfree, hv]

theorem submitNew_displaces {i : Nat} {v : Notice} (hfree : s.freeSlot? = none)
    (hv : s.victim u = some (i, v)) :
    submitNew p a u s =
      (((s.freeAtOnce i).placeNotice i (s.newNotice p a u)).raise (.displaced v.number)).acceptSubmit p i
        .displaced (submitFlags a) v.number a.confirm.toNat := by
  simp only [submitNew, resolveEnd_eq, resolveAreas_eq s h, if_neg hs, if_neg hz, hfree, hv,
    State.newNotice]
end

/-- Settles O32: the checks stand in `handleSubmit`, `submitExisting` and `submitNew` in this order, and a
refusal hands the state back. -/
theorem submitIsCheckedInTurn : Obligations.SubmitIsCheckedInTurn := by
  intro p a s hr hf ht
  have hexec : exec (.submit p a) s = .next (answered p 0x10#8 (handleSubmit p a s)) :=
    onRequest_ready (.submit a) hr rfl hf
  refine ⟨fun h => ?range, fun i nt h hn hnum => ⟨fun hp ho => ?owner, fun ho hv => ?same⟩,
    fun h hall => ?checked⟩
  case range => rw [hexec, handleSubmit_outOfRange h, answered_refuse]
  all_goals obtain ⟨u, hu⟩ := urgencyOf?_of_inRange h
  case owner => rw [hexec, handleSubmit_existing ht h hu hn hnum, submitExisting_notOwner hp ho,
      answered_refuse]
  case same =>
    rw [hexec, handleSubmit_existing ht h hu hn hnum, submitExisting_unchanged ho hv]
    rfl
  case checked =>
    have hanswer : ∃ x, handleSubmit p a s =
        if s.submitStale a then refuse .stale s
        else if s.submitAreas a = 0#16 then refuse .unplaced s else x := by
      by_cases hfound : ∃ i nt, s.notice i = some nt ∧ nt.number = a.number.toNat
      · obtain ⟨i, nt, hn, hnum⟩ := hfound
        obtain ⟨ho, hv⟩ := hall i nt hn hnum
        exact ⟨_, (handleSubmit_existing ht h hu hn hnum).trans (submitExisting_checked h ho hv)⟩
      · obtain ⟨x, hx⟩ := submitNew_checked (p := p) (u := u) (s := s) h
        refine ⟨x, (handleSubmit_new h hu fun i nt hn hnum => ?_).trans hx⟩
        exact hfound ⟨i, nt, hn, hnum⟩
    obtain ⟨x, hx⟩ := hanswer
    refine ⟨fun hs => ?_, fun hs hz => ?_⟩
    · rw [hexec, hx, if_pos hs, answered_refuse]
    · rw [hexec, hx, if_neg hs, if_pos hz, answered_refuse]

/-- The state of an accepted SUBMIT's notice is that of its start (01 R18). -/
theorem submitNotice_state (s : State) (a : SubmitArgs) (owner : Port) (e : Nat) (set : AreaSet)
    (o : Origin) (u : Urgency) :
    (submitNotice a owner s.time.seconds e set o u).state =
      if s.time.seconds < (a.startsAt.map BitVec.toNat).getD 0 then .pending else .live := by
  cases h : a.startsAt <;> simp [submitNotice, startState, h]

/-- Settles O33: `updateNotice` replaces the slot, and `acceptSubmit` answers or holds for what it holds. -/
theorem submitUpdatesANotice : Obligations.SubmitUpdatesANotice := by
  intro p a u i old s hr hf ht h hu hn hnum ho hv hs hz nt
  have hexec : exec (.submit p a) s = .next (answered p 0x10#8 (handleSubmit p a s)) :=
    onRequest_ready (.submit a) hr rfl hf
  have hstate := submitNotice_state s a old.owner (s.submitEnd a) (s.submitAreas a)
    (if a.areas = none then .derived else .explicit) u
  have hupdate : s.updateNotice i old (submitNotice a old.owner s.time.seconds (s.submitEnd a)
      (s.submitAreas a) (if a.areas = none then .derived else .explicit) u) =
        s.replaced i (some nt) := by
    rw [State.updateNotice_eq _ _ _ _ (by rw [hstate]; split <;> simp), submitNotice_eq, hstate]
    have hpending : ∀ c : Prop, [Decidable c] →
        ((if c then NoticeState.pending else .live) = .pending) = c := by
      intro c _
      by_cases hc : c <;> simp [hc]
    simp only [hpending]
    rfl
  rw [hexec, handleSubmit_existing ht h hu hn hnum, submitExisting_checked h ho hv, if_neg hs, if_neg hz,
    hupdate, acceptSubmit_eq _ _ _ (nt := nt)]
  rw [State.notice_replaced hn, if_pos rfl]

/-! ### The slot of a new notice -/

theorem State.freeSlot?_eq_some (ht : s.TableSound) {i : Nat} (hi : i < 96) (hfree : s.notice i = none)
    (hlow : ∀ j < i, s.notice j ≠ none) : s.freeSlot? = some i := by
  have hget : ∀ j (hj : j < s.table.slots.length), s.table.slots[j] = s.notice j := by
    intro j hj
    rw [State.notice, List.getD_eq_getElem _ _ hj]
  have hlen : i < s.table.slots.length := by rw [ht.1]; exact hi
  rw [State.freeSlot?, List.findIdx?_eq_some_iff_getElem]
  refine ⟨hlen, by rw [hget, hfree]; rfl, fun j hj => ?_⟩
  rw [hget]
  simpa using hlow j hj

theorem State.freeSlot?_eq_none (ht : s.TableSound) (hfull : ∀ i < 96, s.notice i ≠ none) :
    s.freeSlot? = none := by
  rw [State.freeSlot?, List.findIdx?_eq_none_iff]
  intro x hx
  obtain ⟨i, hi, rfl⟩ := List.getElem_of_mem hx
  have hlt : i < Config.slots := by rw [← ht.1]; exact hi
  have hne := hfull i hlt
  rw [State.notice, List.getD_eq_getElem _ _ hi] at hne
  rw [Option.isNone_eq_false_iff, Option.isSome_iff_ne_none]
  exact hne

/-- A notice that a new one of class `u` may displace (01 R21). -/
theorem displaceable_iff (u : Urgency) (v : Notice) :
    displaceable u v = true ↔ (∀ w, v.state ≠ .withdrawing w) ∧ u.rank < v.urgency.rank := by
  have hstart : v.withdrawStart.isNone = true ↔ ∀ w, v.state ≠ .withdrawing w := by
    unfold Notice.withdrawStart
    cases v.state <;> simp
  rw [displaceable, Bool.and_eq_true, hstart, decide_eq_true_eq]

/-- The slot as a candidate for displacement. -/
def State.candidate (s : State) (u : Urgency) (i : Nat) : Option (Nat × Notice) :=
  match s.notice i with
  | some nt => if displaceable u nt then some (i, nt) else none
  | none => none

theorem State.candidate_eq_some_iff (s : State) (u : Urgency) (i j : Nat) (v : Notice) :
    s.candidate u i = some (j, v) ↔ i = j ∧ s.notice i = some v ∧ displaceable u v = true := by
  unfold State.candidate
  cases h : s.notice i with
  | none => simp
  | some nt => by_cases hd : displaceable u nt = true <;> simp [hd] <;> grind

theorem State.candidates_eq (s : State) (u : Urgency) :
    s.candidates u = slotNumbers.filterMap (s.candidate u) := rfl

theorem State.victim_eq_none (h : ∀ i < 96, ∀ v, s.notice i = some v → displaceable u v = false) :
    s.victim u = none := by
  have hnil : s.candidates u = [] := by
    rw [State.candidates_eq, List.filterMap_eq_nil_iff]
    intro i hi
    rw [Option.eq_none_iff_forall_not_mem]
    rintro ⟨j, v⟩ hx
    obtain ⟨-, hn, hd⟩ := (State.candidate_eq_some_iff ..).1 hx
    rw [h i (List.mem_range.1 hi) v hn] at hd
    cases hd
  rw [State.victim, hnil, leastBy_nil]

/-- The victim: of a least urgent class, of an earliest end among those, in the lowest slot (01 R21). -/
theorem State.victim_eq_some {i : Nat} {v : Notice} (hi : i < 96) (hn : s.notice i = some v)
    (hd : displaceable u v = true)
    (hleast : ∀ j < 96, ∀ w, j ≠ i → s.notice j = some w → displaceable u w = true →
      w.urgency.rank < v.urgency.rank ∨ (w.urgency.rank = v.urgency.rank ∧
        (v.endsAt < w.endsAt ∨ (v.endsAt = w.endsAt ∧ i < j)))) :
    s.victim u = some (i, v) := by
  have hself : s.candidate u i = some (i, v) := (State.candidate_eq_some_iff ..).2 ⟨rfl, hn, hd⟩
  rw [State.victim, State.candidates_eq, slotNumbers_split hi, List.filterMap_append,
    List.filterMap_cons, hself]
  refine leastBy_eq_some (fun y hy => ?before) fun y hy => ?after
  all_goals
    obtain ⟨j, hj, hx⟩ := List.mem_filterMap.1 hy
    obtain ⟨k, w⟩ := y
    obtain ⟨rfl, hw, hdw⟩ := (State.candidate_eq_some_iff ..).1 hx
  case before =>
    have hlt : j < i := List.mem_range.1 hj
    have := hleast j (by omega) w (by omega) hw hdw
    simp only [victimBefore, Bool.or_eq_true, Bool.and_eq_true, decide_eq_true_eq, beq_iff_eq]
    omega
  case after =>
    rw [List.mem_range'_1] at hj
    have := hleast j (by omega) w (by omega) hw hdw
    rw [← Bool.not_eq_true]
    simp only [victimBefore, Bool.or_eq_true, Bool.and_eq_true, decide_eq_true_eq, beq_iff_eq]
    omega

/-- The records of a new notice: fresh ones where it is LIVE, none while it is PENDING (01 R20). -/
theorem State.freshRecords_newNotice (s : State) (p : Port) (a : SubmitArgs) (u : Urgency) :
    s.freshRecords (s.newNotice p a u) = Four.tab fun n =>
      if s.time.seconds < (a.startsAt.map BitVec.toNat).getD 0 then none
      else if s.onStream n (s.submitAreas a) then some (freshAt s.time.tickCount) else none := by
  have hstate : (s.newNotice p a u).state =
      if s.time.seconds < (a.startsAt.map BitVec.toNat).getD 0 then .pending else .live :=
    submitNotice_state ..
  by_cases hp : s.time.seconds < (a.startsAt.map BitVec.toNat).getD 0
  · have hnone : ∀ n, s.carries n (s.newNotice p a u) = false := by
      intro n
      rw [State.carries_eq, hstate, if_pos hp]
      simp
    simp only [State.freshRecords, hnone, if_pos hp]
    rfl
  · rw [State.freshRecords_eq s _ (by rw [hstate, if_neg hp])]
    simp only [if_neg hp]
    rfl

/-- Settles O34: `submitNew` looks for a FREE slot, then for a victim, and puts the notice there. -/
theorem submitPlacesANewNotice : Obligations.SubmitPlacesANewNotice := by
  intro p a u s hr hf ht h hu hnew hs hz nt below
  have hexec : exec (.submit p a) s = .next (answered p 0x10#8 (submitNew p a u s)) :=
    (onRequest_ready (.submit a) hr rfl hf).trans
      (congrArg (fun x => Host.Outcome.next (answered p 0x10#8 x)) (handleSubmit_new h hu hnew))
  have hplace : ∀ t : State, t.freshRecords (s.newNotice p a u) = s.freshRecords (s.newNotice p a u) →
      ∀ i, t.placeNotice i (s.newNotice p a u) = t.setSlot i (some nt) := by
    intro t ht i
    rw [State.placeNotice, ht, State.freshRecords_newNotice, State.newNotice, submitNotice_eq]
  refine ⟨fun i hi hfree hlow => ?free, fun hfull => ⟨fun hnone => ?full, fun i hi v hv hb hleast => ?victim⟩⟩
  case free =>
    have hlen : i < s.table.slots.length := by rw [ht.1]; exact hi
    rw [hexec, submitNew_free h hs hz (State.freeSlot?_eq_some ht hi hfree hlow), hplace s rfl,
      acceptSubmit_eq _ _ _ (State.notice_setSlot_self _ _ _ hlen)]
  case full =>
    have hv : s.victim u = none := State.victim_eq_none fun i hi v hv =>
      Bool.eq_false_iff.2 fun hd => hnone i hi v hv ((displaceable_iff u v).1 hd)
    rw [hexec, submitNew_full h hs hz (State.freeSlot?_eq_none ht hfull) hv, answered_refuse]
  case victim =>
    have hvictim : s.victim u = some (i, v) :=
      State.victim_eq_some hi hv ((displaceable_iff u v).2 hb) fun j hj w hne hw hd =>
        hleast j hj w hne hw ((displaceable_iff u w).1 hd)
    have hfresh : (s.replaced i none).freshRecords (s.newNotice p a u) =
        s.freshRecords (s.newNotice p a u) := by
      have hframe : s.OnlyIn (s.replaced i none) [.slots, .runs, .ports] := by
        rw [← s.freeAtOnce_eq i v hv]
        exact onlyIn_freeAtOnce s i
      unfold State.freshRecords
      congr 1
      funext n
      rw [State.carries_eq, State.carries_eq, hframe.now (by decide)]
      simp only [hframe.onStream (by decide) (by decide)]
    have hset : (s.replaced i none).setSlot i (some nt) = s.replaced i (some nt) := by
      simp only [State.replaced, State.setSlot, State.setTable, List.set_set]
    have hraise : (s.replaced i (some nt)).raise (.displaced v.number) =
        ({ (s.replaced i (some nt)).withKind 0x008#11 with
            attention := { (s.withKind 0x008#11).attention with displaced := v.number } } : State) := rfl
    rw [hexec, submitNew_displaces h hs hz (State.freeSlot?_eq_none ht hfull) hvictim,
      s.freeAtOnce_eq i v hv, hplace _ hfresh, hset, hraise, acceptSubmit_eq _ _ _ (nt := nt)]
    exact (State.notice_replaced hv (some nt) i).trans (if_pos rfl)

end Sys2Proof.Machine
end

section
/-! SUPPORT. WITHDRAW and WITHDRAW ALL (01 R23, R24): the proofs of O35 and O36. -/

namespace Sys2Proof.Machine

variable {s t : State} {p : Port}

/-! ### WITHDRAW -/

section
variable {number : BitVec 16} {i : Nat} {nt : Notice}

theorem handleWithdraw_notFound (h0 : number ≠ 0#16)
    (h : ∀ i nt, s.notice i = some nt → nt.number ≠ number.toNat) :
    handleWithdraw p number s = refuse .notFound s := by
  rw [handleWithdraw, if_neg h0, (s.findSlot_eq_none_iff _).2 h]

/-- WITHDRAW of a number that stands in slot `i`. -/
theorem handleWithdraw_found (ht : s.TableSound) (h0 : number ≠ 0#16) (h : s.notice i = some nt)
    (hn : nt.number = number.toNat) :
    handleWithdraw p number s =
      if p = .traffic ∧ nt.owner = .site then refuse .notOwner s
      else if nt.state = .pending then
        let t := (s.supersede i).setSlot i none
        (t, some (Reply.ok (beBytes 1 (slotCode (t.notice i)))))
      else if nt.state = .live then
        let t := s.beginWithdrawal i
        (t, some (Reply.ok (beBytes 1 (slotCode (t.notice i)))))
      else refuse .alreadyWithdrawing s := by
  rw [handleWithdraw, if_neg h0, (State.findSlot_eq_some_iff ht _ i).2 ⟨nt, h, hn⟩]
  simp only [h]
  cases hst : nt.state <;> simp
end

theorem slotCode_withdrawn (nt : Notice) (w now : Nat) :
    slotCode (nt.withdrawn w now) = if nt.withdrawn w now = none then 0 else 3 := by
  unfold Notice.withdrawn
  split <;> rfl

/-- Settles O35: the branches of `handleWithdraw` are the statement's, with `holdsEnded` and `replaced` for
what the model does slot by slot. -/
theorem withdrawActsByTheNoticesState : Obligations.WithdrawActsByTheNoticesState := by
  intro p number s hr ht
  have hexec : exec (.withdraw p number) s = .next (answered p 0x11#8 (handleWithdraw p number s)) :=
    onRequest_ready (.withdraw number) hr rfl rfl
  refine ⟨fun h0 => ?zero, fun h0 h => ?notFound, fun i nt h0 h hn => ⟨fun hp ho => ?owner, fun ho => ?acts⟩⟩
  case zero => rw [hexec, handleWithdraw, if_pos h0, answered_refuse]
  case notFound => rw [hexec, handleWithdraw_notFound h0 h, answered_refuse]
  case owner => rw [hexec, handleWithdraw_found ht h0 h hn, if_pos ⟨hp, ho⟩, answered_refuse]
  case acts =>
    have hanswer := handleWithdraw_found (p := p) ht h0 h hn
    rw [if_neg ((mayUpdate_iff ..).2 ho)] at hanswer
    refine ⟨fun w hst => ?withdrawing, fun hst => ?pending, fun hst => ?live⟩
    case withdrawing =>
      rw [hexec, hanswer, if_neg (by simp [hst]), if_neg (by simp [hst]), answered_refuse]
    case pending =>
      have hcode : slotCode (((s.supersede i).setSlot i none).notice i) = 0 := by
        rw [State.notice_setSlot_none, if_pos rfl]
        rfl
      rw [hexec, hanswer, if_pos hst]
      dsimp only
      rw [hcode, answered_ok, State.supersede_eq, beBytes_one]
    case live =>
      intro left
      have hleft : (s.beginWithdrawal i).notice i = left := by
        rw [State.notice_beginWithdrawal, if_pos rfl, h]
        rfl
      rw [hexec, hanswer, if_neg (by simp [hst]), if_pos hst]
      dsimp only
      rw [hleft, slotCode_withdrawn, answered_ok, State.beginWithdrawal_eq s i nt h, beBytes_one]
      by_cases hnone : left = none
      · rw [if_pos hnone, if_pos hnone]
      · rw [if_neg hnone, if_neg hnone]

/-! ### WITHDRAW ALL -/

theorem State.streams_replaced (s : State) (i : Nat) (x : Option Notice) :
    (s.replaced i x).streams = Four.tab fun n => (s.stream n).runWithout fun j => j == i := by
  have hstream : (fun n => if s.inRun n i then { s.stream n with run := none } else s.stream n) =
      fun n => (s.stream n).runWithout fun j => j == i := by
    funext n
    rw [State.inRun, Stream.runWithout]
    cases (s.stream n).run <;> rfl
  rw [← hstream]
  rfl

theorem PortState.withoutHold_eq (i : Nat) (x : PortState) :
    x.withoutHold i = x.withoutHolds fun j => j == i := by
  rw [PortState.withoutHold, PortState.withoutHolds]
  cases x.held <;> simp

theorem State.ports_holdsEnded (s : State) (i : Nat) :
    (s.holdsEnded i).ports = ⟨s.ports.site.withoutHolds fun j => j == i,
      s.ports.traffic.withoutHolds fun j => j == i⟩ := by
  simp only [State.holdsEnded, PortState.withoutHold_eq]

theorem Stream.runWithout_none (x : Stream) : x.runWithout (fun _ => false) = x := by
  unfold Stream.runWithout
  cases x.run <;> rfl

theorem PortState.withoutHolds_none (x : PortState) : x.withoutHolds (fun _ => false) = x := by
  unfold PortState.withoutHolds
  cases x.held <;> rfl

/-- The slot holds a notice that `f` picks. -/
def State.holds (s : State) (f : Notice → Bool) (i : Nat) : Bool := (s.notice i).any f

/-- What WITHDRAW ALL leaves of a notice, given those it acts on (01 R24). -/
def Notice.afterWithdrawAll (nt : Notice) (mine : Bool) (w now : Nat) : Option Notice :=
  if mine = true ∧ nt.state = .pending then none
  else if mine = true ∧ nt.state = .live then nt.withdrawn w now
  else some nt

/-- The part when WITHDRAW ALL has come to the slots of `f`, of which it frees and withdraws those of `p`. -/
structure State.WithdrawnIn (s t : State) (p : Port) (f : Nat → Bool) : Prop where
  notice : ∀ i, t.notice i = if f i then
    (s.notice i).bind fun nt =>
      nt.afterWithdrawAll (withinOwnership p nt) s.table.withdrawCells s.time.tickCount
    else s.notice i
  streams : t.streams = Four.tab fun n => (s.stream n).runWithout fun i =>
    f i && s.holds (fun nt => withinOwnership p nt && nt.state = .live) i
  ports : t.ports = ⟨
    s.ports.site.withoutHolds fun i => f i && s.holds (fun nt => withinOwnership p nt &&
      (nt.state = .pending || nt.state = .live)) i,
    s.ports.traffic.withoutHolds fun i => f i && s.holds (fun nt => withinOwnership p nt &&
      (nt.state = .pending || nt.state = .live)) i⟩
  rest : t = { s with table := { s.table with slots := t.table.slots }, streams := t.streams, ports := t.ports }

theorem State.withdrawnIn_none (s : State) (p : Port) : s.WithdrawnIn s p fun _ => false where
  notice _ := rfl
  streams := Four.ext_get fun n => by
    rw [Four.get_tab]
    simp only [Bool.false_and, Stream.runWithout_none]
    rfl
  ports := by simp only [Bool.false_and, PortState.withoutHolds_none]
  rest := rfl

theorem or_and_holds (f : Nat → Bool) (g : Notice → Bool) (i : Nat) :
    (fun j => f j && s.holds g j || j == i && s.holds g j) =
      fun j => (f j || j == i) && s.holds g j := by
  funext j
  cases s.holds g j <;> simp

/-- One more slot's notice, with its runs and its holds, taken by WITHDRAW ALL. -/
theorem State.WithdrawnIn.add {f : Nat → Bool} (h : s.WithdrawnIn t p f) {i : Nat} {u : State}
    (hnotice : ∀ j, u.notice j = if j = i then
      (s.notice i).bind fun nt =>
        nt.afterWithdrawAll (withinOwnership p nt) s.table.withdrawCells s.time.tickCount
      else t.notice j)
    (hstreams : u.streams = Four.tab fun n => (t.stream n).runWithout fun j =>
      j == i && s.holds (fun nt => withinOwnership p nt && nt.state = .live) j)
    (hports : ∀ q, u.port q = (t.port q).withoutHolds fun j =>
      j == i && s.holds (fun nt => withinOwnership p nt &&
        (nt.state = .pending || nt.state = .live)) j)
    (hrest : u = { t with
      table := { t.table with slots := u.table.slots }, streams := u.streams, ports := u.ports }) :
    s.WithdrawnIn u p fun j => f j || j == i where
  notice j := by
    rw [hnotice, h.notice]
    by_cases hj : j = i
    · simp [hj]
    · simp [hj]
  streams := by
    rw [hstreams]
    refine Four.ext_get fun n => ?_
    rw [Four.get_tab, Four.get_tab, State.stream, h.streams, Four.get_tab,
      Stream.runWithout_runWithout, or_and_holds]
  ports := by
    have hsite := hports .site
    have htraffic := hports .traffic
    simp only [State.port, Ports.get, h.ports, PortState.withoutHolds_withoutHolds,
      or_and_holds] at hsite htraffic
    calc u.ports = ⟨u.ports.site, u.ports.traffic⟩ := rfl
      _ = _ := by rw [hsite, htraffic]
  rest := hrest.trans (by rw [h.rest])

theorem stream_runWithout_none (t : State) :
    t.streams = Four.tab fun n => (t.stream n).runWithout fun _ => false :=
  Four.ext_get fun n => by
    rw [Four.get_tab, Stream.runWithout_none]
    rfl

theorem eq_and_holds_true {g : Notice → Bool} {i : Nat} (h : s.holds g i = true) :
    (fun j => j == i && s.holds g j) = fun j => j == i := by
  funext j
  by_cases hj : j = i
  · subst hj; simp [h]
  · simp [hj]

theorem eq_and_holds_false {g : Notice → Bool} {i : Nat} (h : s.holds g i = false) :
    (fun j => j == i && s.holds g j) = fun _ => false := by
  funext j
  by_cases hj : j = i
  · subst hj; simp [h]
  · simp [hj]

/-- A slot that WITHDRAW ALL has not come to is taken as it was at the start. -/
theorem State.WithdrawnIn.step {f : Nat → Bool} (h : s.WithdrawnIn t p f) {i : Nat} (hf : f i = false) :
    s.WithdrawnIn (withdrawAllSlot p i t) p fun j => f j || j == i := by
  have hsame : t.notice i = s.notice i := by rw [h.notice, hf, if_neg Bool.false_ne_true]
  have hnow : t.table.withdrawCells = s.table.withdrawCells ∧ t.time = s.time := by
    rw [h.rest]
    exact ⟨rfl, rfl⟩
  have hkept (hleft : (s.notice i).bind (fun nt => nt.afterWithdrawAll (withinOwnership p nt)
        s.table.withdrawCells s.time.tickCount) = s.notice i)
      (hlive : s.holds (fun nt => withinOwnership p nt && nt.state = .live) i = false)
      (hheld : s.holds (fun nt => withinOwnership p nt &&
        (nt.state = .pending || nt.state = .live)) i = false) :
      s.WithdrawnIn t p fun j => f j || j == i := by
    refine h.add (fun j => ?_) ?_ (fun q => ?_) rfl
    · rw [hleft, ← hsame]
      exact State.notice_same rfl j
    · rw [eq_and_holds_false hlive]
      exact stream_runWithout_none t
    · rw [eq_and_holds_false hheld, PortState.withoutHolds_none]
  cases hn : s.notice i with
  | none =>
    have hslot : withdrawAllSlot p i t = t := by rw [withdrawAllSlot, hsame, hn]
    rw [hslot]
    exact hkept (by rw [hn]; rfl) (by rw [State.holds, hn]; rfl) (by rw [State.holds, hn]; rfl)
  | some nt =>
    have hholds : ∀ g, s.holds g i = g nt := fun g => by rw [State.holds, hn]; rfl
    have htn : t.notice i = some nt := hsame.trans hn
    have hbind : ∀ g : Notice → Option Notice, (s.notice i).bind g = g nt := fun g => by rw [hn]; rfl
    cases hm : withinOwnership p nt with
    | false =>
      have hslot : withdrawAllSlot p i t = t := by
        simp only [withdrawAllSlot, htn, hm, Bool.false_eq_true, if_false]
      rw [hslot]
      refine hkept ?_ (by rw [hholds, hm]; rfl) (by rw [hholds, hm]; rfl)
      rw [hbind, hn, hm]
      simp [Notice.afterWithdrawAll]
    | true =>
      cases hst : nt.state with
      | withdrawing w =>
        have hslot : withdrawAllSlot p i t = t := by
          simp only [withdrawAllSlot, htn, hm, if_true, hst]
        rw [hslot]
        refine hkept ?_ (by rw [hholds, hst]; simp) (by rw [hholds, hst]; simp)
        rw [hbind, hn]
        simp [Notice.afterWithdrawAll, hst]
      | pending =>
        have hslot : withdrawAllSlot p i t = (t.holdsEnded i).setSlot i none := by
          simp only [withdrawAllSlot, htn, hm, if_true, hst, State.supersede_eq]
        have hlive : s.holds (fun nt => withinOwnership p nt && nt.state = .live) i = false := by
          rw [hholds, hst]; simp
        have hheld : s.holds (fun nt => withinOwnership p nt &&
            (nt.state = .pending || nt.state = .live)) i = true := by
          rw [hholds, hm, hst]; rfl
        rw [hslot]
        refine h.add (fun j => ?_) ?_ (fun q => ?_) rfl
        · rw [State.notice_setSlot_none, hbind]
          simp [Notice.afterWithdrawAll, hm, hst]
          rfl
        · rw [eq_and_holds_false hlive]
          exact stream_runWithout_none t
        · rw [eq_and_holds_true hheld]
          cases q <;> simp [State.setSlot, State.setTable, State.port, State.ports_holdsEnded, Ports.get]
      | live =>
        have hslot : withdrawAllSlot p i t =
            t.replaced i (nt.withdrawn s.table.withdrawCells s.time.tickCount) := by
          simp only [withdrawAllSlot, htn, hm, if_true, hst]
          rw [t.beginWithdrawal_eq i nt htn, hnow.1, hnow.2]
        have hlive : s.holds (fun nt => withinOwnership p nt && nt.state = .live) i = true := by
          rw [hholds, hm, hst]; rfl
        have hheld : s.holds (fun nt => withinOwnership p nt &&
            (nt.state = .pending || nt.state = .live)) i = true := by
          rw [hholds, hm, hst]; rfl
        rw [hslot]
        refine h.add (fun j => ?_) ?_ (fun q => ?_) rfl
        · rw [State.notice_replaced htn, hbind]
          simp [Notice.afterWithdrawAll, hm, hst]
        · rw [eq_and_holds_true hlive, State.streams_replaced]
        · rw [eq_and_holds_true hheld]
          cases q <;> simp [State.replaced, State.setSlot, State.setTable, State.runsEnded, State.port,
            State.ports_holdsEnded, Ports.get]

/-- All slots taken, lowest first. -/
theorem forSlots_withdrawAll (s : State) (p : Port) :
    s.WithdrawnIn (forSlots (withdrawAllSlot p) s) p fun j => decide (j < Config.slots) := by
  have key : ∀ k : Nat, s.WithdrawnIn ((List.range k).foldl (fun t i => withdrawAllSlot p i t) s) p
      fun j => decide (j < k) := by
    intro k
    induction k with
    | zero => exact s.withdrawnIn_none p
    | succ k ih =>
      have hstep := ih.step (i := k) (by simp)
      have hnext : (fun j => decide (j < k) || j == k) = fun j => decide (j < k + 1) := by
        funext j
        rw [Bool.eq_iff_iff]
        simp only [Bool.or_eq_true, decide_eq_true_eq, beq_iff_eq]
        omega
      rw [List.range_succ, List.foldl_append, ← hnext]
      exact hstep
  exact key Config.slots

/-- Settles O36: the slots are taken one by one, each as it stood at the start, with the runs and holds of
its notice. -/
theorem withdrawAllActsOnWhatTheLinkOwns : Obligations.WithdrawAllActsOnWhatTheLinkOwns := by
  intro p s hr ht mine
  have hmine : ∀ nt, withinOwnership p nt = mine nt := fun nt => (Bool.decide_or ..).symm
  have hlive : ∀ nt : Notice, nt.isLive = decide (nt.state = .live) := fun nt => by
    rw [Bool.eq_iff_iff, Notice.isLive_iff, decide_eq_true_eq]
  have hexec : exec (.withdrawAll p) s = .next (answered p 0x12#8 (handleWithdrawAll p s)) :=
    onRequest_ready .withdrawAll hr rfl rfl
  have hall := forSlots_withdrawAll s p
  have hslot : ∀ i nt, s.notice i = some nt → decide (i < Config.slots) = true := fun i nt h =>
    decide_eq_true (State.lt_slots_of_notice ht h)
  have hholds : ∀ (g : Notice → Bool) (i : Nat), (decide (i < Config.slots) && s.holds g i) = s.holds g i := by
    intro g i
    cases h : s.notice i with
    | none => simp [State.holds, h]
    | some nt => rw [hslot i nt h, Bool.true_and]
  refine ⟨forSlots (withdrawAllSlot p) s, ?_, fun i => ?_, fun n => ?_, fun q => ?_, ?_, ?_⟩
  · rw [hexec, handleWithdrawAll, answered_ok]
    simp only [hmine, hlive]
  · rw [hall.notice]
    cases h : s.notice i with
    | none => simp
    | some nt => rw [hslot i nt h, if_pos rfl, Option.bind_some, hmine]; rfl
  · rw [State.stream, hall.streams, Four.get_tab, Stream.runWithout]
    cases hrun : (s.stream n).run with
    | none => rfl
    | some run =>
      dsimp only
      rw [hholds, State.holds]
      cases h : s.notice run.slot with
      | none => rfl
      | some nt => simp [hmine]
  · have hport : (forSlots (withdrawAllSlot p) s).port q = (s.port q).withoutHolds fun i =>
        decide (i < Config.slots) && s.holds (fun nt => withinOwnership p nt &&
          (nt.state = .pending || nt.state = .live)) i := by
      cases q <;> simp only [State.port, Ports.get, hall.ports]
    rw [hport, PortState.withoutHolds]
    cases hheld : (s.port q).held with
    | none => rfl
    | some held =>
      dsimp only
      rw [hholds, State.holds]
      cases h : s.notice held.slot with
      | none => rfl
      | some nt => simp [hmine]
  · exact hall.rest.trans (by rw [hall.rest])
  · rw [hall.rest]

end Sys2Proof.Machine
end

section
/-! SUPPORT. What every work of a boundary but a notice's test keeps of the notices and of the holds
(`State.Follows`): the state and the times of a notice, the slot and the limit of a hold. -/

namespace Sys2Proof.Machine

variable {s t u : State} {ks : List Part}

/-- Every submit held in `t` was held in `s`, for the same slot with the same limit. -/
def State.HeldFrom (s t : State) : Prop :=
  ∀ p h, (t.port p).held = some h →
    ∃ h0, (s.port p).held = some h0 ∧ h.slot = h0.slot ∧ h.limit = h0.limit

/-- The notice as it was, but for its records. -/
def Notice.SameTimes (nt nt0 : Notice) : Prop :=
  nt.state = nt0.state ∧ nt.startsAt = nt0.startsAt ∧ nt.endsAt = nt0.endsAt

/-- `t` is `s` after some notices were freed or had their records changed, and some holds were settled. -/
structure State.Follows (s t : State) : Prop where
  notice : ∀ i nt, t.notice i = some nt → ∃ nt0, s.notice i = some nt0 ∧ nt.SameTimes nt0
  held : s.HeldFrom t

theorem Notice.SameTimes.refl (nt : Notice) : nt.SameTimes nt := ⟨rfl, rfl, rfl⟩

theorem State.HeldFrom.refl (s : State) : s.HeldFrom s := fun _ h hp => ⟨h, hp, rfl, rfl⟩

theorem State.HeldFrom.trans (h : s.HeldFrom t) (h' : t.HeldFrom u) : s.HeldFrom u := by
  intro p x hx
  obtain ⟨y, hy, hslot, hlimit⟩ := h' p x hx
  obtain ⟨z, hz, hslot', hlimit'⟩ := h p y hy
  exact ⟨z, hz, hslot.trans hslot', hlimit.trans hlimit'⟩

theorem State.Follows.refl (s : State) : s.Follows s :=
  ⟨fun _ nt h => ⟨nt, h, .refl nt⟩, .refl s⟩

theorem State.Follows.trans (h : s.Follows t) (h' : t.Follows u) : s.Follows u where
  notice i x hx := by
    obtain ⟨y, hy, hs, hb, he⟩ := h'.notice i x hx
    obtain ⟨z, hz, hs', hb', he'⟩ := h.notice i y hy
    exact ⟨z, hz, hs.trans hs', hb.trans hb', he.trans he'⟩
  held := h.held.trans h'.held

theorem State.OnlyIn.heldFrom (h : s.OnlyIn t ks) (hp : .ports ∉ ks) : s.HeldFrom t := by
  intro p x hx
  rw [h.port hp] at hx
  exact ⟨x, hx, rfl, rfl⟩

theorem State.OnlyIn.follows (h : s.OnlyIn t ks) (hn : .slots ∉ ks) (hp : .ports ∉ ks) : s.Follows t :=
  ⟨fun i nt hx => ⟨nt, by rwa [← h.notice hn], .refl nt⟩, h.heldFrom hp⟩

/-- A change of the ports alone. -/
theorem State.OnlyIn.follows_ports (h : s.OnlyIn t [.ports]) (hheld : s.HeldFrom t) : s.Follows t :=
  ⟨fun i nt hx => ⟨nt, by rwa [← h.notice (by decide)], .refl nt⟩, hheld⟩

/-! ### Ports -/

theorem heldFrom_setPort (s : State) (p : Port) (x : PortState)
    (hx : ∀ h, x.held = some h → ∃ h0, (s.port p).held = some h0 ∧ h.slot = h0.slot ∧
      h.limit = h0.limit) : s.HeldFrom (s.setPort p x) := by
  intro q h hq
  by_cases e : q = p
  · subst e
    rw [State.port_setPort_self] at hq
    exact hx h hq
  · rw [State.port_setPort_ne _ _ _ _ e] at hq
    exact ⟨h, hq, rfl, rfl⟩

theorem heldFrom_finishHeld (s : State) (p : Port) (st : Status) : s.HeldFrom (s.finishHeld p st) := by
  rw [State.finishHeld_eq]
  refine heldFrom_setPort s p _ fun h hh => ?_
  unfold PortState.heldAnswered at hh
  split at hh
  · exact ⟨h, hh, rfl, rfl⟩
  · cases hh

theorem heldFrom_settleHeld (s : State) (p : Port) (h h0 : Held) (hh : (s.port p).held = some h0)
    (hslot : h.slot = h0.slot) (hlimit : h.limit = h0.limit) : s.HeldFrom (s.settleHeld p h) := by
  have hset : s.HeldFrom (s.setPort p { s.port p with held := some h }) :=
    heldFrom_setPort s p _ fun x hx => by
      cases hx
      exact ⟨h0, hh, hslot, hlimit⟩
  unfold State.settleHeld
  dsimp only
  split
  · exact hset.trans (heldFrom_finishHeld _ p _)
  · exact hset

theorem heldFrom_forPorts {f : Port → State → State} (h : ∀ p (s : State), s.HeldFrom (f p s))
    (s : State) : s.HeldFrom (forPorts f s) := (h .site s).trans (h .traffic _)

theorem heldFrom_supersede (s : State) (i : Nat) : s.HeldFrom (s.supersede i) := by
  refine heldFrom_forPorts (fun p t => ?_) s
  unfold supersedeAt
  split
  · split
    · exact heldFrom_finishHeld t p _
    · exact .refl t
  · exact .refl t

theorem follows_leaveRemaining (s : State) (i : Nat) (n : Ch) : s.Follows (s.leaveRemaining i n) := by
  refine ((onlyPorts_leaveRemaining i n).onlyIn s).follows_ports (heldFrom_forPorts (fun p t => ?_) s)
  unfold leaveAt
  split
  · next h hh =>
    split
    · exact heldFrom_settleHeld t p _ h hh rfl rfl
    · exact .refl t
  · exact .refl t

theorem follows_testHeld (s : State) (i : Nat) (n : Ch) (r : Record) : s.Follows (s.testHeld i n r) := by
  refine ((onlyPorts_testHeld i n r).onlyIn s).follows_ports (heldFrom_forPorts (fun p t => ?_) s)
  unfold testHeldAt
  split
  · next h hh =>
    split
    · exact heldFrom_settleHeld t p _ h hh rfl rfl
    · exact .refl t
  · exact .refl t

/-! ### Slots -/

theorem follows_free (s : State) (i : Nat) : s.Follows (s.setSlot i none) where
  notice j nt h := by
    rw [State.notice_setSlot_none] at h
    split at h
    · cases h
    · exact ⟨nt, h, .refl nt⟩
  held := .refl s

theorem follows_withRecord {i : Nat} {nt : Notice} (h : s.notice i = some nt) (n : Ch)
    (r : Option Record) : s.Follows (s.setSlot i (some (nt.withRecord n r))) where
  notice j x hx := by
    rw [State.notice_setSlot h] at hx
    split at hx
    · next e =>
      cases hx
      exact ⟨nt, by rwa [e], rfl, rfl, rfl⟩
    · exact ⟨x, hx, .refl x⟩
  held := .refl s

theorem follows_forSlots {f : Nat → State → State} (h : ∀ i (s : State), s.Follows (f i s))
    (s : State) : s.Follows (forSlots f s) :=
  forSlots_keeps (P := s.Follows) (fun i _ t ht => ht.trans (h i t)) s (.refl s)

theorem follows_removeRecord (s : State) (n : Ch) (i : Nat) : s.Follows (s.removeRecord n i) := by
  unfold State.removeRecord
  split
  · exact .refl s
  · next nt h =>
    dsimp only
    split
    · exact follows_free s i
    · exact follows_withRecord h n none

theorem follows_setStream (s : State) (n : Ch) (x : Stream) : s.Follows (s.setStream n x) :=
  ⟨fun _ nt h => ⟨nt, h, .refl nt⟩, .refl s⟩

theorem follows_emit (s : State) (n : Ch) (k : Kind) (v : BitVec 48) : s.Follows (s.emit n k v) :=
  (onlyIn_emit s n k v).follows (by decide) (by decide)

/-! ### The stream engines -/

theorem follows_completeRun (s : State) (n : Ch) (i head : Nat) : s.Follows (s.completeRun n i head) := by
  unfold State.completeRun
  extract_lets x t
  have ht : s.Follows t := follows_setStream s n _
  split
  · exact ht
  · next nt h =>
    split
    · exact ht
    · exact (ht.trans (follows_withRecord h n _)).trans (follows_testHeld _ i n _)

theorem follows_arbitrate (s : State) (n : Ch) : s.Follows (s.arbitrate n) := by
  unfold State.arbitrate
  split
  · next run hrun =>
    unfold State.sendRunCell
    split
    · exact follows_emit s n _ _
    · dsimp only
      split
      · exact (follows_emit s n _ _).trans (follows_setStream _ n _)
      · exact (follows_emit s n _ _).trans (follows_completeRun _ n _ _)
  · split
    · next i nt r h =>
      have hn : s.notice i = some nt := (nextWithdrawal_mem h).2.1
      unfold State.sendWithdraw
      dsimp only
      split
      · exact follows_emit s n _ _
      · split
        · exact (follows_emit s n _ _).trans (follows_removeRecord _ n i)
        · exact (follows_emit s n _ _).trans (follows_withRecord (s := s.emit n _ _) hn n _)
    · split
      · exact (onlyIn_sendHead s n _ _).follows (by decide) (by decide)
      · exact follows_emit s n _ _

theorem follows_sendCell (s : State) (n : Ch) : s.Follows (s.sendCell n) := by
  have harb := follows_arbitrate s n
  unfold State.sendCell
  split
  · exact (onlyIn_sendStatus s n).follows (by decide) (by decide)
  · exact (onlyIn_sendName s n).follows (by decide) (by decide)
  · split
    · exact (onlyIn_sendLongName s n _).follows (by decide) (by decide)
    · exact harb
  · split
    · split
      · exact (onlyIn_sendRefer s n _).follows (by decide) (by decide)
      · exact harb
    · exact harb
  · exact harb

theorem follows_enterStopped (s : State) (n : Ch) : s.Follows (s.enterStopped n) := by
  refine (follows_setStream s n _).trans (follows_forSlots (fun i t => ?_) _)
  unfold discardRecord
  split
  · exact .refl t
  · split
    · exact .refl t
    · exact (follows_removeRecord t n i).trans (follows_leaveRemaining _ i n)

theorem follows_takeStart (s : State) (n : Ch) : s.Follows (s.takeStart n) := by
  refine (follows_setStream s n _).trans (follows_forSlots (fun i t => ?_) _)
  unfold startRecord
  split
  · exact .refl t
  · next nt h =>
    split
    · exact follows_withRecord h n _
    · exact .refl t

theorem follows_streamWork (n : Ch) (s : State) : s.Follows (streamWork n s) := by
  have hstop : s.Follows (stopStep n s) := by
    unfold stopStep
    split
    · exact follows_enterStopped s n
    · exact .refl s
  have hstart : ∀ t : State, t.Follows (startStep n t) := by
    intro t
    unfold startStep
    split
    · exact follows_takeStart t n
    · exact .refl t
  have hcell : ∀ t : State, t.Follows (cellStep n t) := by
    intro t
    unfold cellStep
    split
    · exact follows_sendCell t n
    · exact follows_setStream t n _
  have hbefore : s.Follows (s.beforeCell n) :=
    ((hstop.trans (hstart _)).trans
      ((onlyIn_planStep n _).follows (by decide) (by decide))).trans
      ((onlyIn_sampleModulator _ n).follows (by decide) (by decide))
  exact hbefore.trans (hcell _)

/-! ### The works -/

theorem follows_testWithdrawLimit (i : Nat) (s : State) : s.Follows (testWithdrawLimit i s) := by
  unfold testWithdrawLimit
  split
  · exact ((onlyIn_cutRuns s i).follows (by decide) (by decide)).trans (follows_free _ i)
  · exact .refl s

theorem follows_testConfirmLimit (p : Port) (s : State) : s.Follows (testConfirmLimit p s) := by
  unfold testConfirmLimit
  split
  · exact ((onlyPorts_finishHeld p .confirmLate).onlyIn s).follows_ports (heldFrom_finishHeld s p _)
  · exact .refl s

theorem follows_take {w : Work} (hw : Work.isNoticeTest w = false) (s : State) : s.Follows (s.take w) := by
  cases w with
  | noticeTest i => cases hw
  | stream n => exact follows_streamWork n s
  | withdrawLimit i => exact follows_testWithdrawLimit i s
  | confirmLimit p => exact follows_testConfirmLimit p s
  | trimExpiry | timedFire | minute | announce _ | silence | markWatch =>
    exact (onlyIn_take _ s).follows (by simp [workTouches]) (by simp [workTouches])

theorem heldFrom_testNotice (i : Nat) (s : State) : s.HeldFrom (testNotice i s) := by
  unfold testNotice
  split
  · exact .refl s
  · next nt h =>
    split
    · unfold State.startNotice
      rw [h]
      dsimp only
      split
      · exact .refl s
      · exact .refl s
    · split
      · have hcut : s.HeldFrom ((s.supersede i).cutRuns i) :=
          (heldFrom_supersede s i).trans ((onlyIn_cutRuns _ i).heldFrom (by decide))
        unfold State.beginWithdrawal
        rw [h]
        dsimp only
        split
        · exact hcut
        · exact hcut
      · exact .refl s

theorem heldFrom_take (w : Work) (s : State) : s.HeldFrom (s.take w) := by
  cases hw : Work.isNoticeTest w with
  | false => exact (follows_take hw s).held
  | true =>
    cases w with
    | noticeTest i => exact heldFrom_testNotice i s
    | trimExpiry | timedFire | minute | stream _ | announce _ | withdrawLimit _ | confirmLimit _
    | silence | markWatch => cases hw

theorem follows_takeAll (ws : List Work) (hws : ∀ w ∈ ws, Work.isNoticeTest w = false) (s : State) :
    s.Follows (s.takeAll ws) := by
  induction ws generalizing s with
  | nil => exact .refl s
  | cons w ws ih =>
    exact (follows_take (hws w List.mem_cons_self) s).trans
      (ih (fun v hv => hws v (List.mem_cons_of_mem _ hv)) _)

end Sys2Proof.Machine
end

section
/-! SUPPORT. Limits on the tick count (01 R11, R31; 07 R144): the proof of O8. -/

namespace Sys2Proof.Machine

variable {s t u : State}

/-! ### Withdraw limits -/

/-- The part with the slots of `f` FREE and their runs cut, the holds as they were. -/
def State.freed (s : State) (f : Nat → Bool) : State :=
  { s with
    table := { s.table with slots := s.table.slots.mapIdx fun i x => if f i then none else x }
    streams := Four.tab fun n => (s.stream n).runWithout f }

theorem State.freed_eq (s : State) (f : Nat → Bool) :
    s.freed f = { s.cleared f with ports := s.ports } := rfl

theorem State.notice_freed (s : State) (f : Nat → Bool) (i : Nat) :
    (s.freed f).notice i = if f i then none else s.notice i := s.notice_cleared f i

theorem State.freed_freed (s : State) (f g : Nat → Bool) :
    (s.freed f).freed g = s.freed fun i => f i || g i :=
  congrArg (fun t : State => { t with ports := s.ports }) (s.cleared_cleared f g)

theorem State.freed_none (s : State) : (s.freed fun _ => false) = s := by
  rw [State.freed_eq, State.cleared_none]

theorem testWithdrawLimit_eq (i : Nat) (s : State) :
    testWithdrawLimit i s = s.freed fun j => j == i && s.withdrawLimitReached j := by
  unfold testWithdrawLimit
  cases h : s.withdrawLimitReached i with
  | false =>
    have hnone : (fun j => j == i && s.withdrawLimitReached j) = fun _ => false := by
      funext j
      by_cases hj : j = i
      · simp [hj, h]
      · simp [hj]
    rw [if_neg Bool.false_ne_true, hnone, State.freed_none]
  | true =>
    have hself : (fun j => j == i && s.withdrawLimitReached j) = fun j => j == i := by
      funext j
      by_cases hj : j = i
      · simp [hj, h]
      · simp [hj]
    have hreplaced := congrArg (fun t : State => { t with ports := s.ports }) (s.replaced_none i)
    rw [if_pos rfl, hself, State.cutRuns_eq, State.freed_eq, ← hreplaced]
    rfl

theorem State.withdrawLimitReached_freed (s : State) (f : Nat → Bool) (j : Nat) :
    (s.freed f).withdrawLimitReached j = (!f j && s.withdrawLimitReached j) := by
  rw [State.withdrawLimitReached_eq, State.withdrawLimitReached_eq, State.notice_freed]
  cases f j <;> rfl

/-- The withdraw limits of a list of slots tested. -/
theorem takeAll_withdrawLimits (s : State) (l : List Nat) :
    s.takeAll (l.map Work.withdrawLimit) =
      s.freed fun j => l.contains j && s.withdrawLimitReached j := by
  induction l using List.reverseRecOn with
  | nil => exact s.freed_none.symm
  | append_singleton l i ih =>
    rw [List.map_append, takeAll_append, ih]
    refine (testWithdrawLimit_eq i _).trans ?_
    rw [State.freed_freed]
    congr 1
    funext j
    rw [State.withdrawLimitReached_freed, List.contains_append]
    have hsingle : [i].contains j = (j == i) := by
      rw [List.contains_cons, List.contains_nil, Bool.or_false]
    rw [hsingle]
    cases l.contains j <;> cases (j == i) <;> cases s.withdrawLimitReached j <;> rfl

/-! ### Confirm limits -/

theorem testConfirmLimit_eq (p : Port) (s : State) :
    testConfirmLimit p s = if s.confirmLimitReached p = true then
      s.setPort p ((s.port p).heldAnswered .confirmLate) else s := by
  rw [testConfirmLimit, State.finishHeld_eq]

/-- The port after its confirm limit was tested at tick count `now` (01 R31). -/
def PortState.limited (x : PortState) (now : Nat) : PortState :=
  if (x.held.any fun h => decide (h.limit ≤ now)) = true then x.heldAnswered .confirmLate else x

theorem State.confirmLimitReached_eq (s : State) (p : Port) :
    s.confirmLimitReached p = (s.port p).held.any fun h => decide (h.limit ≤ s.now) := by
  unfold State.confirmLimitReached
  cases (s.port p).held <;> rfl

theorem testConfirmLimit_limited (p : Port) (s : State) :
    testConfirmLimit p s = s.setPort p ((s.port p).limited s.now) := by
  rw [testConfirmLimit_eq, State.confirmLimitReached_eq, PortState.limited]
  split
  · rfl
  · exact (s.setPort_port p).symm

/-- A port whose limit is not reached is left as it is, so that every port may be tested. -/
theorem takeAll_confirmLimits (s : State) :
    s.takeAll (([Port.site, Port.traffic].filter s.confirmLimitReached).map Work.confirmLimit) =
      { s with ports := ⟨s.ports.site.limited s.now, s.ports.traffic.limited s.now⟩ } := by
  have hkept : ∀ p, s.confirmLimitReached p = false → (s.port p).limited s.now = s.port p := by
    intro p hp
    rw [PortState.limited, ← State.confirmLimitReached_eq, hp, if_neg Bool.false_ne_true]
  have htaken : ∀ (t : State) p, t.take (.confirmLimit p) = t.setPort p ((t.port p).limited t.now) :=
    fun t p => testConfirmLimit_limited p t
  have hsite := hkept .site
  have htraffic := hkept .traffic
  simp only [State.port, Ports.get] at hsite htraffic
  cases h : s.confirmLimitReached .site <;> cases h' : s.confirmLimitReached .traffic <;>
    simp only [List.filter_cons, List.filter_nil, h, h', Bool.false_eq_true, if_true, if_false,
      List.map_cons, List.map_nil, State.takeAll, List.foldl_cons, List.foldl_nil, htaken]
  · rw [hsite h, htraffic h']
  · rw [hsite h]
    rfl
  · rw [htraffic h']
    rfl
  · rfl

/-! ### Boundaries -/

/-- The limit tests of a boundary, alone. -/
theorem boundaryWorks_limits (s : State) (second : Bool) :
    (s.boundaryWorks second).filter Work.isLimitTest =
      (slotNumbers.filter s.withdrawLimitReached).map Work.withdrawLimit ++
        ([Port.site, Port.traffic].filter s.confirmLimitReached).map Work.confirmLimit := by
  have htrim : (if s.time.trimSpent then [Work.trimExpiry] else []).filter Work.isLimitTest = [] := by
    split <;> rfl
  have hsecond : (if second then s.secondWorks else []).filter Work.isLimitTest = [] := by
    rw [List.filter_eq_nil_iff]
    intro w hw
    unfold State.secondWorks at hw
    split at hw
    · simp only [List.mem_append, List.mem_map, List.mem_singleton] at hw
      rcases hw with (⟨i, -, rfl⟩ | rfl) | hminute
      · exact Bool.false_ne_true
      · exact Bool.false_ne_true
      · split at hminute
        · cases List.mem_singleton.1 hminute
          exact Bool.false_ne_true
        · cases hminute
    · cases hw
  have hslots : ∀ l : List Nat, (l.map Work.withdrawLimit).filter Work.isLimitTest =
      l.map Work.withdrawLimit := fun l => List.filter_eq_self.2 fun w hw => by
    obtain ⟨i, -, rfl⟩ := List.mem_map.1 hw
    rfl
  have hports : ∀ l : List Port, (l.map Work.confirmLimit).filter Work.isLimitTest =
      l.map Work.confirmLimit := fun l => List.filter_eq_self.2 fun w hw => by
    obtain ⟨p, -, rfl⟩ := List.mem_map.1 hw
    rfl
  have hengines : engineWorks.filter Work.isLimitTest = [] := rfl
  have hcounts : [Work.silence, Work.markWatch].filter Work.isLimitTest = [] := rfl
  simp only [State.boundaryWorks, List.filter_append, htrim, hsecond, hengines, hslots, hports, hcounts,
    List.nil_append, List.append_nil]

theorem tableSound_length_flushDue (ht : s.TableSound) : s.flushDue.table.slots.length = 96 :=
  (evolves_takeAll s.due s).length.trans ht.1

/-- A boundary that takes the limit tests alone. -/
theorem works_limits (s : State) (second : Bool) (ht : s.table.slots.length = 96) :
    s.works second (othersThan Work.isLimitTest) =
      { s.freed s.withdrawLimitReached with
        ports := ⟨s.ports.site.limited s.now, s.ports.traffic.limited s.now⟩
        due := (s.boundaryWorks second).filter fun w => !Work.isLimitTest w } := by
  have hall : (fun j => (slotNumbers.filter s.withdrawLimitReached).contains j &&
      s.withdrawLimitReached j) = s.withdrawLimitReached := by
    funext j
    cases h : s.withdrawLimitReached j with
    | false => rw [Bool.and_false]
    | true =>
      have hlt : j < 96 := by
        rw [State.withdrawLimitReached_eq] at h
        cases hn : s.notice j with
        | none => rw [hn] at h; cases h
        | some nt => exact ht ▸ State.lt_of_notice hn
      rw [Bool.and_true, List.contains_iff_mem, List.mem_filter]
      exact ⟨List.mem_range.2 hlt, h⟩
  have hports := takeAll_confirmLimits (s.freed s.withdrawLimitReached)
  rw [State.works_othersThan, boundaryWorks_limits, takeAll_append, takeAll_withdrawLimits, hall]
  exact congrArg (fun t : State => { t with
    due := (s.boundaryWorks second).filter fun w => !Work.isLimitTest w }) hports

theorem SiteTime.trimSpent_iff (x : SiteTime) :
    x.trimSpent = true ↔ ∃ v, x.temporary = some (v, 0) := by
  unfold SiteTime.trimSpent
  cases h : x.temporary with
  | none => simp
  | some y => obtain ⟨v, k⟩ := y; simp

/-- What a boundary's beginning has of a port's hold and queue. -/
theorem begun_port (s : State) (lines : Lines) (p : Port) :
    ((s.begun lines).port p).held = (s.flushDue.port p).held ∧
      ((s.begun lines).port p).queue = (s.flushDue.port p).queue := by
  have htimed : (s.begun lines).port p =
      (s.flushDue.port p).timed (s.flushDue.time.tickLength - s.flushDue.time.phase) := by
    rw [State.begun_eq, State.finishTick_eq]
    cases p <;> rfl
  rw [htimed]
  unfold PortState.timed
  constructor <;> repeat' split
  all_goals rfl

theorem PortState.limited_parts (x y : PortState) (now : Nat) (hh : y.held = x.held)
    (hq : y.queue = x.queue) :
    let late := x.held.any fun h => decide (h.limit ≤ now)
    (y.limited now).held = (if late then none else x.held) ∧
      (y.limited now).queue = if late then (x.heldAnswered .confirmLate).queue else x.queue := by
  intro late
  unfold PortState.limited
  rw [hh]
  split
  · next h =>
    cases hx : x.held with
    | none => rw [hx] at h; cases h
    | some v => simp only [PortState.heldAnswered, hh, hx, hq, and_self]
  · exact ⟨hh, hq⟩

/-! ### Nothing left at its limit -/

theorem State.withdrawLimitReached_iff (s : State) (i : Nat) :
    s.withdrawLimitReached i = true ↔
      ∃ nt w, s.notice i = some nt ∧ nt.state = .withdrawing w ∧ w + 2400 ≤ s.now := by
  rw [State.withdrawLimitReached_eq]
  cases h : s.notice i with
  | none => simp
  | some nt =>
    cases hst : nt.state <;> simp [Notice.withdrawStart, hst]

/-- Only slots of `f` hold a notice at its withdraw limit. -/
def State.LimitsIn (s : State) (f : Nat → Bool) : Prop :=
  ∀ i, s.withdrawLimitReached i = true → f i = true

theorem take_now (s : State) (w : Work) : (s.take w).now = s.now := by
  rw [State.now, (take_steady s w).same]
  rfl

theorem takeAll_now (s : State) (ws : List Work) : (s.takeAll ws).now = s.now := by
  rw [State.now, (takeAll_steady s ws).same]
  rfl

theorem State.Follows.limitsIn {f : Nat → Bool} (h : s.Follows t) (hnow : t.now = s.now)
    (hs : s.LimitsIn f) : t.LimitsIn f := by
  intro i hi
  obtain ⟨nt, w, hn, hst, hw⟩ := (State.withdrawLimitReached_iff t i).1 hi
  obtain ⟨nt0, hn0, hst0, -, -⟩ := h.notice i nt hn
  exact hs i ((State.withdrawLimitReached_iff s i).2 ⟨nt0, w, hn0, hst0 ▸ hst, hnow ▸ hw⟩)

/-- A notice that begins withdrawal in a test does so now, which is not its limit. -/
theorem testNotice_limitsIn {f : Nat → Bool} (i : Nat) (hs : s.LimitsIn f) :
    (testNotice i s).LimitsIn f := by
  intro j hj
  obtain ⟨nt, w, hn, hst, hw⟩ := (State.withdrawLimitReached_iff _ j).1 hj
  have hnow : (testNotice i s).now = s.now := take_now s (.noticeTest i)
  rw [hnow] at hw
  rw [State.notice_testNotice] at hn
  split at hn
  · next e =>
    subst e
    cases h0 : s.notice j with
    | none => rw [h0] at hn; cases hn
    | some nt0 =>
      rw [h0, Option.bind_some] at hn
      unfold State.tested at hn
      split at hn
      · split at hn
        · cases hn
        · split at hn
          · cases hn
            cases hst
          · next hp _ _ =>
            cases hn
            rw [hp] at hst
            cases hst
      · split at hn
        · unfold Notice.withdrawn at hn
          split at hn
          · cases hn
          · cases hn
            cases hst
            have : s.time.tickCount = s.now := rfl
            omega
        · next hp _ =>
          cases hn
          rw [hp] at hst
          cases hst
      · cases hn
        exact hs j ((State.withdrawLimitReached_iff s j).2 ⟨nt, w, h0, hst, hw⟩)
  · exact hs j ((State.withdrawLimitReached_iff s j).2 ⟨nt, w, hn, hst, hw⟩)

theorem take_limitsIn {f : Nat → Bool} (w : Work) (s : State) (hs : s.LimitsIn f) :
    (s.take w).LimitsIn f := by
  cases hw : Work.isNoticeTest w with
  | false => exact (follows_take hw s).limitsIn (take_now s w) hs
  | true =>
    cases w with
    | noticeTest i => exact testNotice_limitsIn i hs
    | trimExpiry | timedFire | minute | stream _ | announce _ | withdrawLimit _ | confirmLimit _
    | silence | markWatch => cases hw

theorem heldFrom_takeAll (ws : List Work) (s : State) : s.HeldFrom (s.takeAll ws) :=
  takeAll_keeps (P := s.HeldFrom) (fun w t ht => ht.trans (heldFrom_take w t)) ws s (.refl s)

/-- After the confirm limits of a list of ports were tested, no hold of theirs is at its limit. -/
theorem takeAll_confirmed (l : List Port) (s : State) (p : Port) (hp : p ∈ l) (h : Held)
    (hheld : ((s.takeAll (l.map Work.confirmLimit)).port p).held = some h) : s.now < h.limit := by
  induction l generalizing s with
  | nil => cases hp
  | cons q l ih =>
    have hrest : s.takeAll ((q :: l).map Work.confirmLimit) =
        (s.take (.confirmLimit q)).takeAll (l.map Work.confirmLimit) := rfl
    rw [hrest] at hheld
    by_cases hl : p ∈ l
    · have := ih _ hl hheld
      rwa [take_now] at this
    · have hpq : p = q := by
        rcases List.mem_cons.1 hp with e | e
        · exact e
        · exact absurd e hl
      subst hpq
      obtain ⟨h0, hh0, -, hlimit⟩ := heldFrom_takeAll (l.map Work.confirmLimit) _ p h hheld
      have htaken : s.take (.confirmLimit p) = s.setPort p ((s.port p).limited s.now) :=
        testConfirmLimit_limited p s
      rw [htaken, State.port_setPort_self, (PortState.limited_parts (s.port p) _ s.now rfl rfl).1] at hh0
      split at hh0
      · cases hh0
      · next hlate =>
        rw [hh0] at hlate
        simp only [Option.any_some, decide_eq_true_eq] at hlate
        omega

/-- The works of a boundary that come before the limit tests. -/
def State.worksBeforeLimits (s : State) (second : Bool) : List Work :=
  (if s.time.trimSpent then [Work.trimExpiry] else []) ++
    (if second then s.secondWorks else []) ++ engineWorks

/-- After a boundary with nothing left no notice is at its withdraw limit and no hold at its own. -/
theorem works_nil_limits (s : State) (second : Bool) (hlen : s.table.slots.length = 96) :
    ((s.works second []).LimitsIn fun _ => false) ∧
      ∀ p h, ((s.works second []).port p).held = some h → s.now < h.limit := by
  let slots := slotNumbers.filter s.withdrawLimitReached
  let ports := [Port.site, Port.traffic].filter s.confirmLimitReached
  let c := s.takeAll (s.worksBeforeLimits second)
  let d := c.takeAll (slots.map Work.withdrawLimit)
  let e := d.takeAll (ports.map Work.confirmLimit)
  have hworks : s.works second [] = { e.takeAll [.silence, .markWatch] with due := [] } := by
    have hnone : ∀ l : List Work, l.filter (fun w => !([] : List Work).contains w) = l := by simp
    have hleft : ∀ l : List Work, l.filter (fun w => ([] : List Work).contains w) = [] := by simp
    rw [State.works, hnone, hleft, State.boundaryWorks, takeAll_append, takeAll_append, takeAll_append]
    rfl
  have hc : c.LimitsIn s.withdrawLimitReached :=
    takeAll_keeps (P := fun t => t.LimitsIn s.withdrawLimitReached) (fun w t h => take_limitsIn w t h)
      _ s fun _ h => h
  have hcnow : c.now = s.now := takeAll_now ..
  have hd : d.LimitsIn fun _ => false := by
    intro i hi
    have hfreed : d = c.freed fun j => slots.contains j && c.withdrawLimitReached j :=
      takeAll_withdrawLimits c slots
    rw [hfreed, State.withdrawLimitReached_freed, Bool.and_eq_true] at hi
    obtain ⟨hnot, hreached⟩ := hi
    have hs := hc i hreached
    obtain ⟨nt, w, hn, -⟩ := (State.withdrawLimitReached_iff s i).1 hs
    have hlt : i < 96 := hlen ▸ State.lt_of_notice hn
    have hmem : i ∈ slots := List.mem_filter.2 ⟨List.mem_range.2 hlt, hs⟩
    rw [List.contains_iff_mem.2 hmem, hreached] at hnot
    cases hnot
  have hfollow : d.Follows (s.works second []) := by
    rw [hworks]
    have h := (follows_takeAll (ports.map Work.confirmLimit) (fun w hw => by
      obtain ⟨p, -, rfl⟩ := List.mem_map.1 hw
      rfl) d).trans (follows_takeAll [.silence, .markWatch] (by simp [Work.isNoticeTest]) e)
    exact ⟨h.notice, h.held⟩
  have hnow : (s.works second []).now = d.now := by
    have h1 : (s.works second []).now = s.now := takeAll_now ..
    have h2 : d.now = c.now := takeAll_now ..
    rw [h1, h2, hcnow]
  refine ⟨hfollow.limitsIn hnow hd, fun p h hp => ?_⟩
  have hlast : e.HeldFrom (s.works second []) := by
    rw [hworks]
    exact heldFrom_takeAll [.silence, .markWatch] e
  obtain ⟨h1, hh1, -, hl1⟩ := hlast p h hp
  obtain ⟨h2, hh2, -, hl2⟩ := ((heldFrom_takeAll (s.worksBeforeLimits second) s).trans
    ((heldFrom_takeAll _ c).trans (heldFrom_takeAll _ d))) p h1 hh1
  by_cases hr : s.confirmLimitReached p = true
  · have hmem : p ∈ ports := List.mem_filter.2 ⟨by cases p <;> simp, hr⟩
    have hlt := takeAll_confirmed ports d p hmem h1 hh1
    have hdnow : d.now = s.now := (takeAll_now ..).trans hcnow
    omega
  · rw [State.confirmLimitReached_eq, hh2] at hr
    simp only [Option.any_some, decide_eq_true_eq] at hr
    omega

theorem begun_now (s : State) (lines : Lines) : (s.begun lines).now = s.time.tickCount + 1 := by
  rw [State.now, begun_time, (flushDue_steady s).boundary, SiteTime.boundary_eq]

/-- The blocks that a boundary's beginning leaves as they are. -/
theorem begun_blocks (s : State) (lines : Lines) :
    (s.begun lines).table = s.flushDue.table ∧ (s.begun lines).streams = s.flushDue.streams ∧
      (s.begun lines).map = s.flushDue.map ∧ (s.begun lines).store = s.flushDue.store ∧
      (s.begun lines).announce = s.flushDue.announce ∧
      (s.begun lines).monitor = s.flushDue.monitor := by
  rw [State.begun_eq]
  exact ⟨rfl, rfl, rfl, rfl, rfl, rfl⟩

/-- Settles O8: each row takes its work by its condition; a boundary's limit tests find what stood at its
beginning, and what is left of it is not at its limit. -/
theorem trimsWithdrawalsAndHoldsEndAtTheirLimits :
    Obligations.TrimsWithdrawalsAndHoldsEndAtTheirLimits := by
  refine ⟨fun v s hp => ⟨fun h => ?spent, fun k h => ?running, fun h => ?absent⟩,
    ⟨fun i w nt s hp hn hst => ⟨fun hw => ?ended, fun hw => ?early⟩,
      fun p h s hp hh => ⟨fun hl => ?late, fun hl => ?soon⟩⟩,
    fun lines s hp ht => ?tests, fun lines s hp ht => ?none⟩
  case spent =>
    have hspent : s.time.trimSpent = true := s.time.trimSpent_iff.2 ⟨v, h⟩
    refine (running_takeWhen_due hp .trimExpiry hspent).trans ?_
    rw [State.take, SiteTime.dropTrim, if_pos hspent]
    rfl
  case running =>
    refine running_takeWhen_idle _ .trimExpiry (Bool.eq_false_iff.2 fun hs => ?_)
    obtain ⟨v', hv⟩ := s.time.trimSpent_iff.1 hs
    rw [h] at hv
    cases hv
  case absent =>
    refine running_takeWhen_idle _ .trimExpiry (Bool.eq_false_iff.2 fun hs => ?_)
    obtain ⟨v', hv⟩ := s.time.trimSpent_iff.1 hs
    rw [h] at hv
    cases hv
  case ended =>
    have hreached := (State.withdrawLimitReached_iff s i).2 ⟨nt, w, hn, hst, hw⟩
    refine (running_takeWhen_due hp (.withdrawLimit i) hreached).trans ?_
    rw [State.take, testWithdrawLimit, if_pos hreached, State.cutRuns_eq]
    rfl
  case early =>
    refine running_takeWhen_idle _ (.withdrawLimit i) (Bool.eq_false_iff.2 fun hr => ?_)
    obtain ⟨nt', w', hn', hst', hw'⟩ := (State.withdrawLimitReached_iff s i).1 hr
    cases hn.symm.trans hn'
    cases hst.symm.trans hst'
    have : s.now = s.time.tickCount := rfl
    omega
  case late =>
    have hreached : s.confirmLimitReached p = true := by
      rw [State.confirmLimitReached_eq, hh]
      exact decide_eq_true hl
    refine (running_takeWhen_due hp (.confirmLimit p) hreached).trans ?_
    rw [State.take, testConfirmLimit_eq, if_pos hreached]
    rfl
  case soon =>
    refine running_takeWhen_idle _ (.confirmLimit p) ?_
    rw [State.confirmLimitReached_eq, hh]
    exact decide_eq_false (Nat.not_le.2 hl)
  case tests =>
    intro r
    let b := s.begun lines
    have hnow : b.now = s.time.tickCount + 1 := begun_now s lines
    obtain ⟨htable, hstreams, hmap, hstore, hannounce, hmonitor⟩ :
        b.table = r.table ∧ b.streams = r.streams ∧ b.map = r.map ∧ b.store = r.store ∧
          b.announce = r.announce ∧ b.monitor = r.monitor := begun_blocks s lines
    have hlen : b.table.slots.length = 96 := by
      rw [htable]
      exact tableSound_length_flushDue ht
    refine ⟨_, exec_tickBoundary hp lines _, ?_⟩
    rw [works_limits _ _ hlen]
    refine ⟨hnow, ?_⟩
    intro ended late
    have hbnotice : ∀ i, b.notice i = r.notice i := fun i => by
      rw [State.notice, htable]
      rfl
    have hended : b.withdrawLimitReached = ended := by
      funext i
      rw [State.withdrawLimitReached_eq, hbnotice]
      rfl
    have hstream : ∀ n, b.stream n = r.stream n := fun n => by
      rw [State.stream, hstreams]
      rfl
    refine ⟨fun i => ?_, ?_, fun n => ?_, fun q => ?_, ?_, ?_, ?_, ?_⟩
    · rw [← hended, ← hbnotice]
      exact State.notice_freed ..
    · rw [← htable]
      rfl
    · rw [← hended, ← hstream]
      exact Four.get_tab ..
    · have hparts := PortState.limited_parts (r.port q) (b.port q) b.now (begun_port s lines q).1
        (begun_port s lines q).2
      cases q <;> exact hparts
    · exact hmap
    · exact hstore
    · exact hannounce
    · exact hmonitor
  case none =>
    have hlen : (s.begun lines).table.slots.length = 96 := by
      rw [(begun_blocks s lines).1]
      exact tableSound_length_flushDue ht
    obtain ⟨hslots, hports⟩ := works_nil_limits (s.begun lines) (decide (19 ≤ s.flushDue.time.tickNumber)) hlen
    have hnow : ((s.begun lines).works (decide (19 ≤ s.flushDue.time.tickNumber)) []).now =
        (s.begun lines).now := takeAll_now ..
    refine ⟨_, exec_tickBoundary hp lines _, fun i nt w hn hst => ?_, fun p h hh => ?_⟩
    · by_contra hlt
      have := hslots i ((State.withdrawLimitReached_iff _ i).2 ⟨nt, w, hn, hst, Nat.not_lt.1 hlt⟩)
      cases this
    · have := hports p h hh
      rwa [← hnow] at this

end Sys2Proof.Machine
end

section
/-! SUPPORT. The tests of notices against site seconds (01 R6 to R8): the proof of O9. -/

namespace Sys2Proof.Machine

variable {s t u : State} {i : Nat} {nt : Notice}

/-! ### The rows -/

theorem startDue_iff (h : s.notice i = some nt) :
    s.startDue i = true ↔ Work.noticeTest i ∈ s.due ∧ nt.startReached s.time.seconds = true := by
  unfold State.startDue
  rw [h]
  dsimp only
  rw [Bool.and_eq_true, State.outstanding_iff]

theorem endDue_iff (h : s.notice i = some nt) :
    s.endDue i = true ↔
      Work.noticeTest i ∈ s.due ∧ nt.state = .live ∧ nt.endsAt ≤ s.time.seconds := by
  unfold State.endDue Notice.endReached
  rw [h]
  dsimp only
  rw [Bool.and_eq_true, State.outstanding_iff, Bool.and_eq_true, Notice.isLive_iff, decide_eq_true_eq]

theorem notDue_of_notOutstanding (h : Work.noticeTest i ∉ s.due) :
    s.startDue i = false ∧ s.endDue i = false := by
  cases hn : s.notice i with
  | none => simp [State.startDue, State.endDue, hn]
  | some nt =>
    exact ⟨Bool.eq_false_iff.2 fun hs => h ((startDue_iff hn).1 hs).1,
      Bool.eq_false_iff.2 fun hs => h ((endDue_iff hn).1 hs).1⟩

/-- A PENDING notice whose end has been reached (01 R6). -/
theorem testNotice_lapsed (h : s.notice i = some nt) (hst : nt.state = .pending)
    (he : nt.endsAt ≤ s.time.seconds) : testNotice i s = s.setSlot i none := by
  have hr : nt.startReached s.time.seconds = true := (nt.startReached_iff _ hst).2 (.inl he)
  simp only [testNotice, h, hr, if_true, State.startNotice, if_pos he]

/-- A PENDING notice whose start has been reached (01 R6). -/
theorem testNotice_starts (h : s.notice i = some nt) (hst : nt.state = .pending)
    (he : s.time.seconds < nt.endsAt) (hb : nt.startsAt.getD 0 ≤ s.time.seconds) :
    testNotice i s = s.setSlot i (some { nt with
      state := .live
      records := Four.tab fun n =>
        if s.onStream n nt.areas then some (freshAt s.time.tickCount) else none }) := by
  have hr : nt.startReached s.time.seconds = true := (nt.startReached_iff _ hst).2 (.inr hb)
  simp only [testNotice, h, hr, if_true, State.startNotice, if_neg (Nat.not_le.2 he)]
  rw [State.freshRecords_eq s _ rfl]
  rfl

/-- A LIVE notice whose end has been reached (01 R7). -/
theorem testNotice_ends (h : s.notice i = some nt) (hst : nt.state = .live)
    (he : nt.endsAt ≤ s.time.seconds) :
    testNotice i s = s.replaced i (nt.withdrawn s.table.withdrawCells s.time.tickCount) := by
  have hr : nt.startReached s.time.seconds = false := by simp [Notice.startReached, hst]
  have hend : nt.endReached s.time.seconds = true := by simp [Notice.endReached, Notice.isLive, hst, he]
  simp only [testNotice, h, hr, hend, Bool.false_eq_true, if_false, if_true]
  exact s.beginWithdrawal_eq i nt h

/-! ### All slots -/

/-- The slot holds a LIVE notice whose end has been reached. -/
def State.liveEnded (s : State) : Nat → Bool :=
  s.holds fun nt => decide (nt.state = .live ∧ nt.endsAt ≤ s.time.seconds)

/-- The test of a slot replaces its content; where a LIVE notice ends, it ends its holds and runs too. -/
theorem testNotice_cases (i : Nat) (s : State) :
    s.liveEnded i = true ∧ (∃ x, testNotice i s = s.replaced i x) ∨
      s.liveEnded i = false ∧ (testNotice i s = s ∨ ∃ x, testNotice i s = s.setSlot i x) := by
  unfold State.liveEnded State.holds
  cases h : s.notice i with
  | none => exact .inr ⟨rfl, .inl (by rw [testNotice, h])⟩
  | some nt =>
    rw [Option.any_some]
    by_cases he : nt.state = .live ∧ nt.endsAt ≤ s.time.seconds
    · exact .inl ⟨decide_eq_true he, _, testNotice_ends h he.1 he.2⟩
    · refine .inr ⟨decide_eq_false he, ?_⟩
      simp only [testNotice, h]
      split
      · unfold State.startNotice
        rw [h]
        dsimp only
        split
        · exact .inr ⟨_, rfl⟩
        · exact .inr ⟨_, rfl⟩
      · split
        · next hend =>
          simp only [Notice.endReached, Bool.and_eq_true, Notice.isLive_iff, decide_eq_true_eq] at hend
          exact absurd hend he
        · exact .inl rfl

/-- The part when the tests have come to the slots of `f`. -/
structure State.TestedIn (s t : State) (f : Nat → Bool) : Prop where
  notice : ∀ i, f i = false → t.notice i = s.notice i
  streams : t.streams = Four.tab fun n => (s.stream n).runWithout fun i => f i && s.liveEnded i
  port : ∀ q, t.port q = (s.port q).withoutHolds fun i => f i && s.liveEnded i
  rest : t = { s with table := { s.table with slots := t.table.slots }, streams := t.streams, ports := t.ports }

theorem State.testedIn_none (s : State) : s.TestedIn s fun _ => false where
  notice _ _ := rfl
  streams := by
    simp only [Bool.false_and]
    exact stream_runWithout_none s
  port q := by simp only [Bool.false_and, PortState.withoutHolds_none]
  rest := rfl

theorem PortState.withoutHolds_held (f : Nat → Bool) (x : PortState) :
    (x.withoutHolds f).held = x.held.filter fun h => !f h.slot := by
  unfold PortState.withoutHolds
  cases h : x.held with
  | none => exact h
  | some held => cases hf : f held.slot <;> simp [PortState.heldAnswered, h, hf, Option.filter_some]

/-- One more slot's content, with its runs and its holds if a LIVE notice ended there. -/
theorem State.TestedIn.add {f : Nat → Bool} (h : s.TestedIn t f)
    (hnotice : ∀ j, j ≠ i → u.notice j = t.notice j)
    (hstreams : u.streams = Four.tab fun n => (t.stream n).runWithout fun j =>
      j == i && s.liveEnded j)
    (hport : ∀ q, u.port q = (t.port q).withoutHolds fun j => j == i && s.liveEnded j)
    (hrest : u = { t with
      table := { t.table with slots := u.table.slots }, streams := u.streams, ports := u.ports }) :
    s.TestedIn u fun j => f j || j == i where
  notice j hj := by
    obtain ⟨hfj, hne⟩ := Bool.or_eq_false_iff.1 hj
    rw [hnotice j (by simpa using hne), h.notice j hfj]
  streams := by
    rw [hstreams]
    refine Four.ext_get fun n => ?_
    rw [Four.get_tab, Four.get_tab, State.stream, h.streams, Four.get_tab,
      Stream.runWithout_runWithout]
    exact congrArg (fun g => (s.stream n).runWithout g) (or_and_holds f _ i)
  port q := by
    rw [hport, h.port, PortState.withoutHolds_withoutHolds]
    exact congrArg (fun g => (s.port q).withoutHolds g) (or_and_holds f _ i)
  rest := hrest.trans (by rw [h.rest])

/-- One more slot tested, as it was at the start. -/
theorem State.TestedIn.step {f : Nat → Bool} (h : s.TestedIn t f) (hf : f i = false) :
    s.TestedIn (testNotice i t) fun j => f j || j == i := by
  have hnotice : ∀ j, j ≠ i → (testNotice i t).notice j = t.notice j := by
    intro j hj
    rw [State.notice_testNotice, if_neg hj]
  have hsame : t.liveEnded i = s.liveEnded i := by
    unfold State.liveEnded State.holds
    rw [h.notice i hf, show t.time = s.time by rw [h.rest]]
  rcases testNotice_cases i t with ⟨hend, x, hx⟩ | ⟨hend, hx⟩
  · rw [hsame] at hend
    refine h.add hnotice ?_ (fun q => ?_) (by rw [hx]; rfl)
    · rw [hx, State.streams_replaced]
      exact congrArg (fun g => Four.tab fun n => (t.stream n).runWithout g) (eq_and_holds_true hend).symm
    · have hport : (testNotice i t).port q = (t.port q).withoutHold i := by
        rw [hx]
        cases q <;> rfl
      rw [hport, PortState.withoutHold_eq]
      exact congrArg (fun g => (t.port q).withoutHolds g) (eq_and_holds_true hend).symm
  · rw [hsame] at hend
    have hslot : ∃ slots, testNotice i t = { t with table := { t.table with slots := slots } } := by
      rcases hx with hx | ⟨x, hx⟩
      · exact ⟨_, hx⟩
      · exact ⟨_, hx⟩
    obtain ⟨slots, hslot⟩ := hslot
    have hstreams : (testNotice i t).streams = t.streams := by rw [hslot]
    have hports : (testNotice i t).ports = t.ports := by rw [hslot]
    refine h.add hnotice ?_ (fun q => ?_) (by rw [hslot])
    · rw [hstreams, stream_runWithout_none t]
      exact congrArg (fun g => Four.tab fun n => (t.stream n).runWithout g) (eq_and_holds_false hend).symm
    · rw [State.port, hports]
      exact (t.port q).withoutHolds_none.symm.trans
        (congrArg (fun g => (t.port q).withoutHolds g) (eq_and_holds_false hend).symm)

/-- All slots tested, lowest first. -/
theorem testNotices_testedIn (s : State) :
    s.TestedIn s.testNotices fun j => decide (j < Config.slots) := by
  have key : ∀ k : Nat, s.TestedIn ((List.range k).foldl (fun t i => testNotice i t) s)
      fun j => decide (j < k) := by
    intro k
    induction k with
    | zero => exact s.testedIn_none
    | succ k ih =>
      have hnext : (fun j => decide (j < k) || j == k) = fun j => decide (j < k + 1) := by
        funext j
        rw [Bool.eq_iff_iff]
        simp only [Bool.or_eq_true, decide_eq_true_eq, beq_iff_eq]
        omega
      rw [List.range_succ, List.foldl_append, ← hnext]
      exact ih.step (i := k) (by simp)
  exact key Config.slots

/-- The notice tests of a second boundary, alone. -/
theorem boundaryWorks_notices (s : State) :
    (s.boundaryWorks true).filter Work.isNoticeTest = slotNumbers.map Work.noticeTest := by
  have htrim : (if s.time.trimSpent then [Work.trimExpiry] else []).filter Work.isNoticeTest = [] := by
    split <;> rfl
  have htests : (slotNumbers.map Work.noticeTest).filter Work.isNoticeTest =
      slotNumbers.map Work.noticeTest := List.filter_eq_self.2 fun w hw => by
    obtain ⟨i, -, rfl⟩ := List.mem_map.1 hw
    rfl
  have hfire : [Work.timedFire].filter Work.isNoticeTest = [] := rfl
  have hminute : (if s.time.seconds % 60 = 0 then [Work.minute] else []).filter Work.isNoticeTest = [] := by
    split <;> rfl
  have hslots : ∀ l : List Nat, (l.map Work.withdrawLimit).filter Work.isNoticeTest = [] := fun l =>
    List.filter_eq_nil_iff.2 fun w hw => by
      obtain ⟨i, -, rfl⟩ := List.mem_map.1 hw
      exact Bool.false_ne_true
  have hports : ∀ l : List Port, (l.map Work.confirmLimit).filter Work.isNoticeTest = [] := fun l =>
    List.filter_eq_nil_iff.2 fun w hw => by
      obtain ⟨p, -, rfl⟩ := List.mem_map.1 hw
      exact Bool.false_ne_true
  have hengines : engineWorks.filter Work.isNoticeTest = [] := rfl
  have hcounts : [Work.silence, Work.markWatch].filter Work.isNoticeTest = [] := rfl
  simp only [State.boundaryWorks, State.secondWorks, if_true, List.filter_append, htrim, htests, hfire,
    hminute, hengines, hslots, hports, hcounts, List.nil_append, List.append_nil]

theorem takeAll_noticeTests (s : State) : s.takeAll (slotNumbers.map Work.noticeTest) = s.testNotices := by
  rw [State.takeAll, List.foldl_map]
  rfl

/-- A second boundary that takes the notice tests alone. -/
theorem works_notices (s : State) :
    s.works true (othersThan Work.isNoticeTest) =
      { s.testNotices with due := (s.boundaryWorks true).filter fun w => !Work.isNoticeTest w } := by
  rw [State.works_othersThan, boundaryWorks_notices, takeAll_noticeTests]

/-! ### Nothing left to test -/

/-- A notice that no test at site seconds `now` changes. -/
def Notice.Current (nt : Notice) (now : Nat) : Prop :=
  (nt.state = .pending → now < nt.startsAt.getD 0 ∧ now < nt.endsAt) ∧
    (nt.state = .live → now < nt.endsAt)

theorem tested_current {nt' : Notice} (h : s.tested nt = some nt') : nt'.Current s.time.seconds := by
  unfold State.tested at h
  split at h
  · next hst =>
    split at h
    · cases h
    · next he =>
      split at h
      · cases h
        exact ⟨fun hp => by (cases hp), fun _ => Nat.not_le.1 he⟩
      · next hb =>
        cases h
        refine ⟨fun _ => ⟨Nat.not_le.1 hb, Nat.not_le.1 he⟩, fun hl => ?_⟩
        rw [hst] at hl
        cases hl
  · next hst =>
    split at h
    · unfold Notice.withdrawn at h
      split at h
      · cases h
      · cases h
        exact ⟨fun hp => by (cases hp), fun hl => by (cases hl)⟩
    · next he =>
      cases h
      refine ⟨fun hp => ?_, fun _ => Nat.not_le.1 he⟩
      rw [hst] at hp
      cases hp
  · next hst =>
    cases h
    refine ⟨fun hp => ?_, fun hl => ?_⟩
    · rw [hst] at hp
      cases hp
    · rw [hst] at hl
      cases hl

/-- The notice in slot `i`, if any, is one that no test changes. -/
def State.CurrentAt (s : State) (i : Nat) : Prop :=
  ∀ nt, s.notice i = some nt → nt.Current s.time.seconds

theorem take_seconds (w : Work) (s : State) : (s.take w).time.seconds = s.time.seconds := by
  rw [(take_steady s w).same]

theorem testNotice_current (i : Nat) (s : State) : (testNotice i s).CurrentAt i := by
  intro nt hn
  rw [State.notice_testNotice, if_pos rfl] at hn
  have hsec : (testNotice i s).time.seconds = s.time.seconds := take_seconds (.noticeTest i) s
  obtain ⟨nt0, -, h⟩ := Option.bind_eq_some_iff.1 hn
  rw [hsec]
  exact tested_current h

theorem take_currentAt (w : Work) (s : State) (h : s.CurrentAt i) : (s.take w).CurrentAt i := by
  cases hw : Work.isNoticeTest w with
  | false =>
    intro nt hn
    obtain ⟨nt0, hn0, hst, hb, he⟩ := (follows_take hw s).notice i nt hn
    have hcurrent := h nt0 hn0
    rw [take_seconds]
    unfold Notice.Current at hcurrent ⊢
    rwa [hst, hb, he]
  | true =>
    cases w with
    | noticeTest j =>
      by_cases e : i = j
      · subst e
        exact testNotice_current i s
      · intro nt hn
        rw [take_seconds]
        refine h nt ?_
        rwa [show (s.take (.noticeTest j)).notice i = s.notice i from
          (State.notice_testNotice j s i).trans (if_neg e)] at hn
    | trimExpiry | timedFire | minute | stream _ | announce _ | withdrawLimit _ | confirmLimit _
    | silence | markWatch => cases hw

theorem takeAll_currentAt (ws : List Work) (s : State) (hi : .noticeTest i ∈ ws) :
    (s.takeAll ws).CurrentAt i := by
  obtain ⟨before, after, rfl⟩ := List.append_of_mem hi
  rw [takeAll_append]
  exact takeAll_keeps (P := fun t => t.CurrentAt i) (fun w t h => take_currentAt w t h) after _
    (testNotice_current i _)

/-- Site seconds at a second boundary's beginning (07 R147). -/
theorem begun_seconds (lines : Lines) (h : s.time.tickNumber = 19) :
    (s.begun lines).time.seconds = min 4294967295 (s.time.seconds + 1) := by
  rw [begun_time, (flushDue_steady s).boundary, SiteTime.boundary_eq]
  simp only [h, Nat.le_refl, if_true]

/-- Settles O9: a row takes its slot's test when that is outstanding and finds what the row is for; at a second
boundary the slots are tested one by one, and no other work undoes what a test has found. -/
theorem noticesStartAndExpire : Obligations.NoticesStartAndExpire := by
  refine ⟨fun i s hp h => ?idle, fun i nt s hp hdue hn hst => ⟨fun he => ?lapsed, fun he hb => ?starts,
    fun he hb => ?waits⟩, fun i nt s hp hdue hn hst => ⟨fun he => ?ends, fun he => ?lives⟩,
    fun lines s hp ht h19 => ?tests, fun lines s hp ht h19 => ?none⟩
  case idle =>
    obtain ⟨hstart, hend⟩ := notDue_of_notOutstanding h
    exact ⟨running_takeWhen_idle _ _ hstart, running_takeWhen_idle _ _ hend⟩
  case lapsed =>
    have hd := (startDue_iff hn).2 ⟨hdue, (nt.startReached_iff _ hst).2 (.inl he)⟩
    refine (running_takeWhen_due hp (.noticeTest i) hd).trans ?_
    rw [State.take, testNotice_lapsed hn hst he]
    rfl
  case starts =>
    have hd := (startDue_iff hn).2 ⟨hdue, (nt.startReached_iff _ hst).2 (.inr hb)⟩
    refine (running_takeWhen_due hp (.noticeTest i) hd).trans ?_
    have hcarry : ∀ n, s.onStream n nt.areas ↔ (s.stream n).state ≠ .stopped ∧
        (s.prog n).carries = true ∧ (s.prog n).coverage &&& nt.areas ≠ 0#16 := fun n =>
      ⟨fun ⟨a, b, c⟩ => ⟨c, a, b⟩, fun ⟨c, a, b⟩ => ⟨a, b, c⟩⟩
    rw [State.take, testNotice_starts hn hst he hb]
    simp only [hcarry]
    rfl
  case waits =>
    refine running_takeWhen_idle _ (.noticeTest i) (Bool.eq_false_iff.2 fun hd => ?_)
    rcases (nt.startReached_iff _ hst).1 ((startDue_iff hn).1 hd).2 with h | h <;> omega
  case ends =>
    have hd := (endDue_iff hn).2 ⟨hdue, hst, he⟩
    refine (running_takeWhen_due hp (.noticeTest i) hd).trans ?_
    rw [State.take, testNotice_ends hn hst he]
    rfl
  case lives =>
    refine running_takeWhen_idle _ (.noticeTest i) (Bool.eq_false_iff.2 fun hd => ?_)
    have := ((endDue_iff hn).1 hd).2.2
    omega
  case tests =>
    intro r later
    have htick := exec_tickBoundary_second hp lines later h19
    have hsecond := (exec_secondBoundary lines later (by omega)).trans htick
    rw [works_notices] at htick hsecond
    obtain ⟨b, hb⟩ : ∃ b, b = s.begun lines := ⟨_, rfl⟩
    obtain ⟨htable, hstreams, hmap, hstore, hannounce, hmonitor⟩ :
        b.table = r.table ∧ b.streams = r.streams ∧ b.map = r.map ∧ b.store = r.store ∧
          b.announce = r.announce ∧ b.monitor = r.monitor := hb ▸ begun_blocks s lines
    have hlen : r.table.slots.length = 96 := tableSound_length_flushDue ht
    have hslot : ∀ i nt, r.notice i = some nt → i < 96 := fun i nt h => hlen ▸ State.lt_of_notice h
    have hseconds : b.time.seconds = min 4294967295 (s.time.seconds + 1) := hb ▸ begun_seconds lines h19
    have hports : ∀ q, (b.port q).held = (r.port q).held := fun q => hb ▸ (begun_port s lines q).1
    have hbtested : b.tested = (r.setTime b.time).tested := by
      rw [hb, State.begun_eq]
      rfl
    rw [← hb] at htick hsecond
    have htested := testNotices_testedIn b
    obtain ⟨t, ht'⟩ : ∃ t, t = b.testNotices := ⟨_, rfl⟩
    rw [← ht'] at htick hsecond htested
    have htime : t.time = b.time := by rw [htested.rest]
    refine ⟨_, htick, hsecond, htime ▸ hseconds, ?_⟩
    intro ended
    have hnotice : ∀ i, b.notice i = r.notice i := fun i => by
      rw [State.notice, htable]
      rfl
    have hended : (fun i => decide (i < Config.slots) && b.liveEnded i) = ended := by
      funext i
      have hlive : b.liveEnded i = ended i := by
        unfold State.liveEnded State.holds
        rw [hnotice, ← htime]
      cases h : r.notice i with
      | none =>
        have hnone : ended i = false := by
          rw [← hlive, State.liveEnded, State.holds, hnotice, h]
          rfl
        rw [hlive, hnone, Bool.and_false]
      | some nt => rw [decide_eq_true (show i < Config.slots from hslot i nt h), Bool.true_and, hlive]
    refine ⟨fun i => ?_, ?_, fun n => ?_, fun q => ?_, ?_, ?_, ?_, ?_⟩
    · change t.notice i = (r.notice i).bind (r.setTime t.time).tested
      rw [htime, ← hbtested, ← hnotice, ht']
      refine (State.notice_testNotices b i).trans ?_
      split
      · rfl
      · next hi =>
        cases h : b.notice i with
        | none => rfl
        | some nt => exact absurd (hslot i nt ((hnotice i).symm.trans h)) hi
    · rw [← htable]
      exact congrArg State.table htested.rest
    · change t.streams.get n = _
      rw [htested.streams, Four.get_tab, hended, State.stream, hstreams]
      rfl
    · have hheld : (t.port q).held = (r.port q).held.filter fun h =>
          !(decide (h.slot < Config.slots) && b.liveEnded h.slot) := by
        rw [htested.port, PortState.withoutHolds_held, hports]
      refine hheld.trans ?_
      exact congrArg (fun g : Nat → Bool => (r.port q).held.filter fun h => !g h.slot) hended
    · exact (congrArg State.map htested.rest).trans hmap
    · exact (congrArg State.store htested.rest).trans hstore
    · exact (congrArg State.announce htested.rest).trans hannounce
    · exact (congrArg State.monitor htested.rest).trans hmonitor
  case none =>
    refine ⟨_, exec_tickBoundary_second hp lines [] h19, ?_, fun i nt hn => ?_⟩
    · rw [exec_secondBoundary lines [] (by omega), exec_tickBoundary_second hp lines [] h19]
    · have hlen : ((s.begun lines).works true []).table.slots.length = 96 := by
        refine (evolves_takeAll _ (s.begun lines)).length.trans ?_
        rw [(begun_blocks s lines).1]
        exact tableSound_length_flushDue ht
      have hlt : i < 96 := hlen ▸ State.lt_of_notice hn
      refine takeAll_currentAt _ (s.begun lines) ?_ nt hn
      rw [List.mem_filter]
      refine ⟨?_, rfl⟩
      simp [State.boundaryWorks, State.secondWorks, slotNumbers, Config.slots, hlt]

end Sys2Proof.Machine
end

section
/-! SUPPORT. Timed changes (05 R110 to R116): a test of the store as one write of its entries, of the current
variants, of the segment counters and of the attention unit; the proofs of O10 and O44. -/

namespace Sys2Proof.Machine

variable {s t u : State}

/-! ### One entry -/

theorem TimedEntry.fires_iff (e : TimedEntry) (now : Nat) :
    e.fires now = true ↔ e.inUse = true ∧ e.target ≤ now := by
  rw [TimedEntry.fires, Bool.and_eq_true, decide_eq_true_eq]

theorem TimedEntry.tested_eq (e : TimedEntry) (now : Nat) :
    e.tested now = if e.fires now then e.advance now else e := by
  unfold TimedEntry.tested TimedEntry.advance
  by_cases h : e.inUse = true ∧ e.target ≤ now
  · rw [if_pos h, if_pos ((e.fires_iff now).2 h)]
    dsimp only
    by_cases hp : e.period = 0
    · rw [if_pos (.inl hp), if_pos hp]
    · rw [if_neg hp]
      by_cases hn : e.target + ((now - e.target) / e.period + 1) * e.period > Config.maxSeconds
      · rw [if_pos (.inr hn), if_pos hn]
      · rw [if_neg (by rintro (h' | h'); exacts [hp h', hn h']), if_neg hn]
  · rw [if_neg h, if_neg fun hc => h ((e.fires_iff now).1 hc)]

theorem TimedEntry.tested_prog (e : TimedEntry) (now : Nat) : (e.tested now).prog = e.prog := by
  unfold TimedEntry.tested
  split
  · dsimp only
    split <;> rfl
  · rfl

/-- The first time later than `now` is `now` or less than a period away from it. -/
theorem next_target (target now period : Nat) (h : target ≤ now) (hp : period ≠ 0) :
    let next := target + ((now - target) / period + 1) * period
    now < next ∧ next ≤ now + period ∧ (next - target) % period = 0 := by
  intro next
  have hpos : 0 < period := Nat.pos_of_ne_zero hp
  have hdiv := Nat.div_add_mod (now - target) period
  have hmod := Nat.mod_lt (now - target) hpos
  have hnext : next = target + (period * ((now - target) / period) + period) := by
    simp only [next]
    rw [Nat.add_mul, Nat.one_mul, Nat.mul_comm]
  refine ⟨by omega, by omega, ?_⟩
  have hsub : next - target = ((now - target) / period + 1) * period := by
    simp only [next]
    omega
  rw [hsub, Nat.mul_mod_left]

/-- An entry that has been tested waits for a later time (05 R112). -/
theorem TimedEntry.tested_later (e : TimedEntry) (now : Nat) (h : (e.tested now).inUse = true) :
    now < (e.tested now).target := by
  unfold TimedEntry.tested at h ⊢
  split
  · next hc =>
    rw [if_pos hc] at h
    dsimp only at h ⊢
    split
    · next hlate =>
      rw [if_pos hlate] at h
      cases h
    · next hlate =>
      exact (next_target e.target now e.period hc.2 fun hp => hlate (.inl hp)).1
  · next hc =>
    rw [if_neg hc] at h
    exact Nat.not_le.1 fun hle => hc ⟨h, hle⟩

/-! ### The variant and the skips of one programme -/

theorem State.reached_eq (s : State) (p : Ch) : s.reached p s.time.seconds = s.firing p := by
  unfold State.reached State.firing TimedEntry.fires
  congr 1
  funext e
  cases e.inUse <;> simp

theorem foldl_last {α β : Type} (c : α → Bool) (v : α → β) (l : List α) :
    l.foldl (fun best e => if c e then some (v e) else best) none =
      ((l.filter c).getLast?).map v := by
  induction l using List.reverseRecOn with
  | nil => rfl
  | append_singleton l e ih =>
    rw [List.foldl_append, ih, List.filter_append]
    cases h : c e <;> simp [h]

theorem mem_firing {p : Ch} {e : TimedEntry} (h : e ∈ s.firing p) : e.prog = p := by
  have := (List.mem_filter.1 h).2
  rw [Bool.and_eq_true, decide_eq_true_eq] at this
  exact this.1

theorem State.timedVariant_eq (s : State) (p : Ch) :
    s.timedVariant p s.time.seconds = s.firedVariant p := by
  have hsome : ∀ e ∈ s.firing p, (((s.prog p).variants.get e.variant).isSome) = !s.namesEmpty e := by
    intro e he
    rw [State.namesEmpty, mem_firing he, Option.not_isNone]
  unfold State.timedVariant State.firedVariant
  rw [State.reached_eq, foldl_last (fun e => ((s.prog p).variants.get e.variant).isSome) TimedEntry.variant,
    List.filter_congr hsome]

theorem State.timedSkips_eq (s : State) (p : Ch) :
    s.timedSkips p s.time.seconds = (s.firing p).any s.namesEmpty := by
  have hnone : ∀ e ∈ s.firing p, ((s.prog p).variants.get e.variant).isNone = s.namesEmpty e := by
    intro e he
    rw [State.namesEmpty, mem_firing he]
  unfold State.timedSkips
  rw [State.reached_eq]
  rw [Bool.eq_iff_iff, List.any_eq_true, List.any_eq_true]
  exact exists_congr fun e => and_congr_right fun he => by rw [hnone e he]

/-! ### The whole test -/

/-- The part when the test of timed changes has come to the programmes of `f`. -/
def State.firedIn (s : State) (f : Ch → Bool) : State :=
  { s with
    store :=
      { progs := Four.tab fun p => if f p then
          { s.prog p with current := (s.firedVariant p).getD (s.prog p).current } else s.prog p
        timed := s.store.timed.map fun e => if f e.prog then e.tested s.time.seconds else e }
    streams := Four.tab fun n => if f n then (s.stream n).renamed (s.firedVariant n) else s.stream n
    attention := s.attention.withSkipped (chSet fun p => f p && (s.firing p).any s.namesEmpty) }

theorem chSet_none : chSet (fun _ => false) = 0#4 := by decide

theorem State.firedIn_none (s : State) : (s.firedIn fun _ => false) = s := by
  have hprogs : (Four.tab fun p => s.prog p) = s.store.progs :=
    Four.ext_get fun p => Four.get_tab ..
  have hstreams : (Four.tab fun n => s.stream n) = s.streams := Four.ext_get fun n => Four.get_tab ..
  have htimed : (s.store.timed.map fun e => e) = s.store.timed := List.map_id' _
  simp only [State.firedIn, Bool.false_eq_true, if_false, Bool.false_and, chSet_none, hprogs, hstreams,
    htimed, Attention.withSkipped, if_true]

/-- One more programme's skipped timed changes. -/
theorem Attention.withSkipped_withSkip (a : Attention) (set : FourSet) (p : Ch) (skipped : Bool) :
    (a.withSkipped set).withSkip p skipped =
      a.withSkipped (if skipped then chInsert set p else set) := by
  have hinsert : chInsert set p ≠ 0#4 := by revert set p; decide
  cases skipped with
  | false => simp [Attention.withSkip]
  | true =>
    have hor : ∀ k : FourSet, chInsert (k ||| set) p = k ||| chInsert set p := fun k =>
      BitVec.or_assoc ..
    by_cases hz : set = 0#4
    · subst hz
      have hz' : ∀ k : FourSet, chInsert k p = k ||| chInsert 0#4 p := fun k => by
        simp [chInsert]
      simp [Attention.withSkip, Attention.withSkipped, hinsert, ← hz']
    · simp [Attention.withSkip, Attention.withSkipped, hinsert, hz, hor, BitVec.or_assoc]

/-- One more programme taken. -/
theorem timedWork_firedIn {f : Ch → Bool} {p : Ch} (hf : f p = false) :
    timedWork p (s.firedIn f) = s.firedIn fun q => f q || decide (q = p) := by
  have hprog : ∀ q, (s.firedIn f).prog q = if f q then
      { s.prog q with current := (s.firedVariant q).getD (s.prog q).current } else s.prog q :=
    fun q => Four.get_tab ..
  have hstream : ∀ n, (s.firedIn f).stream n =
      if f n then (s.stream n).renamed (s.firedVariant n) else s.stream n := fun n => Four.get_tab ..
  have hvariants : ∀ q, ((s.firedIn f).prog q).variants = (s.prog q).variants := by
    intro q
    rw [hprog]
    split <;> rfl
  have hempty : (s.firedIn f).namesEmpty = s.namesEmpty := by
    funext e
    rw [State.namesEmpty, hvariants, State.namesEmpty]
  have hsame : ∀ e : TimedEntry, e.prog = p →
      (if f e.prog then e.tested s.time.seconds else e) = e := by
    intro e he
    rw [he, hf, if_neg Bool.false_ne_true]
  have hother : ∀ e : TimedEntry, (if f e.prog then e.tested s.time.seconds else e).prog = e.prog := by
    intro e
    split
    · exact e.tested_prog _
    · rfl
  have hfiring : (s.firedIn f).firing p = s.firing p := by
    unfold State.firing State.firedIn
    dsimp only
    rw [List.filter_map]
    have hpick : ∀ e ∈ s.store.timed,
        ((fun e : TimedEntry => decide (e.prog = p) && e.fires s.time.seconds) ∘
          fun e => if f e.prog then e.tested s.time.seconds else e) e =
            (decide (e.prog = p) && e.fires s.time.seconds) := by
      intro e _
      simp only [Function.comp_apply]
      by_cases he : e.prog = p
      · rw [hsame e he]
      · rw [hother, decide_eq_false he, Bool.false_and, Bool.false_and]
    rw [List.filter_congr hpick]
    refine (List.map_congr_left fun e he => ?_).trans (List.map_id' _)
    exact hsame e (mem_firing (s := s) he)
  have hfired : (s.firedIn f).firedVariant p = s.firedVariant p := by
    rw [State.firedVariant, hfiring, hempty, State.firedVariant]
  have hprogs : (s.firedIn f).store.progs.set p { (s.firedIn f).prog p with
      current := (s.firedVariant p).getD ((s.firedIn f).prog p).current } =
        Four.tab fun q => if (f q || decide (q = p)) then
          { s.prog q with current := (s.firedVariant q).getD (s.prog q).current } else s.prog q := by
    refine Four.ext_get fun q => ?_
    rw [Four.get_tab]
    by_cases hq : q = p
    · subst hq
      rw [Four.get_set_self, hprog, hf]
      simp
    · rw [Four.get_set_ne _ _ _ _ hq, decide_eq_false hq, Bool.or_false]
      exact hprog q
  have hstreams : (s.firedIn f).streams.set p (((s.firedIn f).stream p).renamed (s.firedVariant p)) =
      Four.tab fun n => if (f n || decide (n = p)) then (s.stream n).renamed (s.firedVariant n)
        else s.stream n := by
    refine Four.ext_get fun n => ?_
    rw [Four.get_tab]
    by_cases hn : n = p
    · subst hn
      rw [Four.get_set_self, hstream, hf]
      simp
    · rw [Four.get_set_ne _ _ _ _ hn, decide_eq_false hn, Bool.or_false]
      exact hstream n
  have htimed : ((s.firedIn f).store.timed.map fun e =>
      if e.prog = p && e.fires s.time.seconds then e.advance s.time.seconds else e) =
        s.store.timed.map fun e =>
          if (f e.prog || decide (e.prog = p)) then e.tested s.time.seconds else e := by
    unfold State.firedIn
    dsimp only
    rw [List.map_map]
    refine List.map_congr_left fun e _ => ?_
    rw [Function.comp_apply]
    by_cases he : e.prog = p
    · rw [hsame e he, he, hf, TimedEntry.tested_eq]
      simp
    · rw [hother, decide_eq_false he, Bool.or_false, Bool.false_and, if_neg Bool.false_ne_true]
  have hattention : (s.firedIn f).attention.withSkip p ((s.firing p).any s.namesEmpty) =
      s.attention.withSkipped
        (chSet fun q => (f q || decide (q = p)) && (s.firing q).any s.namesEmpty) := by
    rw [State.firedIn, Attention.withSkipped_withSkip]
    congr 1
    refine FourSet.ext_mem fun q => ?_
    rw [chMem_chSet]
    by_cases hq : q = p
    · subst hq
      cases h : (s.firing q).any s.namesEmpty
      · simp [chMem_chSet, h]
      · simp [chMem_chInsert]
    · split <;> simp [chMem_chInsert, chMem_chSet, hq]
  rw [timedWork_eq, hfiring, hempty, hfired]
  have htime : (s.firedIn f).time = s.time := rfl
  rw [htime, hprogs, hstreams, htimed, hattention]
  rfl

/-- A test of the timed changes (05 R112 to R114). -/
theorem State.testTimed_eq (s : State) :
    s.testTimed = { s with
      store :=
        { progs := Four.tab fun p => { s.prog p with
            current := (s.timedVariant p s.time.seconds).getD (s.prog p).current }
          timed := s.store.timed.map fun e => e.tested s.time.seconds }
      streams := Four.tab fun n => (s.stream n).renamed (s.timedVariant n s.time.seconds)
      attention := s.attention.withSkipped (chSet (s.timedSkips · s.time.seconds)) } := by
  have hall : s.testTimed = s.firedIn fun _ => true := by
    have h0 := congrArg (timedWork 0) s.firedIn_none.symm
    have hset : (fun q : Ch => (((false || decide (q = 0)) || decide (q = 1)) || decide (q = 2)) ||
        decide (q = 3)) = fun _ => true := by
      funext q
      revert q
      decide
    unfold State.testTimed forChannels
    rw [h0, timedWork_firedIn rfl, timedWork_firedIn (by decide), timedWork_firedIn (by decide),
      timedWork_firedIn (by decide), hset]
  simp only [hall, State.firedIn, if_true, Bool.true_and, State.timedVariant_eq, State.timedSkips_eq]

/-! ### The variant that is made current -/

/-- The highest-numbered entry reached with a variant that is not empty names the variant (05 R113). -/
theorem State.timedVariant_eq_some {j now : Nat} {f : TimedEntry} (hf : s.store.timed[j]? = some f)
    (huse : f.inUse = true) (htarget : f.target ≤ now)
    (hvariant : (s.prog f.prog).variants.get f.variant ≠ none)
    (hlast : ∀ (k : Nat) (g : TimedEntry), j < k → s.store.timed[k]? = some g → g.inUse = true →
      g.target ≤ now → g.prog = f.prog → (s.prog f.prog).variants.get g.variant = none) :
    s.timedVariant f.prog now = some f.variant := by
  obtain ⟨hlt, hget⟩ := List.getElem?_eq_some_iff.1 hf
  let reached := fun e : TimedEntry =>
    e.inUse && decide (e.prog = f.prog) && decide (e.target ≤ now)
  let named := fun e : TimedEntry => ((s.prog f.prog).variants.get e.variant).isSome
  have hsplit : s.store.timed = s.store.timed.take j ++ f :: s.store.timed.drop (j + 1) := by
    rw [← hget, List.cons_getElem_drop_succ, List.take_append_drop]
  have hself : reached f = true ∧ named f = true :=
    ⟨by simp [reached, huse, htarget], Option.isSome_iff_ne_none.2 hvariant⟩
  have hlater : ((s.store.timed.drop (j + 1)).filter reached).filter named = [] := by
    rw [List.filter_eq_nil_iff]
    intro g hg hn
    obtain ⟨hmem, hr⟩ := List.mem_filter.1 hg
    obtain ⟨k, hk⟩ := List.mem_iff_getElem?.1 hmem
    rw [List.getElem?_drop] at hk
    simp only [reached, Bool.and_eq_true, decide_eq_true_eq] at hr
    obtain ⟨⟨hu, hp⟩, hle⟩ := hr
    have hnone := hlast (j + 1 + k) g (by omega) hk hu hle hp
    simp only [named, hnone, Option.isSome_none, Bool.false_eq_true] at hn
  unfold State.timedVariant State.reached
  rw [foldl_last named TimedEntry.variant]
  change (((s.store.timed.filter reached).filter named).getLast?).map _ = _
  rw [hsplit, List.filter_append, List.filter_cons, if_pos hself.1, List.filter_append, List.filter_cons,
    if_pos hself.2, hlater, List.getLast?_concat]
  rfl

theorem State.mem_reached_iff (s : State) (p : Ch) (now : Nat) (e : TimedEntry) :
    e ∈ s.reached p now ↔ e ∈ s.store.timed ∧ e.inUse = true ∧ e.prog = p ∧ e.target ≤ now := by
  rw [State.reached, List.mem_filter, Bool.and_eq_true, Bool.and_eq_true, decide_eq_true_eq,
    decide_eq_true_eq, and_assoc]

/-- With only empty variants among the entries reached, the current variant stays (05 R112). -/
theorem State.timedVariant_eq_none {p : Ch} {now : Nat}
    (h : ∀ e ∈ s.reached p now, (s.prog p).variants.get e.variant = none) :
    s.timedVariant p now = none := by
  unfold State.timedVariant
  rw [foldl_last (fun e : TimedEntry => ((s.prog p).variants.get e.variant).isSome) TimedEntry.variant,
    List.filter_eq_nil_iff.2 fun e he => by rw [h e he]; exact Bool.false_ne_true]
  rfl

theorem State.timedSkips_of_reached {now : Nat} {f : TimedEntry} (hf : f ∈ s.reached f.prog now)
    (hnone : (s.prog f.prog).variants.get f.variant = none) : s.timedSkips f.prog now = true :=
  List.any_eq_true.2 ⟨f, hf, by rw [hnone]; rfl⟩

theorem Attention.withSkipped_parts (a : Attention) {set : FourSet} {p : Ch} (h : chMem set p = true) :
    (a.withSkipped set).isPending 5 = true ∧ chMem (a.withSkipped set).timedSkipped p = true := by
  have hz : set ≠ 0#4 := by
    rintro rfl
    rw [(FourSet.eq_zero_iff 0#4).1 rfl p] at h
    cases h
  have hor : ∀ k : FourSet, chMem (k ||| set) p = true := by
    intro k
    unfold chMem at h ⊢
    rw [BitVec.getLsbD_or, h, Bool.or_true]
  rw [Attention.withSkipped, if_neg hz]
  refine ⟨?_, hor _⟩
  simp only [Attention.isPending, BitVec.getLsbD_or]
  simp

theorem Attention.withSkipped_timedSkipped (a : Attention) (set : FourSet) :
    (a.withSkipped set).timedSkipped = a.timedSkipped ||| set := by
  unfold Attention.withSkipped
  split
  · next h => rw [h, BitVec.or_zero]
  · rfl

/-! ### The row -/

theorem State.entryFires_iff (s : State) (k : Nat) :
    s.entryFires k = true ↔ Work.timedFire ∈ s.due ∧
      ∃ e, s.store.timed[k]? = some e ∧ e.inUse = true ∧ e.target ≤ s.time.seconds := by
  unfold State.entryFires
  rw [Bool.and_eq_true, State.outstanding_iff]
  cases h : s.store.timed[k]? with
  | none => simp
  | some e => simp [TimedEntry.fires_iff]

theorem exec_timedChangeFire_idle {k : Nat} (h : Work.timedFire ∈ s.due →
    ∀ e, s.store.timed[k]? = some e → e.inUse = true → s.time.seconds < e.target) :
    exec (.timedChangeFire k) s = .next s := by
  refine running_takeWhen_idle _ .timedFire (Bool.eq_false_iff.2 fun hf => ?_)
  obtain ⟨hdue, e, he, hu, hle⟩ := (s.entryFires_iff k).1 hf
  have := h hdue e he hu
  omega

/-- An entry of a repeating change that has been tested, in the words of 05 R112. -/
theorem TimedEntry.tested_parts (f : TimedEntry) (now : Nat) :
    let g := f.tested now
    if f.inUse = true ∧ f.target ≤ now then
      g.prog = f.prog ∧ g.variant = f.variant ∧ g.period = f.period ∧
        (g.inUse = true → 0 < f.period ∧ now < g.target ∧
          g.target ≤ now + f.period ∧ g.target ≤ 4294967295 ∧
          (g.target - f.target) % f.period = 0) ∧
        (g.inUse = false → g.target = f.target ∧ (f.period = 0 ∨ 4294967295 < now + f.period)) ∧
        (let next := f.target + ((now - f.target) / f.period + 1) * f.period
         f.period ≠ 0 → next ≤ 4294967295 → g.inUse = true ∧ g.target = next)
    else g = f := by
  intro g
  split
  · next hc =>
    have hg : g = if f.period = 0 ∨ 4294967295 < f.target + ((now - f.target) / f.period + 1) * f.period
        then { f with inUse := false }
        else { f with target := f.target + ((now - f.target) / f.period + 1) * f.period } := by
      simp only [g, TimedEntry.tested]
      rw [if_pos hc]
    by_cases hlate : f.period = 0 ∨ 4294967295 < f.target + ((now - f.target) / f.period + 1) * f.period
    · rw [if_pos hlate] at hg
      rw [hg]
      refine ⟨rfl, rfl, rfl, fun h => by (cases h), fun _ => ⟨rfl, ?late⟩, ?goes⟩
      case late =>
        by_cases hp : f.period = 0
        · exact .inl hp
        · obtain ⟨-, hle, -⟩ := next_target f.target now f.period hc.2 hp
          rcases hlate with h | h
          · exact .inl h
          · exact .inr (by omega)
      case goes =>
        intro next hp hle
        rcases hlate with h | h
        · exact absurd h hp
        · omega
    · rw [if_neg hlate] at hg
      obtain ⟨hp, hin⟩ := not_or.1 hlate
      obtain ⟨hlt, hle, hmod⟩ := next_target f.target now f.period hc.2 hp
      rw [hg]
      refine ⟨rfl, rfl, rfl, fun _ => ⟨Nat.pos_of_ne_zero hp, hlt, hle, Nat.not_lt.1 hin, hmod⟩, fun h => ?_, ?goes⟩
      · have hnot : f.inUse = false := h
        rw [hc.1] at hnot
        cases hnot
      case goes =>
        intro next _ _
        exact ⟨hc.1, rfl⟩
  · next hc => exact if_neg hc

/-! ### Boundaries -/

/-- The test of timed changes of a second boundary, alone. -/
theorem boundaryWorks_timed (s : State) :
    (s.boundaryWorks true).filter Work.isTimedFire = [Work.timedFire] := by
  have htrim : (if s.time.trimSpent then [Work.trimExpiry] else []).filter Work.isTimedFire = [] := by
    split <;> rfl
  have hminute : (if s.time.seconds % 60 = 0 then [Work.minute] else []).filter Work.isTimedFire = [] := by
    split <;> rfl
  have hmap : ∀ {α : Type} (f : α → Work) (l : List α), (∀ a, Work.isTimedFire (f a) = false) →
      (l.map f).filter Work.isTimedFire = [] := fun f l hl =>
    List.filter_eq_nil_iff.2 fun w hw => by
      obtain ⟨a, -, rfl⟩ := List.mem_map.1 hw
      rw [hl a]
      exact Bool.false_ne_true
  have hfire : [Work.timedFire].filter Work.isTimedFire = [Work.timedFire] := rfl
  have hengines : engineWorks.filter Work.isTimedFire = [] := rfl
  have hcounts : [Work.silence, Work.markWatch].filter Work.isTimedFire = [] := rfl
  simp only [State.boundaryWorks, State.secondWorks, if_true, List.filter_append, htrim, hfire, hminute,
    hengines, hcounts, hmap Work.noticeTest _ fun _ => rfl, hmap Work.withdrawLimit _ fun _ => rfl,
    hmap Work.confirmLimit _ fun _ => rfl, List.nil_append, List.append_nil]

theorem works_timed (s : State) :
    s.works true (othersThan Work.isTimedFire) =
      { s.testTimed with due := (s.boundaryWorks true).filter fun w => !Work.isTimedFire w } := by
  rw [State.works_othersThan, boundaryWorks_timed]
  rfl

/-- Every entry in use waits for a later time. -/
def State.TimedLater (s : State) : Prop :=
  ∀ e ∈ s.store.timed, e.inUse = true → s.time.seconds < e.target

theorem testTimed_later (s : State) : s.testTimed.TimedLater := by
  rw [State.testTimed_eq]
  intro e he hu
  obtain ⟨f, -, rfl⟩ := List.mem_map.1 he
  exact f.tested_later _ hu

theorem take_timed (w : Work) (s : State) :
    (s.take w).store.timed = if w = .timedFire then s.store.timed.map (·.tested s.time.seconds)
      else s.store.timed := by
  split
  · next hw =>
    subst hw
    exact congrArg (fun t : State => t.store.timed) s.testTimed_eq
  · next hw =>
    have hkept : .timed ∉ workTouches w := by
      cases w <;> simp_all [workTouches]
    exact onlyIn_take w s .timed hkept

theorem take_timedLater (w : Work) (s : State) (h : s.TimedLater) : (s.take w).TimedLater := by
  by_cases hw : w = .timedFire
  · subst hw
    exact testTimed_later s
  · intro e he hu
    rw [take_timed, if_neg hw] at he
    rw [take_seconds]
    exact h e he hu

theorem takeAll_timedLater (ws : List Work) (s : State) (h : .timedFire ∈ ws) :
    (s.takeAll ws).TimedLater := by
  obtain ⟨before, after, rfl⟩ := List.append_of_mem h
  rw [takeAll_append]
  exact takeAll_keeps (P := State.TimedLater) (fun w t ht => take_timedLater w t ht) after _
    (testTimed_later _)

theorem timedFire_mem (s : State) : .timedFire ∈ s.boundaryWorks true := by
  simp [State.boundaryWorks, State.secondWorks]

theorem begun_timedSkipped (s : State) (lines : Lines) :
    (s.begun lines).attention.timedSkipped = s.flushDue.attention.timedSkipped := by
  rw [State.begun_eq, State.finishTick_eq]
  rfl

/-- Settles O10: the row and the boundary take `testTimed`, which is one write of each block; no other work
changes an entry. -/
theorem timedChangesFire : Obligations.TimedChangesFire := by
  refine ⟨fun k s hp h => exec_timedChangeFire_idle h, fun k e s hp he hdue hu hle => ?fires,
    fun lines s hp h19 => ?tests, fun lines s hp h19 => ?none⟩
  case fires =>
    have hf := (s.entryFires_iff k).2 ⟨hdue, e, he, hu, hle⟩
    have htake : s.take .timedFire = s.testTimed := rfl
    refine ⟨_, running_takeWhen_due hp .timedFire hf, ?_⟩
    rw [htake, State.testTimed_eq]
    refine ⟨fun j f hj => ⟨f.tested s.time.seconds, ?_, f.tested_parts s.time.seconds⟩,
      fun j f hj hu hle => ⟨fun hnone => ?skipped, fun hsome hlast => ?named⟩, fun p hall => ?empty,
      fun p => ⟨_, Four.get_tab ..⟩, fun n => ?counters, rfl, rfl, rfl, rfl, rfl, rfl, rfl, rfl⟩
    · rw [List.getElem?_map, hj]
      rfl
    case skipped =>
      have hmem : f ∈ s.reached f.prog s.time.seconds :=
        (s.mem_reached_iff ..).2 ⟨List.mem_of_getElem? hj, hu, rfl, hle⟩
      refine Attention.withSkipped_parts _ ?_
      rw [chMem_chSet]
      exact State.timedSkips_of_reached hmem hnone
    case named =>
      have hv := State.timedVariant_eq_some hj hu hle hsome hlast
      have hstream : (Four.tab fun n => (s.stream n).renamed (s.timedVariant n s.time.seconds)).get f.prog =
          { s.stream f.prog with nameCtr := 0, longCtr := 0 } := by
        rw [Four.get_tab, hv]
        rfl
      refine ⟨?_, congrArg Stream.nameCtr hstream, congrArg Stream.longCtr hstream⟩
      refine (congrArg Programme.current (Four.get_tab _ f.prog)).trans ?_
      rw [hv]
      rfl
    case empty =>
      have hv : s.timedVariant p s.time.seconds = none := State.timedVariant_eq_none fun f hf => by
        obtain ⟨hmem, hu, hprog, hle⟩ := (s.mem_reached_iff ..).1 hf
        obtain ⟨j, hj⟩ := List.mem_iff_getElem?.1 hmem
        exact hall j f hj hu hle hprog
      refine ⟨(Four.get_tab _ p).trans ?_, (Four.get_tab _ p).trans ?_⟩
      · rw [hv]
        rfl
      · rw [hv]
        rfl
    case counters =>
      refine ⟨((s.stream n).renamed (s.timedVariant n s.time.seconds)).nameCtr,
        ((s.stream n).renamed (s.timedVariant n s.time.seconds)).longCtr, (Four.get_tab _ n).trans ?_⟩
      unfold Stream.renamed
      split <;> rfl
  case tests =>
    intro r later
    have htick := exec_tickBoundary_second hp lines later h19
    have hsecond := (exec_secondBoundary lines later (by omega)).trans htick
    rw [works_timed] at htick hsecond
    obtain ⟨b, hb⟩ : ∃ b, b = s.begun lines := ⟨_, rfl⟩
    obtain ⟨htable, hstreams, hmap, hstore, hannounce, hmonitor⟩ :
        b.table = r.table ∧ b.streams = r.streams ∧ b.map = r.map ∧ b.store = r.store ∧
          b.announce = r.announce ∧ b.monitor = r.monitor := hb ▸ begun_blocks s lines
    have hseconds : b.time.seconds = min 4294967295 (s.time.seconds + 1) := hb ▸ begun_seconds lines h19
    have hskipped : b.attention.timedSkipped = r.attention.timedSkipped := hb ▸ begun_timedSkipped s lines
    rw [← hb] at htick hsecond
    have hvariant : b.timedVariant = r.timedVariant := by
      funext p now
      unfold State.timedVariant State.reached State.prog
      rw [hstore]
    have hprog : ∀ p, b.prog p = r.prog p := fun p => by rw [State.prog, hstore, State.prog]
    have hstream : ∀ n, b.stream n = r.stream n := fun n => by rw [State.stream, hstreams, State.stream]
    have hskips : b.timedSkips = r.timedSkips := by
      funext p now
      unfold State.timedSkips State.reached State.prog
      rw [hstore]
    refine ⟨_, htick, hsecond, ?_⟩
    rw [State.testTimed_eq]
    refine ⟨hseconds, ?_, fun p => ?_, fun n => ?_, ?_, htable, hmap, hannounce, hmonitor⟩
    · rw [← hstore]
    · rw [← hvariant, ← hprog]
      exact Four.get_tab ..
    · rw [← hvariant, ← hstream]
      exact Four.get_tab ..
    · rw [← hskips, ← hskipped]
      exact Attention.withSkipped_timedSkipped ..
  case none =>
    have htick := exec_tickBoundary_second hp lines [] h19
    refine ⟨_, htick, (exec_secondBoundary lines [] (by omega)).trans htick, ?_⟩
    exact takeAll_timedLater _ (s.begun lines)
      (List.mem_filter.2 ⟨timedFire_mem _, rfl⟩)

end Sys2Proof.Machine
end

section
/-! SUPPORT. Requests on timed changes and on time (05 R110 to R116; 07 R148 to R150): the proofs of O44 and
O49. -/

namespace Sys2Proof.Machine

variable {s t u : State}

/-! ### A time change -/

/-- A notice of the table that is LIVE with its end reached stands in a slot that exists. -/
theorem liveEnded_slots (hlen : s.table.slots.length = 96) :
    (fun i => decide (i < Config.slots) && s.liveEnded i) = s.liveEnded := by
  funext i
  cases h : s.notice i with
  | none =>
    have hnone : s.liveEnded i = false := by rw [State.liveEnded, State.holds, h]; rfl
    rw [hnone, Bool.and_false]
  | some nt =>
    have hlt : i < Config.slots := Nat.lt_of_lt_of_eq (State.lt_of_notice h) hlen
    rw [decide_eq_true hlt, Bool.true_and]

theorem testNotices_notice (hlen : s.table.slots.length = 96) (i : Nat) :
    s.testNotices.notice i = (s.notice i).bind s.tested := by
  rw [State.notice_testNotices]
  split
  · rfl
  · next hi =>
    cases h : s.notice i with
    | none => rfl
    | some nt => exact absurd (Nat.lt_of_lt_of_eq (State.lt_of_notice h) hlen) hi

/-- The part after the notice table and the programme store have taken a time change. -/
structure State.TimeTaken (r t : State) (x : SiteTime) : Prop where
  time : t.time = x
  notice : ∀ i, t.notice i = (r.notice i).bind (r.setTime x).tested
  table : t.table = { r.table with slots := t.table.slots }
  map : t.map = r.map
  announce : t.announce = r.announce
  monitor : t.monitor = r.monitor
  timed : t.store.timed = r.store.timed.map fun e => e.tested x.seconds
  prog : ∀ p, t.prog p = { r.prog p with
    current := (r.timedVariant p x.seconds).getD (r.prog p).current }
  stream : ∀ n, t.stream n =
    ((r.stream n).runWithout (r.setTime x).liveEnded).renamed (r.timedVariant n x.seconds)
  port : ∀ q, t.port q = (r.port q).withoutHolds (r.setTime x).liveEnded
  attention : t.attention = r.attention.withSkipped (chSet (r.timedSkips · x.seconds))
  due : t.due = r.due

theorem timeTaken_tests (r : State) (x : SiteTime) (hlen : r.table.slots.length = 96) :
    r.TimeTaken (r.setTime x).testNotices.testTimed x := by
  have hlen' : (r.setTime x).table.slots.length = 96 := hlen
  have htested := testNotices_testedIn (r.setTime x)
  have hslots := liveEnded_slots hlen'
  have hnotice := testNotices_notice hlen'
  obtain ⟨u, hu⟩ : ∃ u, u = (r.setTime x).testNotices := ⟨_, rfl⟩
  rw [← hu] at htested hnotice ⊢
  have htime : u.time = x := by rw [htested.rest]; rfl
  have hstore : u.store = r.store := by rw [htested.rest]; rfl
  have htable : u.table = { r.table with slots := u.table.slots } := congrArg State.table htested.rest
  have hmap : u.map = r.map := (congrArg State.map htested.rest).trans rfl
  have hannounce : u.announce = r.announce := (congrArg State.announce htested.rest).trans rfl
  have hmonitor : u.monitor = r.monitor := (congrArg State.monitor htested.rest).trans rfl
  have hattention : u.attention = r.attention := (congrArg State.attention htested.rest).trans rfl
  have hdue : u.due = r.due := (congrArg State.due htested.rest).trans rfl
  have hprog : ∀ p, u.prog p = r.prog p := fun p => by rw [State.prog, hstore, State.prog]
  have hvariant : u.timedVariant = r.timedVariant := by
    funext p now
    unfold State.timedVariant State.reached State.prog
    rw [hstore]
  have hskips : u.timedSkips = r.timedSkips := by
    funext p now
    unfold State.timedSkips State.reached State.prog
    rw [hstore]
  have hstream : ∀ n, u.stream n = (r.stream n).runWithout (r.setTime x).liveEnded := by
    intro n
    rw [State.stream, htested.streams, Four.get_tab, hslots]
    rfl
  rw [State.testTimed_eq]
  exact {
    time := htime
    notice := hnotice
    table := htable
    map := hmap
    announce := hannounce
    monitor := hmonitor
    timed := by rw [htime, hstore]
    prog := fun p => by
      rw [State.prog, Four.get_tab, hvariant, hprog, htime]
    stream := fun n => by
      rw [State.stream, Four.get_tab, hvariant, hstream, htime]
    port := fun q => (htested.port q).trans (by rw [hslots]; rfl)
    attention := by
      rw [htime, hskips, hattention]
    due := hdue }

/-! ### SET TIME and STEP TIME -/

theorem readsSeconds_iff (tick : Nat) (w : Work) :
    readsSeconds tick w = true ↔ w = .minute ∨ (∃ i, w = .noticeTest i) ∨ w = .timedFire ∨
      tick = 0 ∧ ((∃ n, w = .stream n) ∨ ∃ p, w = .announce p) := by
  cases w <;> simp [readsSeconds]

theorem length_flushSeconds (ht : s.TableSound) : s.flushSeconds.table.slots.length = 96 :=
  ((evolves_takeAll (s.due.filter (readsSeconds s.time.tickNumber)) s).length).trans ht.1

/-- A time change, after the second boundary that came before it (07 R150). -/
theorem timeChange_taken (ht : s.TableSound) (f : SiteTime → SiteTime) :
    s.flushSeconds.TimeTaken (s.timeChange f) (f s.time) := by
  have h := timeTaken_tests s.flushSeconds (f s.time) (length_flushSeconds ht)
  rw [State.timeChange, State.flushSeconds_time]
  exact h

theorem exec_setTime (v : BitVec 32) (hr : s.Ready .site)
    (ht : t = s.timeChange fun x => { x with seconds := v.toNat, isSet := true }) :
    exec (.setTime .site v) s = .next (t.send .site (okay 0x50#8 t.time.secondBytes)) := by
  have hanswer : handleSetTime v s = (t, some (Reply.ok t.time.secondBytes)) := by
    rw [ht, handleSetTime]
  have hexec : exec (.setTime .site v) s = .next (answered .site 0x50#8 (handleSetTime v s)) :=
    onRequest_site (.setTime v) s hr rfl
  rw [hexec, hanswer, answered_ok]

theorem exec_stepTime_refused (v : BitVec 32) (hr : s.Ready .site)
    (h : v.toInt < -1000000 ∨ 1000000 < v.toInt ∨ (s.time.seconds : Int) + v.toInt < 0 ∨
      4294967295 < (s.time.seconds : Int) + v.toInt) :
    exec (.stepTime .site v) s = .next (s.send .site (refusal 0x51#8 .outOfRange)) := by
  have hexec : exec (.stepTime .site v) s = .next (answered .site 0x51#8 (handleStepTime v s)) :=
    onRequest_site (.stepTime v) s hr rfl
  have hanswer : handleStepTime v s = refuse .outOfRange s := by
    unfold handleStepTime
    dsimp only
    split
    · rfl
    · next hd =>
      rw [not_or] at hd
      exact if_pos (h.resolve_left hd.1 |>.resolve_left hd.2)
  rw [hexec, hanswer, answered_refuse]

theorem exec_stepTime (v : BitVec 32) (hr : s.Ready .site) (hlow : -1000000 ≤ v.toInt)
    (hhigh : v.toInt ≤ 1000000) (hmin : 0 ≤ (s.time.seconds : Int) + v.toInt)
    (hmax : (s.time.seconds : Int) + v.toInt ≤ 4294967295)
    (ht : t = s.timeChange fun x =>
      { x with seconds := ((s.time.seconds : Int) + v.toInt).toNat }) :
    exec (.stepTime .site v) s = .next (t.send .site (okay 0x51#8 t.time.secondBytes)) := by
  have hexec : exec (.stepTime .site v) s = .next (answered .site 0x51#8 (handleStepTime v s)) :=
    onRequest_site (.stepTime v) s hr rfl
  have hanswer : handleStepTime v s = (t, some (Reply.ok t.time.secondBytes)) := by
    unfold handleStepTime
    dsimp only
    rw [if_neg (by omega), if_neg (by simp only [Config.maxSeconds]; omega), ht]
  rw [hexec, hanswer, answered_ok]

/-- Settles O49: the works that read site seconds are flushed, and then both tests take the new seconds. -/
theorem timeIsSetAndStepped : Obligations.TimeIsSetAndStepped := by
  intro v s hr ht r stepped ended taken told second
  have hsecond : ∀ w, readsSeconds s.time.tickNumber w = true ↔ second w := readsSeconds_iff _
  have hended : ∀ x, (r.setTime x).liveEnded = ended x := fun x => rfl
  have htaken : ∀ f : SiteTime → SiteTime, taken (f s.time) (s.timeChange f) := by
    intro f
    obtain ⟨htime, hnotice, htable, hmap, hannounce, hmonitor, htimed, hprog, hstream, hport, hattention,
      hdue⟩ := timeChange_taken ht f
    refine ⟨htime, hnotice, htable, hmap, hannounce, hmonitor, htimed, fun e he hu => ?_, hprog, hstream,
      fun q => (hport q).trans ?_, hattention, hdue⟩
    · rw [htimed] at he
      obtain ⟨e0, -, rfl⟩ := List.mem_map.1 he
      exact e0.tested_later _ hu
    · cases h : (r.port q).held with
      | none => rw [hended, PortState.withoutHolds, h]
      | some held => rw [hended, PortState.withoutHolds, h]
  have htold : ∀ f : SiteTime → SiteTime, (s.timeChange f).time.secondBytes = told (f s.time) := by
    intro f
    rw [(htaken f).1]
    rfl
  refine ⟨fun hnone => State.flushSeconds_of_none s fun w hw => ?_,
    fun hall => State.flushSeconds_of_all s fun w hw => (hsecond w).2 (hall w hw), hsecond, ?set,
    exec_stepTime_refused v hr, fun hlow hhigh hmin hmax => ?step⟩
  · exact Bool.eq_false_iff.2 fun h => hnone w hw ((hsecond w).1 h)
  case set =>
    intro x
    have hrun := exec_setTime v hr rfl
    rw [htold] at hrun
    exact ⟨_, hrun, htaken fun y => { y with seconds := v.toNat, isSet := true }⟩
  case step =>
    intro x
    obtain ⟨f, hf⟩ : ∃ f : SiteTime → SiteTime, f = fun y => { y with seconds := stepped.toNat } := ⟨_, rfl⟩
    have hx : x = f s.time := by rw [hf]
    refine ⟨s.timeChange f, ?_, hx ▸ htaken f⟩
    rw [exec_stepTime v hr hlow hhigh hmin hmax (congrArg s.timeChange hf), htold, hx]

/-! ### Entries written and cleared -/

theorem beBytes_four_toNat (v : BitVec 32) : beBytes 4 v.toNat = split4 v := by
  have hbyte : ∀ k, BitVec.ofNat 8 (v.toNat / 256 ^ k) = v.extractLsb' (8 * k) 8 := by
    intro k
    apply BitVec.eq_of_toNat_eq
    rw [BitVec.toNat_ofNat, BitVec.extractLsb'_toNat, Nat.shiftRight_eq_div_pow, Nat.pow_mul]
  simp only [beBytes, hbyte, split4]

theorem handleSetTimedChange_outOfRange {entry prog variant : Byte} {target period : BitVec 32}
    (h : 7 < entry.toNat ∨ 3 < prog.toNat ∨ 3 < variant.toNat) :
    handleSetTimedChange entry prog variant target period s = refuse .outOfRange s := by
  unfold handleSetTimedChange
  split
  · rfl
  · next he =>
    rcases h.resolve_left he with hp | hv
    · rw [chOf?_none hp]
    · rw [chOf?_none hv]
      cases chOf? prog <;> rfl

/-- A clamped period, 0 for a one-shot change (05 R111). -/
theorem period_eq (period : BitVec 32) :
    (if period = 0#32 then 0 else clamp 60 604800 period.toNat) =
      if period.toNat = 0 then 0 else max 60 (min 604800 period.toNat) := by
  have hzero : period = 0#32 ↔ period.toNat = 0 := by
    rw [← BitVec.toNat_inj]
    rfl
  simp only [hzero, clamp]

theorem handleSetTimedChange_set {entry prog variant : Byte} {p v : Ch} (target period : BitVec 32)
    (he : entry.toNat ≤ 7) (hp : prog.toNat = p.val) (hv : variant.toNat = v.val) {q : Nat}
    (hq : q = if period.toNat = 0 then 0 else max 60 (min 604800 period.toNat)) :
    handleSetTimedChange entry prog variant target period s =
      (s.setTimed entry.toNat ⟨true, p, v, target.toNat, q⟩,
        some (Reply.adjusted (decide (q ≠ period.toNat))
          ([1#8, prog, variant] ++ split4 target ++ beBytes 4 q))) := by
  have hbytes : (⟨true, p, v, target.toNat, q⟩ : TimedEntry).bytes =
      [1#8, prog, variant] ++ split4 target ++ beBytes 4 q := by
    simp only [TimedEntry.bytes, ← hp, ← hv, beBytes_one_toNat, beBytes_four_toNat]
    rfl
  unfold handleSetTimedChange
  rw [if_neg (Nat.not_lt.2 he), chOf?_some hp, chOf?_some hv]
  dsimp only
  rw [period_eq, ← hq, hbytes]

theorem handleClearTimedChange_eq {entry : Byte} {e : TimedEntry}
    (h : s.store.timed[entry.toNat]? = some e) :
    handleClearTimedChange entry s =
      if e.inUse then (s.setTimed entry.toNat { e with inUse := false }, some (Reply.ok []))
      else (s, some (Reply.unchanged [])) := by
  rw [handleClearTimedChange, h]

/-! ### When an entry fires -/

/-- The entries after a list of works: tested if the store's test is among them. -/
theorem takeAll_timed (ws : List Work) (s : State) (h : .timedFire ∉ ws) :
    (s.takeAll ws).store.timed = s.store.timed :=
  takeAll_untouched (fun t => t.store.timed) ws (fun w hw t => by
    have hne : w ≠ .timedFire := fun e => h (e ▸ hw)
    rw [take_timed, if_neg hne]) s

theorem takeAll_seconds (ws : List Work) (s : State) : (s.takeAll ws).time.seconds = s.time.seconds :=
  takeAll_untouched (fun t => t.time.seconds) ws (fun w _ t => take_seconds w t) s

theorem timedFire_notMem (s : State) : .timedFire ∉ s.boundaryWorks false := by
  simp only [State.boundaryWorks, engineWorks, channels]
  split <;> simp

theorem works_false_timed (s : State) : (s.works false []).store.timed = s.store.timed := by
  refine takeAll_timed _ s fun h => timedFire_notMem s ?_
  exact (List.mem_filter.1 h).1

/-- The works of a second boundary hold the store's test once. -/
theorem boundaryWorks_split (s : State) : ∃ before after, s.boundaryWorks true =
    before ++ .timedFire :: after ∧ .timedFire ∉ before ∧ .timedFire ∉ after := by
  refine ⟨(if s.time.trimSpent then [Work.trimExpiry] else []) ++ slotNumbers.map Work.noticeTest,
    (if s.time.seconds % 60 = 0 then [Work.minute] else []) ++ engineWorks ++
    (slotNumbers.filter s.withdrawLimitReached).map Work.withdrawLimit ++
    ([Port.site, Port.traffic].filter s.confirmLimitReached).map Work.confirmLimit ++
    [Work.silence, Work.markWatch], ?_, ?_, ?_⟩
  · simp [State.boundaryWorks, State.secondWorks]
  · split <;> simp
  · split <;> simp [engineWorks, channels]

theorem works_true_timed (s : State) :
    (s.works true []).store.timed = s.store.timed.map (·.tested s.time.seconds) := by
  obtain ⟨before, after, hsplit, hbefore, hafter⟩ := boundaryWorks_split s
  have hall : ∀ l : List Work, l.filter (fun w => !([] : List Work).contains w) = l := by simp
  have hworks : (s.works true []).store.timed = (s.takeAll (s.boundaryWorks true)).store.timed := by
    rw [State.works, hall]
  rw [hworks, hsplit, takeAll_append]
  change (((s.takeAll before).take .timedFire).takeAll after).store.timed = _
  rw [takeAll_timed _ _ hafter, take_timed, if_pos rfl, takeAll_timed _ _ hbefore, takeAll_seconds]

theorem timeChange_timed (f : SiteTime → SiteTime) (h : s.due = []) :
    (s.timeChange f).store.timed = s.store.timed.map (·.tested (f s.time).seconds) := by
  have hflush : s.flushSeconds = s := State.flushSeconds_of_none s fun w hw => by
    rw [h] at hw
    cases hw
  have hrest := (testNotices_testedIn (s.setTime (f s.time))).rest
  rw [State.timeChange, hflush]
  obtain ⟨u, hu⟩ : ∃ u, u = (s.setTime (f s.time)).testNotices := ⟨_, rfl⟩
  rw [← hu] at hrest ⊢
  have htimed : u.store.timed = s.store.timed := by rw [hrest]; rfl
  have htime : u.time = f s.time := by rw [hrest]; rfl
  rw [State.testTimed_eq]
  dsimp only
  rw [htimed, htime]

/-- A response leaves the store as it is. -/
theorem timed_send (t : State) (p : Port) (x : Response) : (t.send p x).store.timed = t.store.timed := rfl

/-- Settles O44: the requests write the entry; an entry changes in a test of the store alone, and with nothing
outstanding a test comes at second boundaries and time changes. -/
theorem timedChangesAreSetAndCleared : Obligations.TimedChangesAreSetAndCleared := by
  refine ⟨fun entry prog variant target period s hr => ?traffic,
    fun entry prog variant target period s hr => ⟨fun h => ?range, fun p v he hp hv => ?set⟩,
    fun p entry s hr hlen => ⟨fun hp => ?clearTraffic, fun hp h => ?clearRange, fun e hp he => ?clear⟩,
    fun k e s hp hdue he => ?fires⟩
  case traffic =>
    exact onRequest_notPermitted (.setTimedChange entry prog variant target period) s hr rfl
  case range =>
    have hexec : exec (.setTimedChange .site entry prog variant target period) s =
        .next (answered .site 0x33#8 (handleSetTimedChange entry prog variant target period s)) :=
      onRequest_site (.setTimedChange entry prog variant target period) s hr rfl
    rw [hexec, handleSetTimedChange_outOfRange h, answered_refuse]
  case set =>
    intro q
    have hexec : exec (.setTimedChange .site entry prog variant target period) s =
        .next (answered .site 0x33#8 (handleSetTimedChange entry prog variant target period s)) :=
      onRequest_site (.setTimedChange entry prog variant target period) s hr rfl
    rw [hexec, handleSetTimedChange_set target period he hp hv rfl, answered_adjusted]
    rfl
  case clearTraffic =>
    subst hp
    exact onRequest_notPermitted (.clearTimedChange entry) s hr rfl
  case clearRange =>
    subst hp
    have hexec : exec (.clearTimedChange .site entry) s =
        .next (answered .site 0x34#8 (handleClearTimedChange entry s)) :=
      onRequest_site (.clearTimedChange entry) s hr rfl
    have hnone : s.store.timed[entry.toNat]? = none := List.getElem?_eq_none (by omega)
    rw [hexec, handleClearTimedChange, hnone, answered_refuse]
  case clear =>
    subst hp
    have hexec : exec (.clearTimedChange .site entry) s =
        .next (answered .site 0x34#8 (handleClearTimedChange entry s)) :=
      onRequest_site (.clearTimedChange entry) s hr rfl
    rw [hexec, handleClearTimedChange_eq he]
    cases e.inUse <;> rfl
  case fires =>
    intro leaves
    have hbegun : ∀ lines, (s.begun lines).store.timed = s.store.timed := fun lines => by
      rw [(begun_blocks s lines).2.2.2.1, State.flushDue_nil hdue]
    have hmapped : ∀ now, (s.store.timed.map (·.tested now))[k]? = some (e.tested now) := fun now => by
      rw [List.getElem?_map, he]
      rfl
    refine ⟨exec_timedChangeFire_idle fun h => ?_, fun lines hlt => ?first, fun lines h19 => ?second,
      fun hr v => ?time⟩
    · rw [hdue] at h
      cases h
    case first =>
      have hnot : decide (19 ≤ s.flushDue.time.tickNumber) = false := by
        rw [tickNumber_flushDue]
        exact decide_eq_false (by omega)
      refine ⟨_, exec_tickBoundary hp lines [], ?_⟩
      rw [hnot, works_false_timed, hbegun]
      exact he
    case second =>
      intro g
      have htick := exec_tickBoundary_second hp lines [] h19
      have hentry : ((s.begun lines).works true []).store.timed[k]? = some g := by
        rw [works_true_timed, hbegun, begun_seconds lines h19]
        exact hmapped _
      exact ⟨⟨_, htick, hentry⟩, _, (exec_secondBoundary lines [] (by omega)).trans htick, hentry⟩
    case time =>
      refine ⟨⟨_, exec_setTime v hr rfl, ?_⟩, ?step⟩
      · rw [timed_send, timeChange_timed _ hdue]
        exact hmapped _
      case step =>
        intro stepped hlow hhigh hmin hmax
        refine ⟨_, exec_stepTime v hr hlow hhigh hmin hmax rfl, ?_⟩
        rw [timed_send, timeChange_timed _ hdue]
        exact hmapped _

end Sys2Proof.Machine
end

section
/-! SUPPORT. Announcement control (06 R119 to R139): what a cue level makes of one record, and what a record put
in its place makes of all four. -/

namespace Sys2Proof.Machine

variable {s t u : State}

/-! ### One record -/

/-- The announcement state that a cue level makes of a record (06 R122 to R125, R127). -/
def Announce.stateAt (a : Announce) (level : Bool) : AnnState :=
  if level = a.cueLevel then a.state
  else if level then a.state.risen a.lead else a.state.fallen a.hangover

/-- The record when its cue level is `level` and its state `st`, both counters and the bulletin start set as
the move to `st` requires (06 R122 to R125, R127). -/
def Announce.movedTo (a : Announce) (level : Bool) (st : AnnState) (b : Bulletin) : Announce :=
  { a with
    cueLevel := level
    state := st
    leadCtr := if st = a.state then a.leadCtr
      else if st = .leading then a.lead
      else if a.state = .leading ∨ st = .onAir ∧ a.state = .quiet then 0
      else a.leadCtr
    hangCtr := if st = a.state then a.hangCtr
      else if st = .hanging then a.hangover
      else if a.state = .hanging then 0 else a.hangCtr
    bulletin := if a.state = .quiet ∧ st = .onAir then some b else a.bulletin
    bulletins := if a.state = .quiet ∧ st = .onAir then min 65535 (a.bulletins + 1) else a.bulletins }

theorem Announce.movedTo_same (a : Announce) (level : Bool) (b : Bulletin) :
    a.movedTo level a.state b = { a with cueLevel := level } := by
  have hnot : ¬ (a.state = .quiet ∧ a.state = .onAir) := by
    rintro ⟨h, h'⟩
    rw [h] at h'
    cases h'
  simp only [Announce.movedTo, if_true, if_neg hnot]

theorem Announce.rise_eq (a : Announce) (b : Bulletin) :
    Announce.rise { a with cueLevel := true } b = a.movedTo true (a.state.risen a.lead) b := by
  have hadd : satAdd Config.maxCount a.bulletins 1 = min 65535 (a.bulletins + 1) := rfl
  cases h : a.state with
  | quiet =>
    by_cases hl : a.lead = 0
    · simp [Announce.rise, Announce.movedTo, AnnState.risen, h, hl, Announce.enterOnAir, hadd]
    · simp [Announce.rise, Announce.movedTo, AnnState.risen, h, hl]
  | hanging => simp [Announce.rise, Announce.movedTo, AnnState.risen, h]
  | leading | onAir | barred => simp [Announce.rise, Announce.movedTo, AnnState.risen, h]

theorem Announce.fall_eq (a : Announce) (b : Bulletin) :
    Announce.fall { a with cueLevel := false } = a.movedTo false (a.state.fallen a.hangover) b := by
  cases h : a.state with
  | onAir =>
    by_cases hg : a.hangover = 0
    · simp [Announce.fall, Announce.movedTo, AnnState.fallen, h, hg]
    · simp [Announce.fall, Announce.movedTo, AnnState.fallen, h, hg]
  | leading | barred | quiet | hanging => simp [Announce.fall, Announce.movedTo, AnnState.fallen, h]

/-- A recomputed cue level (06 R120). -/
theorem Announce.recompute_eq (a : Announce) (carries : Bool) (b : Bulletin) :
    a.recompute carries b =
      a.movedTo (a.cueTerm carries) (a.stateAt (a.cueTerm carries)) b := by
  unfold Announce.recompute Announce.stateAt
  dsimp only
  split
  · next h => rw [h, Announce.movedTo_same]
  · split
    · next h => rw [h, Announce.rise_eq]
    · next h => rw [Bool.eq_false_iff.2 h, Announce.fall_eq a b]

/-! ### All four records -/

theorem Announce.flag_congr {a b : Announce} (h : a.state = b.state) : a.flag = b.flag := by
  rw [Announce.flag, h, Announce.flag]

/-- The records after one was put in its place: its own, and the closing counters that follow its flag. -/
theorem putAnn_self (s : State) (p : Ch) (a : Announce) :
    (s.putAnn p a).ann p = { a with closing := ((s.putAnn p a).ann p).closing } := by
  rw [State.putAnn_ann, if_pos rfl]

theorem putAnn_other (s : State) (p : Ch) (a : Announce) {q : Ch} (hq : q ≠ p) :
    (s.putAnn p a).ann q = { s.ann q with closing := ((s.putAnn p a).ann q).closing } := by
  rw [State.putAnn_ann, if_neg hq]

theorem putAnn_closing (s : State) (p : Ch) (a : Announce) (q : Ch) :
    ((s.putAnn p a).ann q).closing =
      if (s.prog q).target = some p ∧ a.flag ≠ (s.ann p).flag then (if a.flag then 0 else 3)
      else (if q = p then a else s.ann q).closing := by
  rw [State.putAnn_ann]

theorem putAnn_flag (s : State) (p : Ch) (a : Announce) : ((s.putAnn p a).ann p).flag = a.flag := by
  rw [putAnn_self]
  rfl

theorem limitReached_congr {a b : Announce} (hstate : a.state = b.state) (hb : a.bulletin = b.bulletin)
    (hm : a.maxSecs = b.maxSecs) (now : Nat) : a.limitReached now = b.limitReached now := by
  rw [Announce.limitReached, Announce.flag_congr hstate, hb, hm, Announce.limitReached]

theorem Announce.limitReached_iff (a : Announce) (now : Nat) :
    a.limitReached now = true ↔
      (a.state = .onAir ∨ a.state = .hanging) ∧
        ∃ c, (a.bulletin.map fun b => b.count) = some c ∧ a.maxSecs * 20 ≤ now - c := by
  unfold Announce.limitReached
  rw [Bool.and_eq_true, a.flag_iff]
  cases a.bulletin with
  | none => simp
  | some b =>
    simp only [Option.map_some, Option.some.injEq, exists_eq_left']
    exact and_congr_right fun _ => decide_eq_true_iff

/-- Announcement control after a record `a` of programme `p` was put in its place, and then ended by its
maximum duration if `ended` (06 R126, R133). -/
structure State.Announced (s t : State) (p : Ch) (a : Announce) (ended : Prop) : Prop where
  kept : ¬ ended → t = s.putAnn p a
  self : ended → t.ann p = { a.overrun with closing := (t.ann p).closing }
  other : ∀ q, q ≠ p → t.ann q = { s.ann q with closing := (t.ann q).closing }
  closing : ended → ∀ q, (t.ann q).closing =
    if (s.prog q).target = some p then 3 else (if q = p then a else s.ann q).closing
  rest : ended → t = { (s.withKind 4#11) with
    announce := t.announce
    attention := { (s.withKind 4#11).attention with overrun := chInsert s.attention.overrun p } }

theorem Announce.overrun_flag (a : Announce) : a.overrun.flag = false := by
  unfold Announce.overrun Announce.flag
  by_cases h : a.state = .onAir <;> simp [h]

theorem overrunAt_announced (s : State) (p : Ch) (a : Announce) (now : Nat)
    (hnow : (s.putAnn p a).now = now) (c : Prop) [Decidable c] :
    s.Announced
      (if c ∧ ((s.putAnn p a).ann p).limitReached now then (s.putAnn p a).overrunAt p else s.putAnn p a)
      p a (c ∧ a.limitReached now = true) := by
  have hlimit : ((s.putAnn p a).ann p).limitReached now = a.limitReached now := by
    rw [putAnn_self]
    rfl
  rw [hlimit]
  split
  · next hended =>
    have hflag : a.flag = true := Announce.flag_of_limitReached hended.2
    let u := s.putAnn p a
    have hu : (u.ann p).overrun = { a.overrun with closing := (u.ann p).closing } := by
      simp only [u]
      rw [putAnn_self]
      rfl
    have hprog : ∀ q, u.prog q = s.prog q := fun q => by
      simp only [u]
      rw [State.putAnn_eq]
      rfl
    refine ⟨fun hn => absurd hended hn, fun _ => ?_, fun q hq => ?_, fun _ q => ?_, fun _ => ?_⟩
    · exact (putAnn_self u p _).trans (congrArg (fun x : Announce =>
        { x with closing := ((u.putAnn p (u.ann p).overrun).ann p).closing }) hu)
    · change (u.putAnn p (u.ann p).overrun).ann q = _
      rw [putAnn_other _ _ _ hq, putAnn_other s p a hq]
      rfl
    · change ((u.putAnn p (u.ann p).overrun).ann q).closing = _
      rw [putAnn_closing, hprog, Announce.overrun_flag, putAnn_flag, hflag]
      by_cases ht : (s.prog q).target = some p
      · simp [ht]
      · simp only [ht, false_and, if_false]
        by_cases hq : q = p
        · rw [if_pos hq, if_pos hq, hu]
          have := putAnn_closing s p a p
          subst hq
          simp only [ht, false_and, if_false, if_true] at this
          exact this
        · rw [if_neg hq, if_neg hq, putAnn_closing, if_neg (by simp [ht]), if_neg hq]
    · change (u.putAnn p (u.ann p).overrun).raise (.overrun p) = _
      rw [State.putAnn_eq]
      simp only [u]
      rw [State.putAnn_eq]
      rfl
  · next hended =>
    exact ⟨fun _ => rfl, fun h => absurd h hended, fun q hq => putAnn_other s p a hq,
      fun h => absurd h hended, fun h => absurd h hended⟩

section
variable {p : Ch} {a : Announce} {ended : Prop} (h : s.Announced t p a ended)
include h

/-- Ended or not, a record keeps all but its state, hangover counter, overruns and closing counter. -/
theorem State.Announced.record : t.ann p = { a with
    state := (t.ann p).state
    hangCtr := (t.ann p).hangCtr
    overruns := (t.ann p).overruns
    closing := (t.ann p).closing } := by
  by_cases he : ended
  · have hself := h.self he
    rw [hself]
    rfl
  · have hself := putAnn_self s p a
    rw [← h.kept he] at hself
    rw [hself]

theorem State.Announced.restKept : t = { s with announce := t.announce, attention := t.attention } := by
  by_cases he : ended
  · have hrest := h.rest he
    rw [hrest]
    rfl
  · have hput := State.putAnn_eq s p a
    rw [← h.kept he] at hput
    rw [hput]

theorem State.Announced.attention (he : ended) : t.attention = { (s.withKind 4#11).attention with
    overrun := chInsert s.attention.overrun p } := by
  rw [h.rest he]

/-- Without an end the record stands as it was put. -/
theorem State.Announced.unended (he : ¬ ended) :
    t.ann p = { a with closing := (t.ann p).closing } ∧ t.attention = s.attention ∧
      ∀ q, (t.ann q).closing =
        if (s.prog q).target = some p ∧ (t.ann p).flag ≠ (s.ann p).flag then (if (t.ann p).flag then 0 else 3)
        else (if q = p then a else s.ann q).closing := by
  rw [h.kept he]
  refine ⟨putAnn_self s p a, ?_, fun q => ?_⟩
  · rw [State.putAnn_eq]
  · rw [putAnn_closing, putAnn_flag]
end

/-! ### CUE ON and CUE OFF -/

theorem handleLinkCue_outOfRange {b : Byte} (on : Bool) (h : 3 < b.toNat) :
    handleLinkCue b on s = refuse .outOfRange s := by
  rw [handleLinkCue, chOf?_none h]

theorem handleLinkCue_eq {b : Byte} {p : Ch} (on : Bool) (h : b.toNat = p.val) :
    handleLinkCue b on s =
      if (s.prog p).carries then
        if (s.ann p).linkCue = on then (s, some (Reply.unchanged (s.ann p).levelBytes))
        else (s.applyLinkCue p on, some (Reply.ok ((s.applyLinkCue p on).ann p).levelBytes))
      else refuse .notTraffic s := by
  rw [handleLinkCue, chOf?_some h]

theorem exec_linkCue (b : Byte) (on : Bool) (hr : s.Ready .site) :
    exec (if on then .cueOn .site b else .cueOff .site b) s =
      .next (answered .site (if on then 0x41#8 else 0x42#8) (handleLinkCue b on s)) := by
  cases on with
  | true => exact onRequest_site (.cueOn b) s hr rfl
  | false => exact onRequest_site (.cueOff b) s hr rfl

theorem Announce.levelBytes_eq (a : Announce) :
    a.levelBytes = [flagByte a.linkCue, flagByte a.cueLevel] ++ beBytes 1 a.state.code := rfl

/-- Settles O48: the record with the link cue written is moved by its cue level, and put in its place. -/
theorem cueOnAndOffAct : Obligations.CueOnAndOffAct := by
  intro b on s hr c code
  have hexec : exec c s = .next (answered .site code (handleLinkCue b on s)) := exec_linkCue b on hr
  refine ⟨fun h => ?range, fun p hp => ?known⟩
  case range => rw [hexec, handleLinkCue_outOfRange on h, answered_refuse]
  case known =>
    intro old
    refine ⟨fun hc => ?notTraffic, fun hc hl => ?same, fun hc hl => ?acts⟩
    case notTraffic =>
      rw [hexec, handleLinkCue_eq on hp, if_neg (by rw [hc]; exact Bool.false_ne_true), answered_refuse]
    case same =>
      rw [hexec, handleLinkCue_eq on hp, if_pos hc, if_pos hl, ← hl]
      rfl
    case acts =>
      intro level st
      let a : Announce := { old with linkCue := on }
      have hlevel : a.cueTerm true = level := by
        cases h : old.source <;> simp [Announce.cueTerm, a, level, h]
      have hrecord : Announce.recompute a (s.prog p).carries s.bulletinNow = a.movedTo level st s.bulletinNow := by
        rw [hc, Announce.recompute_eq, hlevel]
        rfl
      have happly : s.applyLinkCue p on = s.putAnn p (a.movedTo level st s.bulletinNow) := by
        rw [State.applyLinkCue, hrecord]
      have hself := putAnn_self s p (a.movedTo level st s.bulletinNow)
      rw [hexec, handleLinkCue_eq on hp, if_pos hc, if_neg hl, happly]
      obtain ⟨t, ht⟩ : ∃ t, t = s.putAnn p (a.movedTo level st s.bulletinNow) := ⟨_, rfl⟩
      rw [← ht] at hself ⊢
      refine ⟨t, ?_, congrArg Announce.linkCue hself, congrArg Announce.cueLevel hself,
        congrArg Announce.state hself, congrArg Announce.leadCtr hself, congrArg Announce.hangCtr hself,
        congrArg Announce.bulletin hself, congrArg Announce.bulletins hself, fun q hq => ?_, ?_⟩
      · rw [answered_ok, Announce.levelBytes_eq, hself]
        rfl
      · rw [ht, putAnn_other s p _ hq, putAnn_closing, if_neg hq, putAnn_flag]
      · rw [ht]
        exact State.putAnn_eq ..

/-! ### SET CUE -/

theorem cueSourceOf?_none {k : Nat} (h : 2 < k) : cueSourceOf? k = none := by
  match k, h with
  | _ + 3, _ => rfl

theorem cueSourceOf?_code (src : CueSource) : cueSourceOf? src.code = some src := by
  cases src <;> rfl

theorem handleSetCue_outOfRange {b source lead hangover : Byte} {maxSecs : BitVec 16}
    (h : 3 < b.toNat ∨ 2 < source.toNat) :
    handleSetCue b source lead hangover maxSecs s = refuse .outOfRange s := by
  unfold handleSetCue
  rcases h with h | h
  · rw [chOf?_none h]
  · rw [cueSourceOf?_none h]
    cases chOf? b <;> rfl

theorem handleSetCue_eq {b source : Byte} {p : Ch} {src : CueSource} (lead hangover : Byte)
    (maxSecs : BitVec 16) (hb : b.toNat = p.val) (hs : source.toNat = src.code) {l h m : Nat}
    (hl : l = min 40 lead.toNat) (hh : h = min 200 hangover.toNat)
    (hm : m = max 10 (min 1800 maxSecs.toNat)) :
    handleSetCue b source lead hangover maxSecs s =
      (s.applyCue p src l h m,
        some (Reply.adjusted (decide (l ≠ lead.toNat ∨ h ≠ hangover.toNat ∨ m ≠ maxSecs.toNat))
          (((s.applyCue p src l h m).ann p).cueBytes ++
            beBytes 1 ((s.applyCue p src l h m).ann p).state.code ++
              [flagByte ((s.applyCue p src l h m).ann p).cueLevel]))) := by
  have hl' : clamp 0 40 lead.toNat = l := by rw [hl]; exact Nat.zero_max ..
  have hh' : clamp 0 200 hangover.toNat = h := by rw [hh]; exact Nat.zero_max ..
  have hm' : clamp 10 1800 maxSecs.toNat = m := hm.symm
  unfold handleSetCue
  rw [chOf?_some hb, hs, cueSourceOf?_code]
  simp only [hl', hh', hm', Bool.decide_or, Bool.or_assoc]

/-- The values of SET CUE written, and the record moved by a change of source (06 R137). -/
theorem applyCue_announced (s : State) (p : Ch) (src : CueSource) (l h m : Nat) {level : Bool}
    (hlevel : level = if (s.ann p).source = src then (s.ann p).cueLevel
      else ((s.ann p).withCue src l h m).cueTerm (s.prog p).carries) :
    let a := ((s.ann p).withCue src l h m).movedTo level
      (((s.ann p).withCue src l h m).stateAt level) s.bulletinNow
    s.Announced (s.applyCue p src l h m) p a ((s.ann p).maxSecs ≠ m ∧ a.limitReached s.now = true) := by
  intro a
  have hrecord : (if (s.ann p).source = src then (s.ann p).withCue src l h m
      else Announce.recompute ((s.ann p).withCue src l h m) (s.prog p).carries s.bulletinNow) = a := by
    simp only [a]
    split
    · next hs =>
      rw [if_pos hs] at hlevel
      have hstate : ((s.ann p).withCue src l h m).stateAt level = ((s.ann p).withCue src l h m).state :=
        if_pos hlevel
      rw [hstate, Announce.movedTo_same, hlevel]
      rfl
    · next hs =>
      rw [if_neg hs] at hlevel
      rw [Announce.recompute_eq, hlevel]
  have hnow : (s.putAnn p a).now = s.now := by rw [State.putAnn_eq]; rfl
  have hannounced := overrunAt_announced s p a s.now hnow ((s.ann p).maxSecs ≠ m)
  rw [State.applyCue]
  simp only [hrecord, hnow]
  exact hannounced

/-- Settles O47: the record written and moved by a change of source is put in its place, and ended where a new
maximum has been reached. -/
theorem setCueStoresAndActs : Obligations.SetCueStoresAndActs := by
  intro b source lead hangover maxSecs s hr run
  have hexec : run = .next (answered .site 0x40#8 (handleSetCue b source lead hangover maxSecs s)) :=
    onRequest_site (.setCue b source lead hangover maxSecs) s hr rfl
  refine ⟨fun h => ?range, fun p src hb hs => ?set⟩
  case range => rw [hexec, handleSetCue_outOfRange h, answered_refuse]
  case set =>
    intro l h m old level st start ended
    have hlevel : level = if (s.ann p).source = src then (s.ann p).cueLevel
        else ((s.ann p).withCue src l h m).cueTerm (s.prog p).carries := by
      cases src <;> rfl
    have hannounced := applyCue_announced s p src l h m hlevel
    have hanswer := handleSetCue_eq (s := s) lead hangover maxSecs hb hs (l := l) (h := h) (m := m) rfl rfl rfl
    obtain ⟨t, ht⟩ : ∃ t, t = s.applyCue p src l h m := ⟨_, rfl⟩
    rw [← ht] at hannounced hanswer
    obtain ⟨a, ha⟩ : ∃ a, a = ((s.ann p).withCue src l h m).movedTo level st s.bulletinNow := ⟨_, rfl⟩
    replace hannounced : s.Announced t p a (old.maxSecs ≠ m ∧ a.limitReached s.now = true) := ha ▸ hannounced
    have hstart : (a.bulletin.map fun x => x.count) = start := by
      rw [ha]
      change Option.map _ (if old.state = .quiet ∧ st = .onAir then _ else old.bulletin) =
        if old.state = .quiet ∧ st = .onAir then some s.time.tickCount else old.bulletin.map fun x => x.count
      split <;> rfl
    have hended : (old.maxSecs ≠ m ∧ a.limitReached s.now = true) ↔ ended := by
      rw [Announce.limitReached_iff, hstart, show a.state = st by rw [ha]; rfl,
        show a.maxSecs = m by rw [ha]; rfl]
      rfl
    have hrecord := hannounced.record
    have hfields : (t.ann p).source = src ∧ (t.ann p).lead = l ∧ (t.ann p).hangover = h ∧
        (t.ann p).maxSecs = m ∧ (t.ann p).cueLevel = level := by
      rw [hrecord, ha]
      exact ⟨rfl, rfl, rfl, rfl, rfl⟩
    obtain ⟨hsource, hlead, hhang, hmax, hcue⟩ := hfields
    refine ⟨t, ?_, hsource, hlead, hhang, hmax, hcue, ?_, ?_, ?_, ?_, fun he => ?ended, fun he => ?goesOn,
      hannounced.other, hannounced.restKept⟩
    · have hbyte : beBytes 1 src.code = [source] := by rw [← hs, beBytes_one_toNat]
      rw [hexec, hanswer, answered_adjusted, Announce.cueBytes, hsource, hlead, hhang, hmax, hcue, hbyte]
    · rw [hrecord, ha]
      rfl
    · rw [hrecord, ha]
      rfl
    · rw [hrecord, ha]
      rfl
    · rw [hrecord, ha]
      rfl
    case ended =>
      have he' := hended.2 he
      have hself := hannounced.self he'
      have hparts : (t.ann p).state = (if a.state = .onAir then .barred else .quiet) ∧
          (t.ann p).hangCtr = 0 ∧ (t.ann p).overruns = min 65535 (a.overruns + 1) := by
        rw [hself]
        exact ⟨rfl, rfl, rfl⟩
      rw [ha] at hparts
      obtain ⟨hst, hhc, hov⟩ := hparts
      refine ⟨hst, hhc, hov, fun q hq => ?_, hannounced.attention he'⟩
      rw [hannounced.closing he', if_neg hq]
    case goesOn =>
      obtain ⟨hself, hatt, hclosing⟩ := hannounced.unended fun h => he (hended.1 h)
      have hparts : (t.ann p).state = a.state ∧ (t.ann p).overruns = a.overruns ∧
          (t.ann p).hangCtr = a.hangCtr := by
        rw [hself]
        exact ⟨rfl, rfl, rfl⟩
      rw [ha] at hparts
      obtain ⟨hst, hov, hhc⟩ := hparts
      refine ⟨hst, hov, hhc, fun q hq => ?_, hatt⟩
      rw [hclosing, if_neg hq]

end Sys2Proof.Machine
end

section
/-! SUPPORT. Announcement control at a tick boundary (06 R119 to R129): the proof of O15. -/

namespace Sys2Proof.Machine

variable {s t u : State}

/-! ### One record -/

/-- The level of the cue line after a sample found it at `found` (06 R119). -/
def Announce.lineAt (a : Announce) (found : Bool) : Bool :=
  if found = a.lineSample ∧ found ≠ a.lineLevel then found else a.lineLevel

/-- The record with the line's sample and level written. -/
def Announce.withLine (a : Announce) (found : Bool) : Announce :=
  { a with lineSample := found, lineLevel := a.lineAt found }

/-- The cue level after a sample found the line at `found` (06 R120). -/
def Announce.cueAt (a : Announce) (found carries : Bool) : Bool :=
  if found = a.lineSample ∧ found ≠ a.lineLevel then (a.withLine found).cueTerm carries else a.cueLevel

/-- The sampling of the cue line moves the record by its cue level (06 R119, R120). -/
theorem Announce.sampleLine_eq (a : Announce) (found carries : Bool) (b : Bulletin) :
    a.sampleLine found carries b = (a.withLine found).movedTo (a.cueAt found carries)
      ((a.withLine found).stateAt (a.cueAt found carries)) b := by
  unfold Announce.sampleLine Announce.cueAt
  split
  · next h =>
    have hline : ({ a with lineLevel := found, lineSample := found } : Announce) = a.withLine found := by
      rw [Announce.withLine, Announce.lineAt, if_pos h]
    rw [hline, Announce.recompute_eq]
  · next h =>
    have hstate : (a.withLine found).stateAt a.cueLevel = (a.withLine found).state := if_pos rfl
    rw [hstate, Announce.movedTo_same, Announce.withLine, Announce.lineAt, if_neg h]

/-- The state after the counters of a record in state `a.state` have been counted, given the state `st` that
the cue line left it in (06 R129). -/
def Announce.countedState (a : Announce) (st : AnnState) : AnnState :=
  if st ≠ a.state then st
  else if st = .leading ∧ a.leadCtr ≤ 1 then .onAir
  else if st = .hanging ∧ a.hangCtr ≤ 1 then .quiet else st

/-- The bulletin starts at the move from `a.state` to `st` (06 R123). -/
abbrev Announce.enters (a : Announce) (st : AnnState) : Prop :=
  st = .onAir ∧ (a.state = .quiet ∨ a.state = .leading)

/-- The record when its counters, its state and its bulletin are those of a boundary that leaves it in state
`st` (06 R122 to R129). -/
def Announce.countedTo (a : Announce) (st : AnnState) (b : Bulletin) : Announce :=
  { a with
    state := st
    leadCtr := if st = .leading then (if a.state = .leading then a.leadCtr - 1 else a.lead)
      else if a.state = .leading ∨ a.enters st then 0 else a.leadCtr
    hangCtr := if st = .hanging then (if a.state = .hanging then a.hangCtr - 1 else a.hangover)
      else if a.state = .hanging then 0 else a.hangCtr
    bulletin := if a.enters st then some b else a.bulletin
    bulletins := if a.enters st then min 65535 (a.bulletins + 1) else a.bulletins }

/-- A counter that the cue line did not set counts down, and is acted on at 0 (06 R123, R125). -/
theorem Announce.countDown_eq (a : Announce) (b : Bulletin) :
    a.countDown b = a.countedTo (a.countedState a.state) b := by
  have hadd : satAdd Config.maxCount a.bulletins 1 = min 65535 (a.bulletins + 1) := rfl
  cases h : a.state with
  | leading =>
    by_cases hc : a.leadCtr ≤ 1
    · simp [Announce.countDown, Announce.countedTo, Announce.countedState, h, hc, Announce.enterOnAir, hadd]
    · simp [Announce.countDown, Announce.countedTo, Announce.countedState, h, hc]
  | hanging =>
    by_cases hc : a.hangCtr ≤ 1
    · simp [Announce.countDown, Announce.countedTo, Announce.countedState, h, hc]
    · simp [Announce.countDown, Announce.countedTo, Announce.countedState, h, hc]
  | quiet | onAir | barred => 
    cases a
    simp_all [Announce.countDown, Announce.countedTo, Announce.countedState, Announce.enters]

theorem Announce.stateAt_leading {a : Announce} (h : a.state = .leading) (level : Bool) :
    a.stateAt level ≠ .onAir := by
  unfold Announce.stateAt
  rw [h]
  split
  · exact nofun
  · split <;> exact nofun

/-- A record moved by its cue level to another state is not counted at that boundary (06 R129). -/
theorem Announce.movedTo_eq (a : Announce) (level : Bool) (b : Bulletin)
    (h : a.stateAt level ≠ a.state) :
    a.movedTo level (a.stateAt level) b =
      ({ a with cueLevel := level } : Announce).countedTo (a.stateAt level) b := by
  have hlead := fun hl => Announce.stateAt_leading (a := a) hl level
  generalize a.stateAt level = st at h hlead ⊢
  unfold Announce.movedTo Announce.countedTo Announce.enters
  cases ha : a.state <;> cases st <;> simp_all

/-- The record after a boundary that found its line at `found` and left it in state `st`. -/
def Announce.counted (a : Announce) (found carries : Bool) (st : AnnState) (b : Bulletin) : Announce :=
  ({ a.withLine found with cueLevel := a.cueAt found carries } : Announce).countedTo st b

/-- A record after steps 1 and 2 of a boundary (06 R129). -/
theorem Announce.boundary_eq (a : Announce) (found carries : Bool) (b : Bulletin) :
    a.boundary found carries b = a.counted found carries
      (a.countedState ((a.withLine found).stateAt (a.cueAt found carries))) b := by
  obtain ⟨cue, hcue⟩ : ∃ cue, cue = a.cueAt found carries := ⟨_, rfl⟩
  obtain ⟨st, hst⟩ : ∃ st, st = (a.withLine found).stateAt cue := ⟨_, rfl⟩
  rw [← hcue, ← hst, Announce.counted, ← hcue]
  rw [Announce.boundary, Announce.sampleLine_eq, ← hcue, ← hst]
  dsimp only
  split
  · next h =>
    have hsame : st = (a.withLine found).state := h
    rw [hsame, Announce.movedTo_same, Announce.countDown_eq]
    rfl
  · next h =>
    have hcounted : a.countedState st = st := if_pos h
    rw [hcounted]
    rw [hst] at h ⊢
    exact Announce.movedTo_eq (a.withLine found) cue b h

/-- A record whose state the cue line leaves as it is, at a boundary. -/
theorem Announce.boundary_unmoved {a : Announce} {found carries : Bool} {b : Bulletin}
    (h : (a.sampleLine found carries b).state = a.state) :
    a.boundary found carries b = a.counted found carries (a.countedState a.state) b := by
  rw [Announce.sampleLine_eq] at h
  have hst : (a.withLine found).stateAt (a.cueAt found carries) = a.state := h
  rw [Announce.boundary_eq, hst]

/-! ### One programme's work -/

/-- Announcement control's work puts the boundary's record in its place, and tests the maximum duration. -/
theorem announceWork_announced (p : Ch) (s : State) {a : Announce}
    (ha : (s.ann p).boundary (s.cueFound p) (s.prog p).carries s.bulletinNow = a) :
    s.Announced (announceWork p s) p a (a.limitReached s.now = true) := by
  have hnow : (s.putAnn p a).now = s.now := congrArg SiteTime.tickCount (State.putAnn_time s p a)
  have h := overrunAt_announced s p a s.now hnow True
  rw [announceWork, ha, hnow]
  simpa only [true_and] using h

theorem Announce.overrun_eq (a : Announce) : a.overrun = { a with
    state := if a.state = .onAir then .barred else .quiet
    hangCtr := 0
    overruns := min 65535 (a.overruns + 1) } := rfl

/-- What one programme's row leaves, its bulletin not ended by its maximum duration. -/
theorem announceWork_unended (p : Ch) (s : State) {a : Announce}
    (ha : (s.ann p).boundary (s.cueFound p) (s.prog p).carries s.bulletinNow = a)
    (hclosing : a.closing = (s.ann p).closing) (hflag : a.flag ≠ (s.ann p).flag)
    (hlimit : ¬ a.limitReached s.now = true) :
    let t := announceWork p s
    t.ann p = { a with closing := (t.ann p).closing } ∧
      (∀ q, (t.ann q).closing =
        if (s.prog q).target = some p then (if a.flag then 0 else 3) else (s.ann q).closing) ∧
      (∀ q, q ≠ p → t.ann q = { s.ann q with closing := (t.ann q).closing }) ∧
      t = { s with announce := t.announce } := by
  have hann := announceWork_announced p s ha
  obtain ⟨t, ht⟩ : ∃ t, t = announceWork p s := ⟨_, rfl⟩
  rw [← ht] at hann ⊢
  obtain ⟨hself, hatt, hcl⟩ := hann.unended hlimit
  have htflag : (t.ann p).flag = a.flag := by rw [hself]; rfl
  refine ⟨hself, fun q => ?_, hann.other, ?_⟩
  · rw [hcl, htflag]
    simp only [ne_eq, hflag, not_false_eq_true, and_true]
    split
    · rfl
    · split
      · next hq => rw [hq, hclosing]
      · rfl
  · have hrest := hann.restKept
    rw [hatt] at hrest
    exact hrest

/-- A boundary that takes one programme's announcement work alone (log entry 2). -/
theorem works_announce (s : State) (second : Bool) (p : Ch) :
    s.works second (othersThan (· = .announce p)) =
      { announceWork p s with
        due := (s.boundaryWorks second).filter fun w => !decide (w = .announce p) } := by
  have hcount : (s.boundaryWorks second).count (.announce p) = 1 := by
    have hengine : engineWorks.count (.announce p) = 1 := by revert p; decide
    have hsecond : (if second then s.secondWorks else []).count (.announce p) = 0 := by
      refine List.count_eq_zero.2 fun h => ?_
      cases second <;> simp [State.secondWorks] at h
    have htrim : (if s.time.trimSpent then [Work.trimExpiry] else []).count (.announce p) = 0 := by
      refine List.count_eq_zero.2 fun h => ?_
      split at h <;> simp at h
    simp only [State.boundaryWorks, List.count_append, hengine, hsecond, htrim]
    rw [List.count_eq_zero.2 (by simp), List.count_eq_zero.2 (by simp), List.count_eq_zero.2 (by simp)]
  rw [State.works_othersThan, List.filter_eq, hcount]
  rfl

theorem withLink_overrun (a : Attention) (p : Port) (lost : Bool) :
    (a.withLink p lost).overrun = a.overrun := by
  unfold Attention.withLink
  split <;> rfl

/-! ### The statement -/

/-- Settles O15: a programme's work puts the boundary's record in its place and ends a bulletin that has
reached its maximum. -/
theorem leadsHangoversAndBulletinsEnd : Obligations.LeadsHangoversAndBulletinsEnd := by
  refine ⟨fun p s hp hdue hst hctr hsampled hmax => ?lead, fun p s hp hdue hsampled =>
    ⟨fun hst hctr => ?hangover, fun b hb hmax hst => ?maximum⟩, fun p lines s hp => ?boundary⟩
  case lead =>
    have hrow : s.leadDueOn p = true := by
      simp [State.leadDueOn, State.outstanding_iff, hdue, hst, hctr, hsampled]
    have hrecord := Announce.boundary_unmoved (hsampled.trans hst.symm : (s.sampled p).state = _)
    have hcounted : (s.ann p).countedState (s.ann p).state = .onAir := by
      simp [Announce.countedState, hst, hctr]
    rw [hcounted] at hrecord
    have hflag : (s.ann p).flag = false := by simp [Announce.flag, hst]
    have henter : (s.ann p).enters .onAir := ⟨rfl, .inr hst⟩
    obtain ⟨hself, hclosing, hother, hrest⟩ := announceWork_unended p s hrecord rfl
      (by rw [hflag]; exact Bool.true_eq_false_eq_False)
      (by
        rw [Announce.limitReached_iff]
        rintro ⟨-, c, hc, hle⟩
        simp [Announce.counted, Announce.countedTo, Announce.withLine, Announce.enters, hst] at hc hle
        subst hc
        simp [State.bulletinNow, State.now] at hle
        omega)
    refine ⟨_, running_takeWhen_due hp (.announce p) hrow, ?_⟩
    obtain ⟨t, ht⟩ : ∃ t, t = announceWork p s := ⟨_, rfl⟩
    rw [← ht] at hself hclosing hother hrest
    rw [State.take, ← ht]
    refine ⟨congrArg Announce.state hself, (congrArg Announce.leadCtr hself).trans ?_,
      (congrArg Announce.bulletin hself).trans ?_, (congrArg Announce.bulletins hself).trans ?_, hclosing, hother, ?_⟩
    · simp [Announce.counted, Announce.countedTo, Announce.withLine, hst]
    · simp [Announce.counted, Announce.countedTo, Announce.withLine, Announce.enters, hst, State.bulletinNow]
    · simp [Announce.counted, Announce.countedTo, Announce.withLine, Announce.enters, hst]
    · rw [hrest]
      rfl
  case hangover =>
    have hrow : s.hangoverDueOn p = true := by
      simp [State.hangoverDueOn, State.outstanding_iff, hdue, hst, hctr, hsampled]
    have hrecord := Announce.boundary_unmoved hsampled
    have hcounted : (s.ann p).countedState (s.ann p).state = .quiet := by
      simp [Announce.countedState, hst, hctr]
    rw [hcounted] at hrecord
    have hflag : (s.ann p).flag = true := by simp [Announce.flag, hst]
    obtain ⟨hself, hclosing, hother, hrest⟩ := announceWork_unended p s hrecord rfl
      (by rw [hflag]; exact Bool.false_ne_true)
      (by
        rw [Announce.limitReached_iff]
        rintro ⟨h | h, -⟩ <;> cases h)
    refine ⟨_, running_takeWhen_due hp (.announce p) hrow, ?_⟩
    obtain ⟨t, ht⟩ : ∃ t, t = announceWork p s := ⟨_, rfl⟩
    rw [← ht] at hself hclosing hother hrest
    rw [State.take, ← ht]
    refine ⟨congrArg Announce.state hself, (congrArg Announce.hangCtr hself).trans ?_,
      (congrArg Announce.bulletin hself).trans ?_,
      (congrArg Announce.overruns hself).trans rfl, hclosing, hother, ?_⟩
    · simp [Announce.counted, Announce.countedTo, Announce.withLine, hst]
    · simp [Announce.counted, Announce.countedTo, Announce.withLine, Announce.enters]
    · rw [hrest]
      rfl
  case maximum =>
    have hrecord := Announce.boundary_unmoved hsampled
    have hcounted : (s.ann p).countedState (s.ann p).state = (s.ann p).state := by
      rcases hst with h | ⟨h, hc⟩
      · simp [Announce.countedState, h]
      · simp [Announce.countedState, h]
        omega
    have hair : (s.ann p).state = .onAir ∨ (s.ann p).state = .hanging := hst.imp id And.left
    have hnot : ¬ (s.ann p).enters (s.ann p).state := by
      rcases hair with h | h <;> simp [Announce.enters, h]
    rw [hcounted] at hrecord
    have hann := announceWork_announced p s hrecord
    obtain ⟨a, ha⟩ : ∃ a, a = (s.ann p).counted (s.cueFound p) (s.prog p).carries (s.ann p).state
      s.bulletinNow := ⟨_, rfl⟩
    rw [← ha] at hrecord hann
    have hstate : a.state = (s.ann p).state := by rw [ha]; rfl
    have hbulletin : a.bulletin = some b := by rw [ha]; exact (if_neg hnot).trans hb
    have hmaxSecs : a.maxSecs = (s.ann p).maxSecs := by rw [ha]; rfl
    have hended : a.limitReached s.now = true := by
      rw [Announce.limitReached_iff, hstate, hbulletin, hmaxSecs]
      exact ⟨hair, b.count, rfl, hmax⟩
    have hrow : s.maximumDueOn p = true := by
      rw [State.maximumDueOn, hrecord, Bool.and_eq_true, State.outstanding_iff]
      exact ⟨hdue, hended⟩
    refine ⟨_, running_takeWhen_due hp (.announce p) hrow, ?_⟩
    obtain ⟨t, ht⟩ : ∃ t, t = announceWork p s := ⟨_, rfl⟩
    rw [← ht] at hann
    rw [State.take, ← ht]
    have hself := hann.self hended
    refine ⟨(congrArg Announce.state hself).trans (by rw [← hstate]; rfl), congrArg Announce.hangCtr hself,
      (congrArg Announce.bulletin hself).trans hbulletin,
      (congrArg Announce.overruns hself).trans (by rw [ha]; rfl), fun q => ?_, hann.other, ?_⟩
    · refine (hann.closing hended q).trans ?_
      split
      · rfl
      · split
        · next hq => rw [hq, ha]; rfl
        · rfl
    · have hrest := hann.rest hended
      rw [hrest]
      rfl
  case boundary =>
    intro r a found
    refine ⟨_, exec_tickBoundary hp lines _, ?_⟩
    obtain ⟨hbtable, hbstreams, hbmap, hbstore, hbannounce, hbmonitor⟩ := begun_blocks s lines
    have hbcue : (s.begun lines).cueFound p = found := by
      rw [State.begun_eq]
      rfl
    have hboverrun : (s.begun lines).attention.overrun = r.attention.overrun := by
      rw [State.begun_eq, State.finishTick_eq]
      exact (withLink_overrun ..).trans (withLink_overrun ..)
    obtain ⟨b, hb⟩ : ∃ b, b = s.begun lines := ⟨_, rfl⟩
    rw [← hb] at hbtable hbstreams hbmap hbstore hbannounce hbmonitor hbcue hboverrun ⊢
    have hbann : ∀ q, b.ann q = r.ann q := fun q => congrArg (fun x : Four Announce => x.get q) hbannounce
    have hbprog : ∀ q, b.prog q = r.prog q := fun q => congrArg (fun x : Store => x.progs.get q) hbstore
    have hrecord := (b.ann p).boundary_eq (b.cueFound p) (b.prog p).carries b.bulletinNow
    have hann := announceWork_announced p b hrecord
    rw [hbcue, hbann, hbprog] at hann
    rw [works_announce]
    obtain ⟨t, ht⟩ : ∃ t, t = announceWork p b := ⟨_, rfl⟩
    rw [← ht] at hann ⊢
    have hrest := hann.restKept
    have htime : t.time = b.time := by rw [hrest]
    intro now accepted line cue st counted entered start ended rec
    have hcue : cue = a.cueAt found (r.prog p).carries := by
      simp only [cue, accepted, Announce.cueAt]
      refine if_congr Iff.rfl ?_ rfl
      cases h : a.source <;>
        simp [Announce.cueTerm, Announce.withLine, Announce.lineAt, h, line, accepted]
    have hcounted : (r.ann p).countedState
        (((r.ann p).withLine found).stateAt ((r.ann p).cueAt found (r.prog p).carries)) = counted := by
      change a.countedState ((a.withLine found).stateAt (a.cueAt found (r.prog p).carries)) = counted
      rw [← hcue]
      rfl
    have hbulletin : b.bulletinNow = ⟨t.time.seconds, t.time.tickNumber, now⟩ := by
      simp only [now, htime]
      rfl
    rw [hcounted] at hann
    obtain ⟨x, hx⟩ : ∃ x, x = (r.ann p).counted found (r.prog p).carries counted b.bulletinNow := ⟨_, rfl⟩
    rw [← hx] at hann
    have hxeq : x = { a with
        lineSample := found
        lineLevel := line
        cueLevel := cue
        state := counted
        leadCtr := if counted = .leading then (if a.state = .leading then a.leadCtr - 1 else a.lead)
          else if a.state = .leading ∨ entered then 0 else a.leadCtr
        hangCtr := if counted = .hanging then (if a.state = .hanging then a.hangCtr - 1 else a.hangover)
          else if a.state = .hanging then 0 else a.hangCtr
        bulletin := if entered then some ⟨t.time.seconds, t.time.tickNumber, now⟩ else a.bulletin
        bulletins := if entered then min 65535 (a.bulletins + 1) else a.bulletins } := by
      rw [hx, ← hbulletin, hcue]
      rfl
    have hclosing : x.closing = a.closing := by rw [hxeq]
    have hended : x.limitReached b.now = true ↔ ended := by
      have hstart : (x.bulletin.map fun y => y.count) = start := by
        rw [hxeq]
        simp only [start]
        split <;> rfl
      have hnow : b.now = now := by rw [State.now, ← htime]
      rw [Announce.limitReached_iff, hstart, hnow, hxeq]
    have hclose : ∀ q, (if q = p then x else b.ann q).closing = (r.ann q).closing := fun q => by
      split
      · next hq => rw [hq, hclosing]
      · rw [hbann]
    refine ⟨?record, fun he => ?unended, fun he => ?ended, fun q hq => ?_, ?_, ?_, ?_, ?_, ?_⟩
    case record =>
      have := hann.record
      rw [hxeq] at this
      exact this
    case unended =>
      obtain ⟨hself, hatt, hcl⟩ := hann.unended (mt hended.1 he)
      have hself' := hself.trans (congrArg (fun y : Announce => { y with closing := (t.ann p).closing }) hxeq)
      refine ⟨(congrArg Announce.state hself').trans rfl, (congrArg Announce.overruns hself').trans rfl,
        (congrArg Announce.hangCtr hself').trans rfl, fun q => ?_, ?_⟩
      · refine (hcl q).trans ?_
        rw [hbprog, hclose, hbann]
        rfl
      · exact (congrArg Attention.overrun hatt).trans hboverrun
    case ended =>
      have he := hended.2 he
      have hself := hann.self he
      have hself' := hself.trans (congrArg
        (fun y : Announce => { y.overrun with closing := (t.ann p).closing }) hxeq)
      refine ⟨(congrArg Announce.state hself').trans rfl, (congrArg Announce.hangCtr hself').trans rfl,
        (congrArg Announce.overruns hself').trans rfl, fun q => ?_, ?_, ?_⟩
      · refine (hann.closing he q).trans ?_
        rw [hbprog, hclose]
      · change t.attention.isPending 2 = true
        rw [hann.attention he]
        simp [Attention.isPending, State.withKind]
      · change t.attention.overrun = _
        rw [hann.attention he, hboverrun]
    · exact (hann.other q hq).trans (by rw [hbann]; rfl)
    · exact (congrArg State.table hrest).trans hbtable
    · exact (congrArg State.map hrest).trans hbmap
    · exact (congrArg State.store hrest).trans hbstore
    · exact (congrArg State.streams hrest).trans hbstreams
    · exact (congrArg State.monitor hrest).trans hbmonitor

end Sys2Proof.Machine
end

section
/-! SUPPORT. Held submits whose streams are counted off, and the off-air monitor (08 R159 to R171): the proofs
of O17, O18 and O19. -/

namespace Sys2Proof.Machine

variable {s t u : State}

/-! ### Held submits -/

theorem State.settleHeld_eq (s : State) (p : Port) (h : Held) :
    s.settleHeld p h = s.setPort p
      (if h.remaining = 0#4 then
        PortState.heldAnswered { s.port p with held := some h }
          (if h.satisfied = 0#4 then .confirmLate else .confirmed)
      else { s.port p with held := some h }) := by
  have htwice (x y : PortState) : (s.setPort p x).setPort p y = s.setPort p y := by cases p <;> rfl
  unfold State.settleHeld
  dsimp only
  split
  · rw [State.finishHeld_eq, htwice, State.port_setPort_self]
  · rfl

/-- A port after a count of record `r` on stream `n` changed (01 R30). -/
def PortState.heldTested (x : PortState) (i : Nat) (n : Ch) (r : Record) : PortState :=
  match x.held with
  | some h => if h.slot = i ∧ chMem h.remaining n ∧ h.satisfiedBy n r then x.heldLess h n true else x
  | none => x

/-- A port after stream `n` stopped airing the notice in slot `i` (01 R30). -/
def PortState.heldLeft (x : PortState) (i : Nat) (n : Ch) : PortState :=
  match x.held with
  | some h => if h.slot = i ∧ chMem h.remaining n then x.heldLess h n false else x
  | none => x

theorem testHeldAt_eq (i : Nat) (n : Ch) (r : Record) (p : Port) (s : State) :
    testHeldAt i n r p s = s.setPort p ((s.port p).heldTested i n r) := by
  unfold testHeldAt PortState.heldTested
  cases (s.port p).held with
  | none => rw [State.setPort_port]
  | some h =>
    dsimp only
    split
    · rw [State.settleHeld_eq]
      rfl
    · rw [State.setPort_port]

theorem leaveAt_eq (i : Nat) (n : Ch) (p : Port) (s : State) :
    leaveAt i n p s = s.setPort p ((s.port p).heldLeft i n) := by
  unfold leaveAt PortState.heldLeft
  cases (s.port p).held with
  | none => rw [State.setPort_port]
  | some h =>
    dsimp only
    split
    · rw [State.settleHeld_eq]
      rfl
    · rw [State.setPort_port]

theorem State.testHeld_eq (s : State) (i : Nat) (n : Ch) (r : Record) :
    s.testHeld i n r = { s with
      ports := ⟨s.ports.site.heldTested i n r, s.ports.traffic.heldTested i n r⟩ } := by
  rw [State.testHeld, forPorts, testHeldAt_eq, testHeldAt_eq]
  rfl

theorem State.leaveRemaining_eq (s : State) (i : Nat) (n : Ch) :
    s.leaveRemaining i n = { s with
      ports := ⟨s.ports.site.heldLeft i n, s.ports.traffic.heldLeft i n⟩ } := by
  rw [State.leaveRemaining, forPorts, leaveAt_eq, leaveAt_eq]
  rfl

theorem State.port_testHeld (s : State) (i : Nat) (n : Ch) (r : Record) (p : Port) :
    (s.testHeld i n r).port p = (s.port p).heldTested i n r := by
  rw [State.testHeld_eq]
  cases p <;> rfl

theorem State.port_leaveRemaining (s : State) (i : Nat) (n : Ch) (p : Port) :
    (s.leaveRemaining i n).port p = (s.port p).heldLeft i n := by
  rw [State.leaveRemaining_eq]
  cases p <;> rfl

/-! ### The lock -/

theorem exec_candidateComplete {c : List Bool} (hp : s.pornLow = false) (hc : s.monitor.candidate = some c)
    (hl : 88 ≤ c.length) : exec .candidateComplete s = .next (s.judgeCandidate c) := by
  have hready : s.monitor.candidateReady = some c := by
    simp only [Monitor.candidateReady, hc, ge_iff_le, if_pos hl]
  have h := running_next hp (match s.monitor.candidateReady with
    | some c => s.judgeCandidate c
    | none => s)
  rw [hready] at h
  refine Eq.trans ?_ h
  simp only [exec, execCandidateComplete, hready]

/-- The consecutive own cells in SEARCHING after a candidate (08 R162). -/
abbrev Monitor.runUpNext (m : Monitor) (own : Bool) : Nat :=
  if own then (if m.aligned ∧ 0 < m.runUp then m.runUp + 1 else 1) else 0

/-- The consecutive faults in LOCKED after a candidate (08 R167). -/
abbrev Monitor.faultsNext (m : Monitor) (own : Bool) : Nat := if own then 0 else m.faults + 1

/-- The monitor after the lock's step (08 R162, R167). -/
def Monitor.lockAfter (m : Monitor) (own : Bool) : Monitor :=
  match m.state with
  | .searching =>
    if 3 ≤ m.runUpNext own then { m with state := .locked, runUp := 0, faults := 0 }
    else { m with runUp := m.runUpNext own }
  | .locked =>
    if 6 ≤ m.faultsNext own then { m with state := .searching, faults := 0, runUp := 0 }
    else { m with faults := m.faultsNext own }
  | .off => m

/-- The lock's step changes the monitor's lock, and raises MONITOR where the lock is lost. -/
theorem State.lockStep_eq (s : State) (own : Bool) :
    s.lockStep own = { s with
      monitor := s.monitor.lockAfter own
      attention := if s.monitor.state = .locked ∧ 6 ≤ s.monitor.faultsNext own then
        (s.withKind 0x040#11).attention else s.attention } := by
  unfold State.lockStep Monitor.lockAfter
  cases h : s.monitor.state with
  | off => rfl
  | searching =>
    have hnot : ¬ (MonState.searching = .locked ∧ 6 ≤ s.monitor.faultsNext own) := fun hc => nomatch hc.1
    rw [if_neg hnot]
    dsimp only [Monitor.runUpAfter]
    by_cases hk : 3 ≤ s.monitor.runUpNext own
    · rw [if_pos hk, if_pos hk]
      rfl
    · rw [if_neg hk, if_neg hk, ← h]
      rfl
  | locked =>
    cases own with
    | true =>
      have hfew : ¬ 6 ≤ s.monitor.faultsNext true := by simp [Monitor.faultsNext]
      simp only [hfew, and_false, if_true, if_false]
      rw [← h]
      rfl
    | false =>
      dsimp only [State.lockFault, Monitor.faultsNext]
      by_cases hf : 6 ≤ s.monitor.faults + 1
      · rw [if_neg Bool.false_ne_true, if_pos hf]
        simp only [Bool.false_eq_true, if_false, hf, if_true, and_self]
        rfl
      · rw [if_neg Bool.false_ne_true, if_neg hf]
        simp only [Bool.false_eq_true, if_false, hf, and_false]
        rw [← h]
        rfl

/-- The lock's step leaves tallies, silence and settings. -/
theorem Monitor.lockAfter_kept (m : Monitor) (own : Bool) :
    m.lockAfter own = { m with
      state := (m.lockAfter own).state
      runUp := (m.lockAfter own).runUp
      faults := (m.lockAfter own).faults } := by
  unfold Monitor.lockAfter
  cases h : m.state with
  | off => rfl
  | searching | locked =>
    dsimp only
    split <;> rfl

/-! ### What an own cell is compared with -/

/-- Only the tallies of matched, stale, unknown and mismatched cells, the table and the ports are touched. -/
structure State.Compared (s t : State) : Prop where
  monitor : t.monitor = { s.monitor with holding := { s.monitor.holding with
    matched := t.monitor.holding.matched
    stale := t.monitor.holding.stale
    unknown := t.monitor.holding.unknown
    statusMismatch := t.monitor.holding.statusMismatch
    nameMismatch := t.monitor.holding.nameMismatch } }
  rest : t = { s with monitor := t.monitor, table := t.table, ports := t.ports }

theorem State.Compared.refl (s : State) : s.Compared s := ⟨rfl, rfl⟩

theorem hearHead_compared (s : State) (v : BitVec 48) : s.Compared (s.hearHead v) := by
  unfold State.hearHead
  dsimp only
  split
  · exact ⟨rfl, rfl⟩
  · split
    · exact ⟨rfl, rfl⟩
    · split
      · split
        · rw [State.testHeld_eq]
          exact ⟨rfl, rfl⟩
        · exact ⟨rfl, rfl⟩
      · exact ⟨rfl, rfl⟩

theorem compareStatus_compared (s : State) (v : BitVec 48) : s.Compared (s.compareStatus v) := by
  unfold State.compareStatus
  split <;> exact ⟨rfl, rfl⟩

theorem compareName_compared (s : State) (v : BitVec 48) : s.Compared (s.compareName v) := by
  unfold State.compareName
  split <;> exact ⟨rfl, rfl⟩

theorem actOnOwn_compared (s : State) (kind : BitVec 4) (v : BitVec 48) : s.Compared (s.actOnOwn kind v) := by
  unfold State.actOnOwn
  split
  · exact hearHead_compared s v
  · split
    · exact compareStatus_compared s v
    · split
      · exact compareName_compared s v
      · exact .refl s

/-! ### A candidate -/

/-- The monitor once a verdict has been counted, before an own cell is compared. -/
def Monitor.counted (m : Monitor) (v : Verdict) : Monitor :=
  { m with
    holding := m.holding.countVerdict v
    silence := if v.isOwn then 0 else m.silence
    silent := !v.isOwn && m.silent }

theorem actOnVerdict_own (s : State) (corrected : Bool) (kind : BitVec 4) (x : BitVec 48) :
    s.actOnVerdict (.own corrected kind x) =
      (s.setMonitor (s.monitor.counted (.own corrected kind x))).actOnOwn kind x := rfl

theorem actOnVerdict_other (s : State) {v : Verdict} (h : v.isOwn = false) :
    s.actOnVerdict v = s.setMonitor (s.monitor.counted v) := by
  cases v with
  | own => cases h
  | headerFault | checkFault | foreign => rfl

theorem actOnVerdict_compared (s : State) (v : Verdict) :
    (s.setMonitor (s.monitor.counted v)).Compared (s.actOnVerdict v) := by
  cases h : v.isOwn with
  | false =>
    rw [actOnVerdict_other s h]
    exact .refl _
  | true =>
    cases v with
    | own corrected kind x => exact actOnOwn_compared _ kind x
    | headerFault | checkFault | foreign => cases h

/-- A candidate judged: its verdict acted on, then the lock's step, then the next window. -/
theorem State.judgeCandidate_eq {v : Verdict} {c : List Bool} (hv : judge (s.prog s.monitor.watched).code c = v) :
    s.judgeCandidate c = { s.actOnVerdict v with
      monitor := ((s.actOnVerdict v).monitor.lockAfter v.isOwn).freshWindow
      attention := if s.monitor.state = .locked ∧ 6 ≤ s.monitor.faultsNext v.isOwn then
        (s.withKind 0x040#11).attention else s.attention } := by
  have h := actOnVerdict_compared s v
  obtain ⟨a, ha⟩ : ∃ a, a = s.actOnVerdict v := ⟨_, rfl⟩
  have hmonitor := h.monitor
  have hrest := h.rest
  unfold State.judgeCandidate
  dsimp only
  rw [hv, State.lockStep_eq]
  rw [← ha] at hmonitor hrest ⊢
  have hstate : a.monitor.state = s.monitor.state := by rw [hmonitor]; rfl
  have hfaults : a.monitor.faults = s.monitor.faults := by rw [hmonitor]; rfl
  have hattention : a.attention = s.attention := by rw [hrest]; rfl
  simp only [Monitor.faultsNext, State.withKind, hstate, hfaults, hattention]
  rfl

theorem Monitor.lockAfter_searching {m : Monitor} (own : Bool) (h : m.state = .searching) :
    (m.lockAfter own).state = (if 3 ≤ m.runUpNext own then .locked else .searching) ∧
      (m.lockAfter own).runUp = if 3 ≤ m.runUpNext own then 0 else m.runUpNext own := by
  rw [Monitor.lockAfter, h]
  dsimp only
  split
  · exact ⟨rfl, rfl⟩
  · exact ⟨rfl, rfl⟩

theorem Monitor.lockAfter_locked {m : Monitor} (own : Bool) (h : m.state = .locked) :
    (m.lockAfter own).state = (if 6 ≤ m.faultsNext own then .searching else .locked) ∧
      (m.lockAfter own).faults = if 6 ≤ m.faultsNext own then 0 else m.faultsNext own := by
  rw [Monitor.lockAfter, h]
  dsimp only
  split
  · exact ⟨rfl, rfl⟩
  · exact ⟨rfl, rfl⟩

theorem Monitor.holding_lockAfter (m : Monitor) (own : Bool) : (m.lockAfter own).holding = m.holding :=
  (congrArg Monitor.holding (m.lockAfter_kept own)).trans rfl

theorem tallyUp_eq (k : Nat) : tallyUp k = min 65535 (k + 1) := rfl

/-- The five tallies of a verdict (08 R164 to R166). -/
theorem Tallies.countVerdict_corrected (t : Tallies) (v : Verdict) :
    (t.countVerdict v).corrected = if v.wasCorrected then min 65535 (t.corrected + 1) else t.corrected := by
  unfold Tallies.countVerdict
  cases v.wasCorrected <;> cases v <;> rfl

theorem Tallies.countVerdict_own (t : Tallies) (v : Verdict) :
    (t.countVerdict v).own = if v.isOwn then min 65535 (t.own + 1) else t.own := by
  unfold Tallies.countVerdict
  cases v.wasCorrected <;> cases v <;> rfl

theorem Tallies.countVerdict_headerFaults (t : Tallies) (v : Verdict) :
    (t.countVerdict v).headerFaults = match v with
      | .headerFault => min 65535 (t.headerFaults + 1)
      | _ => t.headerFaults := by
  unfold Tallies.countVerdict
  cases v.wasCorrected <;> cases v <;> rfl

theorem Tallies.countVerdict_checkFaults (t : Tallies) (v : Verdict) :
    (t.countVerdict v).checkFaults = match v with
      | .checkFault _ => min 65535 (t.checkFaults + 1)
      | _ => t.checkFaults := by
  unfold Tallies.countVerdict
  cases v.wasCorrected <;> cases v <;> rfl

theorem Tallies.countVerdict_foreign (t : Tallies) (v : Verdict) :
    (t.countVerdict v).foreign = match v with
      | .foreign _ => min 65535 (t.foreign + 1)
      | _ => t.foreign := by
  unfold Tallies.countVerdict
  cases v.wasCorrected <;> cases v <;> rfl

/-- Settles O17: the verdict's tallies are counted, an own cell is compared, and the lock takes its step. -/
theorem aCandidateIsTalliedAndMovesTheLock : Obligations.ACandidateIsTalliedAndMovesTheLock := by
  intro c s hp hc hl v
  refine ⟨_, exec_candidateComplete hp hc hl, ?_⟩
  rw [State.judgeCandidate_eq (v := v) rfl]
  have hcompared := actOnVerdict_compared s v
  have hother := actOnVerdict_other s (v := v)
  obtain ⟨a, ha⟩ : ∃ a, a = s.actOnVerdict v := ⟨_, rfl⟩
  rw [← ha] at hcompared hother ⊢
  have hmonitor := hcompared.monitor
  have hrest := hcompared.rest
  have hholding : (a.monitor.lockAfter v.isOwn).holding = a.monitor.holding :=
    Monitor.holding_lockAfter ..
  have hkept := a.monitor.lockAfter_kept v.isOwn
  have hstate : a.monitor.state = s.monitor.state := by rw [hmonitor]; rfl
  have hrunUp : a.monitor.runUpNext v.isOwn = s.monitor.runUpNext v.isOwn := by rw [hmonitor]; rfl
  have hfaults : a.monitor.faultsNext v.isOwn = s.monitor.faultsNext v.isOwn := by rw [hmonitor]; rfl
  refine ⟨rfl, rfl, rfl, rfl, ?corrected, ?own, ?header, ?check, ?foreign, ?silence, ?silent, ?notOwn,
    fun hsearch => ?searching, fun hlock => ?locked, ?_, ?_, ?_, ?_, ?_⟩
  case corrected =>
    refine (congrArg Tallies.corrected hholding).trans ?_
    rw [hmonitor]
    exact Tallies.countVerdict_corrected ..
  case own =>
    refine (congrArg Tallies.own hholding).trans ?_
    rw [hmonitor]
    exact Tallies.countVerdict_own ..
  case header =>
    refine (congrArg Tallies.headerFaults hholding).trans ?_
    rw [hmonitor]
    exact Tallies.countVerdict_headerFaults ..
  case check =>
    refine (congrArg Tallies.checkFaults hholding).trans ?_
    rw [hmonitor]
    exact Tallies.countVerdict_checkFaults ..
  case foreign =>
    refine (congrArg Tallies.foreign hholding).trans ?_
    rw [hmonitor]
    exact Tallies.countVerdict_foreign ..
  case silence =>
    refine (congrArg Monitor.silence hkept).trans ?_
    rw [hmonitor]
    rfl
  case silent =>
    refine (congrArg Monitor.silent hkept).trans ?_
    rw [hmonitor]
    rfl
  case notOwn =>
    intro hnot
    rw [hother hnot]
    exact ⟨rfl, rfl⟩
  case searching =>
    obtain ⟨hs, hr⟩ := Monitor.lockAfter_searching v.isOwn (hstate.trans hsearch)
    rw [hrunUp] at hs hr
    exact ⟨hs, hr, if_neg fun hl => by rw [hsearch] at hl; exact nomatch hl.1⟩
  case locked =>
    obtain ⟨hs, hf⟩ := Monitor.lockAfter_locked v.isOwn (hstate.trans hlock)
    rw [hfaults] at hs hf
    exact ⟨hs, hf, by simp only [hlock, true_and]⟩
  · exact (congrArg State.map hrest).trans rfl
  · exact (congrArg State.store hrest).trans rfl
  · exact (congrArg State.streams hrest).trans rfl
  · exact (congrArg State.announce hrest).trans rfl
  · exact (congrArg State.time hrest).trans rfl

/-! ### An own HEAD -/

theorem hearHead_unknown {v : BitVec 48} (h : s.findSlot (headNumber v) = none) :
    s.hearHead v = s.tally fun t => { t with unknown := tallyUp t.unknown } := by
  simp only [State.hearHead, h]

theorem hearHead_stale {v : BitVec 48} {i : Nat} {nt : Notice} (h : s.findSlot (headNumber v) = some i)
    (hn : s.notice i = some nt) (hstale : nt.airsOn s.monitor.watched = false ∨ nt.version ≠ headVersion v) :
    s.hearHead v = s.tally fun t => { t with stale := tallyUp t.stale } := by
  simp only [State.hearHead, h, hn]
  unfold Notice.airsOn at hstale
  cases hr : nt.record s.monitor.watched with
  | none => rfl
  | some r =>
    rw [hr] at hstale
    dsimp only at hstale ⊢
    refine if_neg fun hc => ?_
    rcases hstale with hstale | hstale
    · rw [hstale] at hc
      exact Bool.false_ne_true hc.2
    · exact hstale hc.1

/-- The record of a HEAD heard once more (08 R168). -/
abbrev Record.heardAgain (r : Record) : Record := { r with heard := min 65535 (r.heard + 1) }

theorem hearHead_matched {v : BitVec 48} {i : Nat} {nt : Notice} {r : Record}
    (h : s.findSlot (headNumber v) = some i) (hn : s.notice i = some nt)
    (hr : nt.record s.monitor.watched = some r) (hm : r.mode = .airing) (hv : nt.version = headVersion v) :
    s.hearHead v = (((s.tally fun t => { t with matched := tallyUp t.matched }).setSlot i
      (some (nt.withRecord s.monitor.watched (some r.heardAgain)))).testHeld i s.monitor.watched
        r.heardAgain) := by
  have hairing : r.isAiring = true := by rw [Record.isAiring, hm]
  simp only [State.hearHead, h, hn, hr, hv, hairing, and_self, if_true]
  rfl

/-- A HEAD heard satisfies its stream's count; only a completed run is then still wanted (01 R30). -/
theorem PortState.heldTested_heard (x : PortState) (i : Nat) (n : Ch) (r : Record) :
    x.heldTested i n r.heardAgain = match x.held with
      | some h => if h.slot = i ∧ chMem h.remaining n = true ∧ 1 ≤ r.airings then x.heldLess h n true else x
      | none => x := by
  unfold PortState.heldTested
  cases x.held with
  | none => rfl
  | some h =>
    refine if_congr (and_congr_right fun _ => and_congr_right fun _ => ?_) rfl rfl
    have hheard : 1 ≤ r.heardAgain.heard := by dsimp only; omega
    simp [Held.satisfiedBy, hheard]

/-! ### Own cells -/

theorem actOnOwn_head (s : State) (v : BitVec 48) : s.actOnOwn 6#4 v = s.hearHead v := rfl

theorem actOnOwn_other {kind : BitVec 4} (s : State) (v : BitVec 48) (hk : kind ≠ 6#4) :
    s.actOnOwn kind v = if kind = 1#4 then s.compareStatus v
      else if kind = 3#4 then s.compareName v else s := if_neg hk

theorem nameMatches_eq_false_iff (names : Option Names) (v : BitVec 48) :
    nameMatches names v = false ↔ ∀ x, names = some x →
      v.extractLsb' 8 32 ≠ chars4 x.short (4 * (v.getLsbD 47).toNat) := by
  have hseg : v.getMsbD 0 = v.getLsbD 47 := rfl
  cases names with
  | none => simp [nameMatches]
  | some x => simp [nameMatches, hseg]

theorem hearHead_mismatches (s : State) (v : BitVec 48) :
    (s.hearHead v).monitor.holding.statusMismatch = s.monitor.holding.statusMismatch ∧
      (s.hearHead v).monitor.holding.nameMismatch = s.monitor.holding.nameMismatch := by
  unfold State.hearHead
  dsimp only
  split
  · exact ⟨rfl, rfl⟩
  · split
    · exact ⟨rfl, rfl⟩
    · split
      · split
        · rw [State.testHeld_eq]
          exact ⟨rfl, rfl⟩
        · exact ⟨rfl, rfl⟩
      · exact ⟨rfl, rfl⟩

/-- The tallies of mismatched STATUS and NAME cells (08 R170, R171). -/
theorem actOnOwn_mismatches (s : State) (kind : BitVec 4) (v : BitVec 48) :
    (s.actOnOwn kind v).monitor.holding.statusMismatch =
        (if kind = 1#4 ∧ v.getLsbD 46 ≠ (s.ann s.monitor.watched).flag then
          min 65535 (s.monitor.holding.statusMismatch + 1) else s.monitor.holding.statusMismatch) ∧
      (s.actOnOwn kind v).monitor.holding.nameMismatch =
        (if kind = 3#4 ∧ (∀ x, (s.prog s.monitor.watched).currentNames = some x →
            v.extractLsb' 8 32 ≠ chars4 x.short (4 * (v.getLsbD 47).toNat)) then
          min 65535 (s.monitor.holding.nameMismatch + 1) else s.monitor.holding.nameMismatch) := by
  by_cases hhead : kind = 6#4
  · subst hhead
    have hnotStatus : ¬ (6#4 : BitVec 4) = 1#4 := by decide
    have hnotName : ¬ (6#4 : BitVec 4) = 3#4 := by decide
    simp only [actOnOwn_head, hnotStatus, hnotName, false_and, if_false]
    exact hearHead_mismatches s v
  rw [actOnOwn_other s v hhead]
  by_cases hstatus : kind = 1#4
  · subst hstatus
    have hbit : v.getMsbD 1 = v.getLsbD 46 := rfl
    have hnotName : ¬ (1#4 : BitVec 4) = 3#4 := by decide
    simp only [State.compareStatus, hbit, hnotName, false_and, true_and, if_true, if_false, ne_eq, ite_not]
    split <;> exact ⟨rfl, rfl⟩
  simp only [← nameMatches_eq_false_iff, hstatus, false_and, if_false]
  by_cases hname : kind = 3#4
  · simp only [hname, if_true, true_and, State.compareName]
    cases nameMatches (s.prog s.monitor.watched).currentNames v with
    | true => exact ⟨rfl, rfl⟩
    | false => exact ⟨rfl, rfl⟩
  · simp only [hname, if_false, false_and, and_self]

/-- An own cell of another kind than HEAD leaves the tallies of heads, the table and the ports. -/
theorem actOnOwn_notHead {kind : BitVec 4} (s : State) (v : BitVec 48) (hk : kind ≠ 6#4) :
    (s.actOnOwn kind v).table = s.table ∧ (s.actOnOwn kind v).ports = s.ports ∧
      (s.actOnOwn kind v).monitor.holding.matched = s.monitor.holding.matched ∧
      (s.actOnOwn kind v).monitor.holding.stale = s.monitor.holding.stale ∧
      (s.actOnOwn kind v).monitor.holding.unknown = s.monitor.holding.unknown := by
  rw [actOnOwn_other s v hk, State.compareStatus, State.compareName]
  split
  · split <;> exact ⟨rfl, rfl, rfl, rfl, rfl⟩
  · split
    · split <;> exact ⟨rfl, rfl, rfl, rfl, rfl⟩
    · exact ⟨rfl, rfl, rfl, rfl, rfl⟩

/-- Settles O18: the verdict is counted, then the cell is compared by its kind; the lock's step leaves what the
comparison wrote. -/
theorem anOwnCellIsCompared : Obligations.AnOwnCellIsCompared := by
  intro c corrected kind v s hp ht hc hl hv
  refine ⟨_, exec_candidateComplete hp hc hl, ?_⟩
  rw [State.judgeCandidate_eq hv, actOnVerdict_own]
  obtain ⟨u, hu⟩ : ∃ u, u = s.setMonitor (s.monitor.counted (.own corrected kind v)) := ⟨_, rfl⟩
  have hslot : ∀ k, u.findSlot k = s.findSlot k := fun k => by rw [hu]; rfl
  have hnotice : ∀ i, u.notice i = s.notice i := fun i => by rw [hu]; rfl
  have hport : ∀ p, u.port p = s.port p := fun p => by rw [hu]; rfl
  have hwatched : u.monitor.watched = s.monitor.watched := by rw [hu]; rfl
  have hholding : u.monitor.holding = { s.monitor.holding with
      corrected := u.monitor.holding.corrected
      own := u.monitor.holding.own } := by
    rw [hu]
    cases corrected <;> rfl
  have hmatched : u.monitor.holding.matched = s.monitor.holding.matched := by rw [hholding]
  have hstale : u.monitor.holding.stale = s.monitor.holding.stale := by rw [hholding]
  have hunknown : u.monitor.holding.unknown = s.monitor.holding.unknown := by rw [hholding]
  have htable : u.table = s.table := by rw [hu]; rfl
  have hports : u.ports = s.ports := by rw [hu]; rfl
  have hann : ∀ p, u.ann p = s.ann p := fun p => by rw [hu]; rfl
  have hprog : ∀ p, u.prog p = s.prog p := fun p => by rw [hu]; rfl
  rw [← hu]
  have hmismatches := actOnOwn_mismatches u kind v
  have hother := actOnOwn_notHead u v (kind := kind)
  have hafter : ∀ a : State, ((a.monitor.lockAfter (Verdict.own corrected kind v).isOwn).freshWindow).holding =
      a.monitor.holding := fun a => Monitor.holding_lockAfter ..
  refine ⟨fun hk i nt hn hnum => ⟨fun r hr hm hver => ?matched, fun hbad => ?stale⟩, fun hk hnone => ?unknown,
    fun hk => ?notHead, ?status, ?name⟩
  case matched =>
    subst hk
    have hfind : u.findSlot (headNumber v) = some i :=
      (hslot _).trans ((State.findSlot_eq_some_iff ht _ i).2 ⟨nt, hn, hnum⟩)
    have hhear := hearHead_matched hfind ((hnotice i).trans hn) (by rw [hwatched]; exact hr) hm hver
    rw [actOnOwn_head, hhear, State.testHeld_eq, hwatched]
    refine ⟨(congrArg Tallies.matched (hafter _)).trans (congrArg (fun k => min 65535 (k + 1)) hmatched),
      (congrArg Tallies.stale (hafter _)).trans hstale,
      (congrArg Tallies.unknown (hafter _)).trans hunknown,
      by rw [State.setSlot, State.setSlot, ← htable]; rfl, fun p => ?_⟩
    have hheld := PortState.heldTested_heard (s.port p) i s.monitor.watched r
    rw [← hport] at hheld ⊢
    cases p <;> exact hheld
  case stale =>
    subst hk
    have hfind : u.findSlot (headNumber v) = some i :=
      (hslot _).trans ((State.findSlot_eq_some_iff ht _ i).2 ⟨nt, hn, hnum⟩)
    have hhear := hearHead_stale hfind ((hnotice i).trans hn) (by rw [hwatched]; exact hbad)
    rw [actOnOwn_head, hhear]
    exact ⟨(congrArg Tallies.stale (hafter _)).trans (congrArg (fun k => min 65535 (k + 1)) hstale),
      (congrArg Tallies.matched (hafter _)).trans hmatched,
      (congrArg Tallies.unknown (hafter _)).trans hunknown, htable, hports⟩
  case unknown =>
    subst hk
    have hhear := hearHead_unknown (s := u) (v := v)
      ((hslot _).trans ((State.findSlot_eq_none_iff s _).2 hnone))
    rw [actOnOwn_head, hhear]
    exact ⟨(congrArg Tallies.unknown (hafter _)).trans (congrArg (fun k => min 65535 (k + 1)) hunknown),
      (congrArg Tallies.matched (hafter _)).trans hmatched,
      (congrArg Tallies.stale (hafter _)).trans hstale, htable, hports⟩
  case notHead =>
    obtain ⟨hotable, hoports, homatched, hostale, hounknown⟩ := hother hk
    exact ⟨hotable.trans htable, hoports.trans hports,
      ((congrArg Tallies.matched (hafter _)).trans homatched).trans hmatched,
      ((congrArg Tallies.stale (hafter _)).trans hostale).trans hstale,
      ((congrArg Tallies.unknown (hafter _)).trans hounknown).trans hunknown⟩
  case status =>
    refine (congrArg Tallies.statusMismatch (hafter _)).trans (hmismatches.1.trans ?_)
    rw [hwatched, hann, hholding]
  case name =>
    refine (congrArg Tallies.nameMismatch (hafter _)).trans (hmismatches.2.trans ?_)
    rw [hwatched, hprog, hholding]

end Sys2Proof.Machine
end

section
/-! SUPPORT. Bits received by the off-air monitor (08 R159 to R163): the proof of O19. -/

namespace Sys2Proof.Machine

variable {s t u : State}

/-- No frame is complete: no candidate of 88 bits, no missed frame of 88 bits. -/
abbrev Monitor.Collecting (m : Monitor) : Prop :=
  (∀ c, m.candidate = some c → c.length < 88) ∧ ∀ k, m.missed = some k → k < 88

theorem finishFrame_collecting (h : s.monitor.Collecting) : s.finishFrame = s := by
  obtain ⟨hc, hk⟩ := h
  have hcandidate : s.monitor.candidateReady = none := by
    unfold Monitor.candidateReady
    cases h : s.monitor.candidate with
    | none => rfl
    | some c => exact if_neg (Nat.not_le.2 (hc c h))
  have hmiss : s.monitor.missReady = false := by
    unfold Monitor.missReady
    cases h : s.monitor.missed with
    | none => rfl
    | some k => exact decide_eq_false (Nat.not_le.2 (hk k h))
  rw [State.finishFrame, hcandidate, hmiss]
  rfl

/-- A bit taken by a monitor that has no complete frame: the frame it completes is finished at once, or left. -/
theorem exec_receivedBit (b later : Bool) (hp : s.pornLow = false) (hm : s.monitor.state ≠ .off)
    (hc : s.monitor.Collecting) :
    exec (.receivedBit b later) s = .next
      (if later then { s with monitor := s.monitor.takeBit b }
       else State.finishFrame { s with monitor := s.monitor.takeBit b }) := by
  refine (running_next hp (s.receiveBit b later)).trans (congrArg _ ?_)
  rw [State.receiveBit, if_neg hm, finishFrame_collecting hc]
  rfl

/-- A bit after which no frame is complete is only stored. -/
theorem exec_receivedBit_collects (b later : Bool) (hp : s.pornLow = false) (hm : s.monitor.state ≠ .off)
    (hc : s.monitor.Collecting) {m : Monitor} (hbit : s.monitor.takeBit b = m)
    (hafter : later = true ∨ m.Collecting) :
    exec (.receivedBit b later) s = .next { s with monitor := m } := by
  rw [exec_receivedBit b later hp hm hc, hbit]
  rcases hafter with h | h
  · rw [h, if_pos rfl]
  · rw [finishFrame_collecting (s := { s with monitor := m }) h, ite_self]

theorem syncMatches_eq (tolerance : Nat) (bits : List Bool) :
    syncMatches tolerance bits = decide ((bits.zip [true, true, false, true, false, false, true, false]).countP
      (fun x => x.1 != x.2) ≤ tolerance) := by
  have hsync : msbBits Config.sync = [true, true, false, true, false, false, true, false] := by decide
  have hne : ∀ x : Bool × Bool, decide (x.1 ≠ x.2) = (x.1 != x.2) := by decide
  rw [syncMatches, hsync, List.countP_eq_length_filter]
  simp only [hne]

theorem takeBit_window (m : Monitor) (b : Bool) (hc : m.candidate = none) (hk : m.missed = none) :
    m.takeBit b = Monitor.testWindow { m with window := m.window ++ [b] } := by
  simp only [Monitor.takeBit, hc, hk]

theorem takeBit_candidate (m : Monitor) (b : Bool) {c : List Bool} (hc : m.candidate = some c) :
    m.takeBit b = { m with candidate := some (c ++ [b]) } := by
  simp only [Monitor.takeBit, hc]

theorem takeBit_missed (m : Monitor) (b : Bool) {k : Nat} (hc : m.candidate = none) (hk : m.missed = some k) :
    m.takeBit b = { m with missed := some (k + 1) } := by
  simp only [Monitor.takeBit, hc, hk]

/-- A window that a bit has filled (08 R161, R163). -/
theorem testWindow_full {m : Monitor} {b : Bool} (h : m.window.length = 7) :
    Monitor.testWindow { m with window := m.window ++ [b] } =
      if syncMatches m.tolerance (m.window ++ [b]) then { m with window := [], candidate := some [] }
      else if m.state = .locked then { m with window := [], missed := some 0 }
      else { m with window := (m.window ++ [b]).drop 1, aligned := false } := by
  have hfull : ¬ (m.window ++ [b]).length < 8 := by simp [h]
  rw [Monitor.testWindow, if_neg hfull]
  refine if_congr Iff.rfl rfl ?_
  cases hst : m.state with
  | locked => rfl
  | off | searching => rfl

theorem execSyncMiss_eq {k : Nat} (hp : s.pornLow = false) (hk : s.monitor.missed = some k) (h : 88 ≤ k) :
    exec .syncMiss s = .next s.syncMiss := by
  have hready : s.monitor.missReady = true := by
    rw [Monitor.missReady, hk]
    exact decide_eq_true h
  refine (running_next hp (if s.monitor.missReady then s.syncMiss else s)).trans ?_
  rw [hready, if_pos rfl]

/-- Settles O19: a bit is stored in the window, the candidate or the dropped frame; a frame that it completes is
what the row of its own command finishes. -/
theorem receivedBitsAndSyncMisses : Obligations.ReceivedBitsAndSyncMisses := by
  refine ⟨fun b later s hp => ?bits, fun k s hp hlock hmissed hk => ?miss⟩
  case bits =>
    intro m w
    refine ⟨fun hoff => ?off, fun hm hc hk => ⟨fun hl => ?fills, fun hl => ⟨fun hsync => ?sync, fun hsync => ?none⟩⟩,
      fun c hm hc hk hl => ⟨fun h => ?collects, fun hl hlater => ?judged⟩,
      fun k hm hc hk hl => ⟨fun h => ?drops, fun hl hlater => ?missed⟩⟩
    case off =>
      refine (running_next hp (s.receiveBit b later)).trans (congrArg _ ?_)
      exact if_pos hoff
    case fills =>
      have hcollect : m.Collecting := ⟨by simp [hc], by simp [hk]⟩
      refine exec_receivedBit_collects b later hp hm hcollect ?_ (.inr hcollect)
      rw [takeBit_window _ b hc hk, Monitor.testWindow, if_pos]
      simp [m] at hl ⊢
      omega
    case sync =>
      have hcollect : m.Collecting := ⟨by simp [hc], by simp [hk]⟩
      refine exec_receivedBit_collects b later hp hm hcollect ?_ (.inr ⟨by simp, by simp [hk]⟩)
      rw [takeBit_window _ b hc hk, testWindow_full hl, syncMatches_eq, if_pos (decide_eq_true hsync)]
    case none =>
      have hcollect : m.Collecting := ⟨by simp [hc], by simp [hk]⟩
      refine exec_receivedBit_collects b later hp hm hcollect ?_ (.inr ?_)
      · rw [takeBit_window _ b hc hk, testWindow_full hl, syncMatches_eq,
          if_neg (by simpa using hsync)]
      · split
        · exact ⟨by simp [hc], by simp⟩
        · exact ⟨by simp [hc], by simp [hk]⟩
    case collects =>
      have hcollect : m.Collecting := ⟨by simpa [hc] using hl, by simp [hk]⟩
      refine exec_receivedBit_collects b later hp hm hcollect (takeBit_candidate _ b hc) (h.symm.imp_right fun h => ?_)
      exact ⟨by simp; omega, by simp [hk]⟩
    case judged =>
      have hcollect : m.Collecting := ⟨by simp [hc, hl], by simp [hk]⟩
      have hfull : 88 ≤ (c ++ [b]).length := by simp [hl]
      rw [exec_receivedBit b later hp hm hcollect, takeBit_candidate _ b hc, hlater, if_neg Bool.false_ne_true,
        exec_candidateComplete (s := { s with monitor := { m with candidate := some (c ++ [b]) } }) hp rfl hfull]
      simp only [State.finishFrame, Monitor.candidateReady, ge_iff_le, if_pos hfull]
    case drops =>
      have hcollect : m.Collecting := ⟨by simp [hc], by simpa [hk] using hl⟩
      refine exec_receivedBit_collects b later hp hm hcollect (takeBit_missed _ b hc hk) (h.symm.imp_right fun h => ?_)
      exact ⟨by simp [hc], by simp; omega⟩
    case missed =>
      have hcollect : m.Collecting := ⟨by simp [hc], by simp [hk, hl]⟩
      rw [exec_receivedBit b later hp hm hcollect, takeBit_missed _ b hc hk, hlater, if_neg Bool.false_ne_true, hl,
        execSyncMiss_eq (s := { s with monitor := { m with missed := some 88 } }) hp rfl (Nat.le_refl _)]
      simp only [State.finishFrame, Monitor.candidateReady, Monitor.missReady, hc]
      exact congrArg _ (if_pos rfl)
  case miss =>
    intro m
    have hmiss : s.syncMiss = { s with
        monitor := (s.monitor.lockAfter false).freshWindow
        attention := if 6 ≤ s.monitor.faults + 1 then (s.withKind 0x040#11).attention else s.attention } := by
      rw [State.syncMiss, State.lockStep_eq]
      simp only [hlock, true_and]
      rfl
    rw [execSyncMiss_eq hp hmissed hk, hmiss, Monitor.lockAfter, hlock]
    dsimp only [Monitor.faultsNext]
    refine ⟨fun h => ?_, fun h => ?_⟩
    · have hfew : ¬ 6 ≤ s.monitor.faults + 1 := by omega
      simp only [Bool.false_eq_true, if_false, hfew]
      rfl
    · have hmany : 6 ≤ s.monitor.faults + 1 := by omega
      simp only [Bool.false_eq_true, if_false, hmany, if_true]
      rfl

end Sys2Proof.Machine
end

section
/-! SUPPORT. A cell as it is sent and as it is judged (04 R75 to R77, 08 R164 to R166): the proof of O54. -/

namespace Sys2Proof.Machine

/-! ### Bits in the order on air -/

theorem length_msbBits {w : Nat} (v : BitVec w) : (msbBits v).length = w := by simp [msbBits]

theorem bitsNat_concat (bits : List Bool) (b : Bool) : bitsNat (bits ++ [b]) = 2 * bitsNat bits + b.toNat := by
  simp [bitsNat]

theorem div_two_pow_eq (n m : Nat) : n / 2 ^ m = 2 * (n / 2 ^ (m + 1)) + (n.testBit m).toNat := by
  have hdiv : n / 2 ^ (m + 1) = n / 2 ^ m / 2 := by rw [Nat.pow_succ, Nat.div_div_eq_div_mul]
  rw [hdiv, Nat.toNat_testBit]
  omega

/-- The bits of a word, taken from the most significant one on, are the word (09 section 9.9). -/
theorem bitsNat_msbBits {w : Nat} (v : BitVec w) : bitsNat (msbBits v) = v.toNat := by
  have key : ∀ k ≤ w, bitsNat ((List.range k).map fun i => v.getMsbD i) = v.toNat / 2 ^ (w - k) := by
    intro k
    induction k with
    | zero =>
      intro _
      exact (Nat.div_eq_of_lt (by simpa using v.isLt)).symm
    | succ k ih =>
      intro hk
      have hw : w - k = w - (k + 1) + 1 := by omega
      have hbit : v.getMsbD k = v.toNat.testBit (w - (k + 1)) := by
        have hlt : k < w := hk
        have hindex : w - 1 - k = w - (k + 1) := by omega
        simp [BitVec.getMsbD, hlt, hindex, BitVec.getLsbD]
      rw [List.range_succ, List.map_append, List.map_cons, List.map_nil, bitsNat_concat, ih (by omega), hbit,
        div_two_pow_eq v.toNat (w - (k + 1)), hw]
  have h := key w (Nat.le_refl w)
  rw [Nat.sub_self, Nat.pow_zero, Nat.div_one] at h
  exact h

theorem ofNat_bitsNat_msbBits {w : Nat} (v : BitVec w) : BitVec.ofNat w (bitsNat (msbBits v)) = v := by
  rw [bitsNat_msbBits, BitVec.ofNat_toNat, BitVec.setWidth_eq]

theorem msbBits_inj {w : Nat} {x y : BitVec w} (h : msbBits x = msbBits y) : x = y := by
  rw [← ofNat_bitsNat_msbBits x, h, ofNat_bitsNat_msbBits]

theorem msbBits_append {m n : Nat} (x : BitVec m) (y : BitVec n) :
    msbBits (x ++ y) = msbBits x ++ msbBits y := by
  refine List.ext_getElem (by simp [msbBits]) fun i hi _ => ?_
  have hlt : i < m + n := by simpa [msbBits] using hi
  by_cases hm : i < m
  · simp [msbBits, hm, BitVec.getMsbD_append]
  · simp [msbBits, List.getElem_append, hm, BitVec.getMsbD_append]

/-! ### A candidate in four parts -/

/-- What is judged of a candidate whose header bits are `header`. -/
theorem judge_parts (watched : BitVec 16) {header : List Bool} (hl : header.length = 8) (code : BitVec 16)
    (payload : BitVec 48) (check : BitVec 16) :
    judge watched (header ++ (msbBits code ++ (msbBits payload ++ msbBits check))) =
      match decodeHeader (BitVec.ofNat 8 (bitsNat header)) with
      | none => .headerFault
      | some (h, corrected) =>
        if crcBits (msbBits (h ++ code ++ payload)) ≠ check then .checkFault corrected
        else if watched ≠ 0#16 ∧ code = watched then .own corrected (headerKind h) payload
        else .foreign corrected := by
  have hcode : (msbBits code).length = 16 := length_msbBits code
  have hpayload : (msbBits payload).length = 48 := length_msbBits payload
  have hcheck : (msbBits check).length = 16 := length_msbBits check
  have h1 : candHeader (header ++ (msbBits code ++ (msbBits payload ++ msbBits check))) =
      BitVec.ofNat 8 (bitsNat header) := by
    rw [candHeader, List.take_left' hl]
  have h2 : candCode (header ++ (msbBits code ++ (msbBits payload ++ msbBits check))) = code := by
    rw [candCode, List.drop_left' hl, List.take_left' hcode, ofNat_bitsNat_msbBits]
  have h3 : candPayload (header ++ (msbBits code ++ (msbBits payload ++ msbBits check))) = payload := by
    rw [candPayload, ← List.append_assoc, List.drop_left' (by simp [hl, hcode]), List.take_left' hpayload,
      ofNat_bitsNat_msbBits]
  have h4 : candCheck (header ++ (msbBits code ++ (msbBits payload ++ msbBits check))) = check := by
    rw [candCheck, ← List.append_assoc, ← List.append_assoc, List.drop_left' (by simp [hl, hcode, hpayload]),
      List.take_of_length_le (by simp [hcheck]), ofNat_bitsNat_msbBits]
  cases h : decodeHeader (BitVec.ofNat 8 (bitsNat header)) with
  | none => rw [judge, h1, h]
  | some x => rw [judge, h1, h2, h3, h4, h]

/-- The bits of a formed cell after its sync. -/
theorem formCell_bits (code : BitVec 16) (k : Kind) (payload : BitVec 48) :
    (msbBits (formCell code k payload)).drop 8 =
      msbBits (headerOf k.code) ++ (msbBits code ++ (msbBits payload ++
        msbBits (crcBits (msbBits (headerOf k.code ++ code ++ payload))))) := by
  rw [formCell, msbBits_append, msbBits_append, List.append_assoc,
    List.drop_left' (length_msbBits Config.sync), msbBits_append, msbBits_append]
  simp only [List.append_assoc]

/-! ### Headers with inverted bits (08 R164) -/

theorem headerKind_headerOf (k : Kind) : headerKind (headerOf k.code) = k.code := by
  cases k <;> decide

theorem decodeHeader_sent (k : Kind) : decodeHeader (headerOf k.code) = some (headerOf k.code, false) := by
  cases k <;> decide

/-- The bits of a kind's header with one of them inverted. -/
def headerWith (k : Kind) (i : Fin 8) : List Bool :=
  (msbBits (headerOf k.code)).set i (!(headerOf k.code).getMsbD i)

theorem decodeHeader_one (k : Kind) : ∀ i : Fin 8,
    decodeHeader (BitVec.ofNat 8 (bitsNat (headerWith k i))) = some (headerOf k.code, true) := by
  cases k <;> decide

theorem decodeHeader_two (k : Kind) : ∀ i j : Fin 8, i < j →
    decodeHeader (BitVec.ofNat 8 (bitsNat ((headerWith k i).set j (!(headerOf k.code).getMsbD j)))) = none := by
  cases k <;> decide

theorem getElem?_msbBits_append {w : Nat} (v : BitVec w) (rest : List Bool) {i : Nat} (hi : i < w) {b : Bool}
    (h : (msbBits v ++ rest)[i]? = some b) : b = v.getMsbD i := by
  rw [List.getElem?_append_left (by rw [length_msbBits]; exact hi)] at h
  simpa [msbBits, hi] using h.symm

/-- Settles O54: the parts of a formed cell are its header, code, payload and check, and the header's code finds
one inverted bit and two. -/
theorem aFormedCellIsJudgedOwn : Obligations.AFormedCellIsJudgedOwn := by
  intro code watched k payload
  dsimp only
  rw [formCell_bits]
  obtain ⟨crc, hcrc⟩ : ∃ crc, crc = crcBits (msbBits (headerOf k.code ++ code ++ payload)) := ⟨_, rfl⟩
  rw [← hcrc]
  obtain ⟨rest, hrest⟩ : ∃ rest, rest = msbBits code ++ (msbBits payload ++ msbBits crc) := ⟨_, rfl⟩
  have hlen : (msbBits (headerOf k.code)).length = 8 := length_msbBits _
  have hone : ∀ i : Fin 8, (headerWith k i).length = 8 := fun i => by rw [headerWith, List.length_set, hlen]
  have hsent : ∀ w, judge w (msbBits (headerOf k.code) ++ rest) =
      if w ≠ 0#16 ∧ code = w then .own false k.code payload else .foreign false := fun w => by
    rw [hrest, judge_parts w hlen, ofNat_bitsNat_msbBits, decodeHeader_sent]
    dsimp only
    rw [if_neg (not_not.2 hcrc.symm), headerKind_headerOf]
  refine ⟨fun hcode => ⟨?own, fun i hi b hb => ?corrected⟩, fun i j hij hj a b ha hb => ?fault,
    fun check hcheck => ?wrong, fun hw => ?foreign⟩
  case own => rw [← hrest, hsent, if_pos ⟨hcode, rfl⟩]
  case corrected =>
    have hset : (msbBits (headerOf k.code)).set i (!b) = headerWith k ⟨i, hi⟩ := by
      rw [getElem?_msbBits_append _ _ hi hb, headerWith]
    rw [List.set_append_left i _ (by rw [hlen]; exact hi), hset, judge_parts code (hone _), decodeHeader_one]
    dsimp only
    rw [if_neg (not_not.2 hcrc.symm), if_pos ⟨hcode, rfl⟩, headerKind_headerOf]
  case fault =>
    have hi : i < 8 := Nat.lt_trans hij hj
    have hset : ((msbBits (headerOf k.code)).set i (!a)).set j (!b) =
        (headerWith k ⟨i, hi⟩).set j (!(headerOf k.code).getMsbD j) := by
      rw [getElem?_msbBits_append _ _ hi ha, getElem?_msbBits_append _ _ hj hb, headerWith]
    have hdecode := decodeHeader_two k ⟨i, hi⟩ ⟨j, hj⟩ hij
    rw [List.set_append_left i _ (by rw [hlen]; exact hi), List.set_append_left j _ (by rw [List.length_set, hlen]; exact hj),
      hset, judge_parts watched (by rw [List.length_set, hone]), hdecode]
  case wrong =>
    have hdrop : (msbBits (headerOf k.code) ++ (msbBits code ++ (msbBits payload ++ msbBits crc))).drop 72 =
        msbBits crc := by
      rw [← List.append_assoc, ← List.append_assoc, List.drop_left' (by simp [length_msbBits])]
    have htake : (msbBits (headerOf k.code) ++ (msbBits code ++ (msbBits payload ++ msbBits crc))).take 72 =
        msbBits (headerOf k.code) ++ (msbBits code ++ msbBits payload) := by
      rw [← List.append_assoc, ← List.append_assoc, List.take_left' (by simp [length_msbBits]), List.append_assoc]
    have hne : crc ≠ check := fun h => hcheck (by rw [hdrop, h])
    rw [htake, List.append_assoc, List.append_assoc, judge_parts watched hlen, ofNat_bitsNat_msbBits,
      decodeHeader_sent]
    dsimp only
    rw [if_pos (hcrc ▸ hne)]
  case foreign =>
    have hnot : ¬ (watched ≠ 0#16 ∧ code = watched) := by
      rintro ⟨h0, h⟩
      rcases hw with hw | hw
      · exact hw h.symm
      · exact h0 hw
    rw [← hrest, hsent, if_neg hnot]

end Sys2Proof.Machine
end

section
/-! SUPPORT. What the nine reading requests report (O26). -/

namespace Sys2Proof.Machine

variable {s t u : State}

/-! ### Bytes -/

theorem told?_eq (k : Nat) (x : Option (List Byte)) : told? k x = optBytes k x := by
  cases x <;> rfl

theorem targetByte_eq (x : Option Ch) :
    targetByte x = (x.map fun y => BitVec.ofNat 8 y.val).getD 0xFF#8 := by
  cases x <;> rfl

/-! ### READ TIME and READ MONITOR -/

theorem SiteTime.trimNow_eq (x : SiteTime) : x.trimNow = x.temporary.filter fun y => decide (0 < y.2) := by
  unfold SiteTime.trimNow
  cases x.temporary with
  | none => rfl
  | some y =>
    obtain ⟨trim, left⟩ := y
    cases left <;> rfl

theorem SiteTime.effectiveTrim_getD (x : SiteTime) :
    x.effectiveTrim = (x.trimNow.map fun y => y.1).getD x.standing := by
  unfold SiteTime.effectiveTrim
  cases x.trimNow <;> rfl

theorem handleReadTime_eq (s : State) : handleReadTime s = (s, some (Reply.ok s.timeTold)) := by
  have hbytes : (fun y : Int × Nat => intBytes 2 y.1 ++ beBytes 2 y.2) = trimBytes := rfl
  simp only [handleReadTime, State.timeTold, told?_eq, ← SiteTime.trimNow_eq, ← SiteTime.effectiveTrim_getD, hbytes,
    SiteTime.watchBytes, beBytes_one, List.append_assoc, List.cons_append, List.nil_append]

theorem handleReadMonitor_eq (s : State) : handleReadMonitor s = (s, some (Reply.ok s.monitorTold)) := by
  have hspan : (fun x : Span => beBytes 6 x.start ++ beBytes 6 x.stop ++ beBytes 4 x.seconds) = Span.bytes := rfl
  simp only [handleReadMonitor, State.monitorTold, told?_eq, hspan]
  simp only [Tallies.bytes, Monitor.enabled, beBytes_one,
    List.flatMap_cons, List.flatMap_nil, List.append_assoc, List.cons_append, List.nil_append, List.append_nil,
    State.now]

/-! ### READ ANNOUNCEMENT -/

theorem Announce.flag_eq (a : Announce) : a.flag = decide (a.state = .onAir ∨ a.state = .hanging) := by
  unfold Announce.flag
  cases a.state <;> rfl

theorem Announce.elapsed_eq (a : Announce) (now : Nat) :
    a.elapsed now = match a.bulletin with
      | some b =>
        if decide (a.state = .onAir ∨ a.state = .hanging ∨ a.state = .barred) then min 65535 (now - b.count) else 0
      | none => 0 := by
  unfold Announce.elapsed
  cases a.state <;> cases a.bulletin <;> rfl

theorem State.referralActive_eq (s : State) (p : Ch) :
    s.referralActive p = (s.prog p).target.any fun y => (s.ann y).flag || decide (0 < (s.ann p).closing) := by
  unfold State.referralActive
  cases (s.prog p).target <;> rfl

theorem State.targetFlag_eq (s : State) (p : Ch) :
    s.targetFlag p = (s.prog p).target.any fun y => (s.ann y).flag := by
  unfold State.targetFlag
  cases (s.prog p).target <;> rfl

theorem handleReadAnnouncement_eq {b : Byte} {p : Ch} (h : b.toNat = p.val) :
    handleReadAnnouncement b s = (s, some (Reply.ok (s.announcementTold p))) := by
  have hbytes : (fun b : Bulletin => beBytes 4 b.seconds ++ [BitVec.ofNat 8 b.tick] ++ beBytes 6 b.count) =
      Bulletin.bytes := by
    funext b
    rw [Bulletin.bytes, beBytes_one]
  rw [handleReadAnnouncement, chOf?_some h]
  simp only [State.announcementTold, told?_eq, hbytes]
  simp only [← Announce.flag_eq, State.referralActive_eq,
    State.targetFlag_eq, targetByte_eq, Announce.elapsed_eq, Announce.cueBytes, beBytes_one, State.now,
    List.append_assoc, List.cons_append, List.nil_append] <;> rfl

/-! ### READ PROGRAMME -/

theorem variantBytes_eq (v : Option Names) :
    variantBytes v = match v with
      | some x => nameBytes (some x.short) ++ nameBytes x.long
      | none => [0#8, 0#8] := by
  cases v <;> rfl

theorem filterMap_zipIdx {α β : Type} (f : α × Nat → Option β) (xs : List α) (k : Nat) :
    (xs.zipIdx k).filterMap f =
      (List.range xs.length).filterMap fun j => xs[j]?.bind fun x => f (x, j + k) := by
  induction xs generalizing k with
  | nil => rfl
  | cons x xs ih =>
    rw [List.zipIdx_cons, List.length_cons, List.range_succ_eq_map, List.filterMap_cons, List.filterMap_cons,
      List.filterMap_map, ih]
    have htail : (fun j => xs[j]?.bind fun x => f (x, j + (k + 1))) =
        (fun j => (x :: xs)[j]?.bind fun x => f (x, j + k)) ∘ Nat.succ := by
      funext j
      have hj : j + (k + 1) = j.succ + k := by omega
      rw [hj]
      rfl
    rw [htail]
    simp

theorem State.timedFor_eq (s : State) (p : Ch) :
    s.timedFor p = (List.range s.store.timed.length).filterMap fun j =>
      (s.store.timed[j]?).bind fun e => if e.inUse = true ∧ e.prog = p then some (j, e) else none := by
  have h := filterMap_zipIdx (fun x : TimedEntry × Nat =>
    if x.1.inUse = true ∧ x.1.prog = p then some (x.2, x.1) else none) s.store.timed 0
  simp only [Nat.add_zero] at h
  rw [← h, State.timedFor, ← List.filterMap_eq_map, List.filterMap_filter]
  refine List.filterMap_congr fun x _ => ?_
  simp

theorem handleReadProgramme_eq {b : Byte} {p : Ch} (h : b.toNat = p.val) :
    handleReadProgramme b s = (s, some (Reply.ok (s.programmeTold p))) := by
  have hentry : (fun x : Nat × TimedEntry => [BitVec.ofNat 8 x.1, BitVec.ofNat 8 x.2.variant.val] ++
      beBytes 4 x.2.target ++ beBytes 4 x.2.period) = timedListEntry := by
    funext x
    simp only [timedListEntry, beBytes_one, List.cons_append, List.nil_append]
  rw [handleReadProgramme, chOf?_some h]
  simp only [State.programmeTold, hentry]
  simp only [← State.timedFor_eq, ← targetByte_eq, beBytes_one, Four.toList,
    List.flatMap_cons, List.flatMap_nil, List.append_assoc, List.cons_append, List.nil_append, List.append_nil,
    List.countP_eq_length_filter, variantBytes_eq] <;> rfl

/-! ### READ STREAM -/

theorem State.airingRecords_eq (s : State) (n : Ch) : s.airingRecords n = s.airedOn n := by
  rw [State.airingRecords, State.streamRecords, State.airedOn, List.filter_filterMap]
  refine List.filterMap_congr fun i _ => ?_
  cases s.notice i with
  | none => rfl
  | some nt =>
    cases h : nt.record n with
    | none => simp [h]
    | some r => by_cases hm : r.mode = .airing <;> simp [h, hm, Option.filter, Record.isAiring_iff]

theorem State.withdrawalRecords_length (s : State) (n : Ch) :
    (s.withdrawalRecords n).length = (List.range 96).countP fun i =>
      (s.notice i).any fun nt => (nt.record n).any fun r => decide (r.mode ≠ .airing) := by
  rw [State.withdrawalRecords, State.streamRecords, List.filter_filterMap, List.length_filterMap_eq_countP]
  refine List.countP_congr fun i _ => ?_
  cases s.notice i with
  | none => simp
  | some nt =>
    cases h : nt.record n with
    | none => simp [h]
    | some r => simp [h, Option.filter, ← Record.isAiring_iff]

theorem State.load_eq (s : State) (n : Ch) : s.load n = s.loadFigure n := by
  rw [State.load, State.airingRecords_eq]
  rfl

theorem State.backlogRecords_eq (s : State) (n : Ch) : s.backlogRecords n = (s.airedOn n).filter fun r =>
    decide (r.2.2.due ≤ s.time.tickCount) && !(s.stream n).run.any fun run => decide (run.slot = r.1) := by
  rw [State.backlogRecords, State.airingRecords_eq]
  refine List.filter_congr fun x _ => ?_
  have hrun : s.inRun n x.1 = (s.stream n).run.any fun run => decide (run.slot = x.1) := by
    unfold State.inRun
    cases (s.stream n).run with
    | none => rfl
    | some run => simp [beq_eq_decide]
  rw [hrun]
  rfl

theorem runBytes_eq (s : State) : runBytes s = fun run => beBytes 2 run.number ++
    [BitVec.ofNat 8 run.slot, BitVec.ofNat 8 (((s.notice run.slot).map Notice.runLength).getD 0),
      BitVec.ofNat 8 run.sent] ++ beBytes 6 run.head := by
  funext run
  cases h : s.notice run.slot <;> simp [runBytes, h, beBytes_one]

theorem handleReadStream_eq {b : Byte} {n : Ch} (h : b.toNat = n.val) :
    handleReadStream b s = (s, some (Reply.ok (s.streamTold n))) := by
  rw [handleReadStream, chOf?_some h]
  simp only [State.streamTold, ← runBytes_eq]
  simp only [told?_eq, ← State.airingRecords_eq, ← State.withdrawalRecords_length, ← State.load_eq,
    State.backlog, State.worstLateness]
  simp only [State.backlogRecords_eq, State.airingRecords_eq, Stream.stateBytes, planBytes, openDuties, beBytes_one,
    State.now, List.append_assoc, List.cons_append, List.nil_append]
  rfl

/-! ### LIST NOTICES -/

theorem State.slots_eq (ht : s.table.slots.length = 96) : s.table.slots = (List.range 96).map s.notice := by
  refine List.ext_getElem (by simp [ht]) fun i hi _ => ?_
  simp [State.notice, hi]

theorem State.countNotices_eq (ht : s.table.slots.length = 96) :
    s.countNotices (fun _ => true) = ((List.range 96).filter fun i => (s.notice i).isSome).length := by
  have hsome : (fun x : Option Notice => match x with
      | some _ => true
      | none => false) = Option.isSome := by
    funext x
    cases x <;> rfl
  rw [State.countNotices, State.slots_eq ht, ← List.countP_eq_length_filter, List.countP_map,
    ← List.countP_eq_length_filter]
  refine List.countP_congr fun i _ => ?_
  cases h : s.notice i <;> simp [h]

/-- The slots of a listing, in ascending order (01 R27). -/
theorem State.occupiedFrom_slots (s : State) (start : Nat) :
    (s.occupiedFrom start).map Prod.fst =
      ((List.range 96).filter fun i => (s.notice i).isSome).filter fun i => decide (start ≤ i) := by
  rw [State.occupiedFrom, List.map_filterMap, List.filter_filter, ← List.filterMap_eq_filter]
  refine List.filterMap_congr fun i _ => ?_
  by_cases hi : i < start
  · simp [hi, Option.guard]
  · have hle : start ≤ i := Nat.le_of_not_lt hi
    cases h : s.notice i <;> simp [hi, hle, Option.guard, h]

theorem State.mem_occupiedFrom {start : Nat} {x : Nat × Notice} (h : x ∈ s.occupiedFrom start) :
    s.notice x.1 = some x.2 := by
  obtain ⟨i, -, hx⟩ := List.mem_filterMap.1 h
  split at hx
  · cases hx
  · cases hn : s.notice i with
    | none => simp [hn] at hx
    | some nt =>
      simp only [hn, Option.map_some, Option.some.injEq] at hx
      rw [← hx]
      exact hn

theorem nextIndex_eq (found : List (Nat × Notice)) :
    nextIndex found = if (found.map Prod.fst).length ≤ 24 then 96
      else ((found.map Prod.fst).take 24).getLast?.getD 0 + 1 := by
  rw [nextIndex, List.length_map]
  by_cases h : found.length ≤ 24
  · rw [if_neg (by omega), if_pos h]
    rfl
  · rw [if_pos (by omega), if_neg h, ← List.map_take, List.getLast?_map]
    cases hl : (found.take 24).getLast? with
    | none =>
      have hnil := List.getLast?_eq_none_iff.1 hl
      simp at hnil
      simp [hnil] at h
    | some x => rfl

theorem handleListNotices_eq (ht : s.table.slots.length = 96) {start : Byte} (h : start.toNat ≤ 95) :
    handleListNotices start s = (s, some (Reply.ok (s.listTold start.toNat))) := by
  have hentries : ((s.occupiedFrom start.toNat).take 24).flatMap listEntry =
      (((s.occupiedFrom start.toNat).map Prod.fst).take 24).flatMap fun i =>
        match s.notice i with
        | some nt => [BitVec.ofNat 8 i] ++ beBytes 2 nt.number ++
            [BitVec.ofNat 8 nt.state.code, BitVec.ofNat 8 nt.urgency.rank, BitVec.ofNat 8 nt.version]
        | none => [] := by
    rw [← List.map_take, List.flatMap_map]
    refine List.flatMap_congr fun x hx => ?_
    have hn : s.notice x.1 = some x.2 := State.mem_occupiedFrom (List.mem_of_mem_take hx)
    simp only [hn, listEntry, beBytes_one, List.append_assoc, List.cons_append, List.nil_append]
  have hlength : min 24 (s.occupiedFrom start.toNat).length =
      (((s.occupiedFrom start.toNat).map Prod.fst).take 24).length := by simp
  rw [handleListNotices, if_neg (by omega)]
  simp only [State.listTold, ← State.occupiedFrom_slots, hentries, hlength, nextIndex_eq, State.countNotices_eq ht,
    beBytes_one, List.cons_append, List.nil_append] <;> rfl

/-! ### QUERY NOTICE -/

theorem streamEntry_eq (s : State) (i : Nat) (n : Ch) (r : Option Record) :
    streamEntry s i n r = s.recordTold i n r := by
  cases r with
  | none => rfl
  | some r =>
    have hrun : s.inRun n i = (s.stream n).run.any fun run => decide (run.slot = i) := by
      unfold State.inRun
      cases (s.stream n).run with
      | none => rfl
      | some run => simp [beq_eq_decide]
    cases h : r.mode <;>
      simp [streamEntry, State.recordTold, hrun, h, Mode.code, Mode.left, beBytes_one]

theorem Notice.presence_eq (nt : Notice) :
    nt.presence = BitVec.ofNat 8 ((if nt.startsAt = none then 0 else 2) + (if nt.advice = none then 0 else 8) +
      (if nt.text = none then 0 else 16)) := by
  have hbits : ∀ x y z : Bool, (0#3 ++ BitVec.ofBool z ++ BitVec.ofBool y ++ 0#1 ++ BitVec.ofBool x ++ 0#1 : Byte) =
      BitVec.ofNat 8 ((if x then 2 else 0) + (if y then 8 else 0) + (if z then 16 else 0)) := by decide
  have hflag : ∀ {α : Type} (x : Option α) (k : Nat), (if x.isSome then k else 0) = if x = none then 0 else k :=
    fun x k => by cases x <;> simp
  rw [Notice.presence, hbits]
  simp only [hflag]

theorem queryResults_eq (s : State) (i : Nat) (nt : Notice) : queryResults s i nt = s.noticeTold i nt := by
  have hname : nameBytes nt.text = [BitVec.ofNat 8 (nt.text.getD []).length] ++ nt.text.getD [] := by
    cases nt.text <;> rfl
  have horigin : BitVec.ofNat 8 nt.origin.code = if nt.origin = .derived then 1#8 else 0#8 := by
    cases nt.origin <;> rfl
  have howner : BitVec.ofNat 8 (portNum nt.owner) = if nt.owner = .site then 0#8 else 1#8 := by
    cases nt.owner <;> rfl
  have hadvice : (nt.advice.getD (0, 0)).1 = (nt.advice.map fun x => x.1).getD 0 ∧
      (nt.advice.getD (0, 0)).2 = (nt.advice.map fun x => x.2).getD 0 := by
    cases nt.advice <;> exact ⟨rfl, rfl⟩
  have hstart : nt.withdrawStart.getD 0 = match nt.state with
      | .withdrawing w => w
      | .pending | .live => 0 := by
    unfold Notice.withdrawStart
    cases nt.state <;> rfl
  unfold queryResults State.noticeTold
  rw [Notice.presence_eq, hname, hadvice.1, hadvice.2, hstart, Nat.mul_comm nt.extent 16]
  simp only [channels, List.flatMap_cons, List.flatMap_nil, streamEntry_eq, beBytes_one]
  rw [horigin, howner]
  simp only [List.append_assoc, List.cons_append, List.nil_append, List.append_nil] <;> rfl

theorem handleQueryNotice_zero : handleQueryNotice 0#16 s = refuse .outOfRange s := rfl

theorem handleQueryNotice_unknown {number : BitVec 16} (h0 : number ≠ 0#16)
    (h : ∀ i nt, s.notice i = some nt → nt.number ≠ number.toNat) :
    handleQueryNotice number s = refuse .notFound s := by
  simp only [handleQueryNotice, if_neg h0, (s.findSlot_eq_none_iff _).2 h]

theorem handleQueryNotice_eq {number : BitVec 16} {i : Nat} {nt : Notice} (ht : s.TableSound) (h0 : number ≠ 0#16)
    (hn : s.notice i = some nt) (hnum : nt.number = number.toNat) :
    handleQueryNotice number s = (s, some (Reply.ok (s.noticeTold i nt))) := by
  simp only [handleQueryNotice, if_neg h0, (State.findSlot_eq_some_iff ht _ i).2 ⟨nt, hn, hnum⟩, hn,
    queryResults_eq]

/-! ### The nine reads -/

theorem handleReadStream_none {b : Byte} (h : 3 < b.toNat) : handleReadStream b s = refuse .outOfRange s := by
  rw [handleReadStream, chOf?_none h]

theorem handleReadProgramme_none {b : Byte} (h : 3 < b.toNat) : handleReadProgramme b s = refuse .outOfRange s := by
  rw [handleReadProgramme, chOf?_none h]

theorem handleReadAnnouncement_none {b : Byte} (h : 3 < b.toNat) :
    handleReadAnnouncement b s = refuse .outOfRange s := by
  rw [handleReadAnnouncement, chOf?_none h]

theorem handleListNotices_none {start : Byte} (h : 95 < start.toNat) :
    handleListNotices start s = refuse .outOfRange s := if_pos h

/-- Settles O26: an admitted request goes to its block, which answers with the state as it stands. -/
theorem readsChangeNothing : Obligations.ReadsChangeNothing := by
  intro c p r s hready hc hmap htable hperm told refused byNumber
  obtain ⟨hp, hq, hh⟩ := hready
  have hcodes : p = .traffic → trafficCodes.contains (requestCode r) = true := by
    rintro rfl
    rcases hperm with hsite | hcode
    · cases hsite
    · revert hcode
      generalize requestCode r = code
      simp only [List.mem_cons, List.not_mem_nil, or_false]
      rintro (rfl | rfl | rfl | rfl) <;> decide
  have hexec : r.fits = true → exec c s = .next (answered p (requestCode r) (handle p r s)) := fun hf => by
    rw [exec_commandRequest hc, onRequest_idle p r s hp hq hh hcodes (requestCode_known r) hf]
  have htold : ∀ {bytes}, r.fits = true → handle p r s = (s, some (Reply.ok bytes)) → told bytes :=
    fun hf h => by simp only [told, hexec hf, h]; rfl
  have hrefused : ∀ {st}, r.fits = true → handle p r s = refuse st s → refused st :=
    fun hf h => by simp only [refused, hexec hf, h]; rfl
  cases r
  case ping => exact htold rfl (handlePing_eq p s)
  case queryNotice number =>
    exact ⟨fun h => hrefused rfl (h ▸ handleQueryNotice_zero),
      fun h hn => hrefused rfl (handleQueryNotice_unknown h hn),
      fun i nt h hn hnum => htold rfl (handleQueryNotice_eq htable h hn hnum)⟩
  case listNotices start =>
    exact ⟨fun h => hrefused rfl (handleListNotices_none h),
      fun h => htold rfl (handleListNotices_eq htable.1 h)⟩
  case readRange entry =>
    refine ⟨fun h => hrefused rfl (handleReadRange_none entry s (List.getElem?_eq_none ?_)), fun e he => htold rfl ?_⟩
    · rw [hmap.1]
      exact h
    · refine (handleReadRange_some entry s e he).trans ?_
      rw [RangeEntry.bytes, beBytes_one]
  case readStream b =>
    exact ⟨fun h => hrefused rfl (handleReadStream_none h), fun n h => htold rfl (handleReadStream_eq h)⟩
  case readProgramme b =>
    exact ⟨fun h => hrefused rfl (handleReadProgramme_none h), fun n h => htold rfl (handleReadProgramme_eq h)⟩
  case readAnnouncement b =>
    exact ⟨fun h => hrefused rfl (handleReadAnnouncement_none h),
      fun n h => htold rfl (handleReadAnnouncement_eq h)⟩
  case readTime => exact htold rfl (handleReadTime_eq s)
  case readMonitor => exact htold rfl (handleReadMonitor_eq s)
  all_goals trivial

end Sys2Proof.Machine
end

section
/-! SUPPORT. Runs and holds lost when a stream stops carrying a notice (01 R30, 02 R44, R46, 03 R62). -/

namespace Sys2Proof.Machine

variable {s t u : State}

/-! ### Ports -/

theorem chErase_eq_iff : ∀ (set : FourSet) (n : Ch), set &&& ~~~ chBit n = set ↔ chMem set n = false := by
  decide

theorem and_not_zero : ∀ set : FourSet, set &&& ~~~ 0#4 = set := by decide

theorem and_not_or : ∀ a b c : FourSet, a &&& ~~~ (b ||| c) = (a &&& ~~~ b) &&& ~~~ c := by decide

theorem eq_of_and_not_and_not : ∀ a b c : FourSet, (a &&& ~~~ b) &&& ~~~ c = a → a &&& ~~~ b = a := by decide

theorem zero_and_not : ∀ a : FourSet, 0#4 &&& ~~~ a = 0#4 := by decide

/-- A stream that leaves a hold leaves it as one of the set of streams that leave it (01 R30). -/
theorem PortState.heldLeft_eq (x : PortState) (i : Nat) (n : Ch) :
    x.heldLeft i n = x.heldWithout fun j => if j = i then chBit n else 0#4 := by
  unfold PortState.heldLeft PortState.heldWithout
  cases hx : x.held with
  | none => rfl
  | some h =>
    dsimp only
    by_cases hi : h.slot = i
    · cases hm : chMem h.remaining n with
      | false => simp [hi, hm, chErase_eq_iff]
      | true =>
        have hne : ¬ h.remaining &&& ~~~ chBit n = h.remaining := fun he => by
          rw [chErase_eq_iff, hm] at he
          cases he
        simp only [hi, if_true, true_and, if_neg hne, PortState.heldLess, chErase, Bool.false_eq_true, if_false,
          PortState.heldAnswered, hx]
    · simp only [hi, if_false, false_and, and_not_zero]
      rw [if_pos trivial]

theorem PortState.heldWithout_none (x : PortState) : x.heldWithout (fun _ => 0#4) = x := by
  unfold PortState.heldWithout
  cases x.held with
  | none => rfl
  | some h =>
    simp only [and_not_zero]
    rw [if_pos trivial]

/-- The streams that leave a hold may leave it in two steps. -/
theorem PortState.heldWithout_heldWithout (x : PortState) (g k : Nat → FourSet) :
    (x.heldWithout g).heldWithout k = x.heldWithout fun i => g i ||| k i := by
  cases hx : x.held with
  | none =>
    have hsame : ∀ f, x.heldWithout f = x := fun f => by rw [PortState.heldWithout, hx]
    rw [hsame, hsame, hsame]
  | some h =>
    obtain ⟨l, hl⟩ : ∃ l, l = h.remaining &&& ~~~ g h.slot := ⟨_, rfl⟩
    have hboth : h.remaining &&& ~~~ (g h.slot ||| k h.slot) = l &&& ~~~ k h.slot := by rw [and_not_or, hl]
    have hfirst : x.heldWithout g = if l = h.remaining then x
        else if l = 0#4 then x.heldAnswered (if h.satisfied = 0#4 then .confirmLate else .confirmed)
        else { x with held := some { h with remaining := l } } := by rw [PortState.heldWithout, hx, hl]
    have hall : x.heldWithout (fun i => g i ||| k i) = if l &&& ~~~ k h.slot = h.remaining then x
        else if l &&& ~~~ k h.slot = 0#4 then
          x.heldAnswered (if h.satisfied = 0#4 then .confirmLate else .confirmed)
        else { x with held := some { h with remaining := l &&& ~~~ k h.slot } } := by
      rw [PortState.heldWithout, hx, ← hboth]
    by_cases hsame : l = h.remaining
    · rw [hfirst, if_pos hsame, hall, PortState.heldWithout, hx, hsame]
    · have hrem : l &&& ~~~ k h.slot ≠ h.remaining := fun he => hsame (by
        rw [hl] at he ⊢
        exact eq_of_and_not_and_not _ _ _ he)
      rw [hfirst, if_neg hsame, hall, if_neg hrem]
      by_cases hzero : l = 0#4
      · rw [if_pos hzero, hzero, zero_and_not, if_pos rfl]
        unfold PortState.heldAnswered
        rw [hx]
        rfl
      · rw [if_neg hzero, PortState.heldWithout]
        by_cases hstay : l &&& ~~~ k h.slot = l
        · simp only [hstay, if_true, if_neg hzero]
        · simp only [if_neg hstay]
          split
          · unfold PortState.heldAnswered
            rw [hx]
          · rfl

/-! ### Streams that lose notices -/

/-- Only runs and holds of the notices that each stream has lost are ended, and notices changed: `gone n i` says
that stream `n` has lost the notice in slot `i`. -/
structure State.LostIn (s t : State) (gone : Ch → Nat → Bool) : Prop where
  stream : ∀ n, t.stream n = (s.stream n).runWithout (gone n)
  port : ∀ q, t.port q = (s.port q).heldWithout fun i => chSet fun n => gone n i
  rest : t = { s with
    table := { s.table with slots := t.table.slots }, streams := t.streams, ports := t.ports }

theorem chSet_false : (chSet fun _ => false) = 0#4 := rfl

theorem chSet_or (f g : Ch → Bool) : chSet f ||| chSet g = chSet fun n => f n || g n := by
  refine FourSet.ext_mem fun n => ?_
  rw [chMem_chSet, ← chMem_chSet f n, ← chMem_chSet g n, chMem, BitVec.getLsbD_or]
  rfl

theorem State.LostIn.none (s : State) : s.LostIn s fun _ _ => false where
  stream _ := (Stream.runWithout_none _).symm
  port _ := (PortState.heldWithout_none _).symm
  rest := rfl

theorem State.LostIn.congr {g k : Ch → Nat → Bool} (h : s.LostIn t g) (e : ∀ n i, g n i = k n i) :
    s.LostIn t k := by
  have hgk : g = k := funext fun n => funext fun i => e n i
  rwa [← hgk]

theorem State.LostIn.trans {g k : Ch → Nat → Bool} (h : s.LostIn t g) (h' : t.LostIn u k) :
    s.LostIn u fun n i => g n i || k n i where
  stream n := by rw [h'.stream, h.stream, Stream.runWithout_runWithout]
  port q := by
    rw [h'.port, h.port, PortState.heldWithout_heldWithout]
    simp only [chSet_or]
  rest := by
    rw [h'.rest, h.rest]

/-- A change of slots alone ends no run and no hold. -/
theorem State.lostIn_slots {slots : List (Option Notice)} :
    s.LostIn { s with table := { s.table with slots := slots } } fun _ _ => false where
  stream _ := (Stream.runWithout_none _).symm
  port _ := (PortState.heldWithout_none _).symm
  rest := rfl

theorem State.cutRun_eq (s : State) (n : Ch) (i : Nat) :
    s.cutRun n i = s.setStream n ((s.stream n).runWithout fun j => j == i) := by
  unfold State.cutRun Stream.runWithout
  cases h : (s.stream n).run with
  | none => simp [State.setStream_stream]
  | some r =>
    by_cases hr : r.slot = i
    · simp [hr]
    · simp [hr, State.setStream_stream]

/-- A stream loses the notice in a slot: its run is cut and it leaves the submits held on the slot. -/
theorem State.lostIn_cut (s : State) (n : Ch) (i : Nat) :
    s.LostIn ((s.cutRun n i).leaveRemaining i n) fun m j => m == n && j == i where
  stream m := by
    rw [State.leaveRemaining_eq, State.cutRun_eq]
    change (s.setStream n _).stream m = _
    rw [State.stream_setStream]
    by_cases hm : m = n
    · subst hm
      simp
    · simp only [hm, if_false, beq_eq_false_iff_ne.2 hm, Bool.false_and, Stream.runWithout_none]
  port q := by
    rw [State.port_leaveRemaining, State.cutRun_eq, PortState.heldLeft_eq]
    have hset : (fun j => if j = i then chBit n else 0#4) = fun j => chSet fun m => m == n && j == i := by
      funext j
      by_cases hj : j = i
      · simp only [hj, if_true, beq_self_eq_true, Bool.and_true]
        revert n
        decide
      · simp only [hj, if_false, beq_eq_false_iff_ne.2 hj, Bool.and_false]
        rfl
    rw [hset]
    rfl
  rest := by
    rw [State.leaveRemaining_eq, State.cutRun_eq]
    rfl

/-- A stream that no longer carries a notice that it airs loses it when the record is reconciled (02 R44, R46). -/
theorem State.lostIn_reconcile (s : State) (i : Nat) (n : Ch) :
    s.LostIn (s.reconcile i n) fun m j =>
      m == n && j == i && (s.notice i).any fun nt => nt.airsOn n && !s.carries n nt := by
  unfold State.reconcile
  cases hn : s.notice i with
  | none => exact (State.LostIn.none s).congr fun m j => by simp
  | some nt =>
    dsimp only
    cases hc : s.carries n nt with
    | true =>
      rw [if_pos rfl]
      split
      · exact (State.LostIn.none s).congr fun m j => by simp [hc]
      · exact State.lostIn_slots.congr fun m j => by simp [hc]
    | false =>
      rw [if_neg Bool.false_ne_true]
      split
      · next ha =>
        refine (State.lostIn_slots.trans (State.lostIn_cut _ n i)).congr fun m j => ?_
        simp [ha, hc]
      · next ha => exact (State.LostIn.none s).congr fun m j => by simp [ha]

section
variable {f : Nat → State → State} {g : State → Ch → Notice → Bool}

/-- What the streams lose when every slot in turn has its notice's losses. -/
theorem forSlots_lostIn (hf : ∀ i (s : State), s.OnlyIn (f i s) [.slots, .runs, .ports])
    (hg : ∀ s t : State, s.OnlyIn t [.slots, .runs, .ports] → g t = g s)
    (hother : ∀ i (s : State) j, j ≠ i → (f i s).notice j = s.notice j)
    (h : ∀ i (s : State), s.LostIn (f i s) fun n j => j == i && (s.notice j).any (g s n)) (s : State) :
    s.LostIn (forSlots f s) fun n j => decide (j < 96) && (s.notice j).any (g s n) := by
  have key : ∀ (l : List Nat), l.Nodup → ∀ s : State, s.LostIn (l.foldl (fun t i => f i t) s)
      fun n j => decide (j ∈ l) && (s.notice j).any (g s n) := by
    intro l
    induction l with
    | nil => exact fun _ s => (State.LostIn.none s).congr fun n j => by simp
    | cons i l ih =>
      intro hl s
      obtain ⟨hi, hl⟩ := List.nodup_cons.1 hl
      refine ((h i s).trans (ih hl (f i s))).congr fun n j => ?_
      rw [hg s _ (hf i s)]
      by_cases e : j = i
      · subst e
        simp [hi]
      · simp [e, hother i s j e]
  refine (key slotNumbers List.nodup_range s).congr fun n j => ?_
  simp only [slotNumbers, List.mem_range]
  rfl
end

/-! ### One stream re-evaluated -/

/-- Stream `n` loses the notice: it airs it and no longer carries it (02 R46). -/
def State.drops (s : State) (p n : Ch) (nt : Notice) : Bool :=
  n == p && decide (nt.state = .live ∧ nt.airsOn n = true ∧ ¬ s.onStream n nt.areas)

theorem State.drops_congr (h : s.OnlyIn t [.slots, .runs, .ports]) (p : Ch) : t.drops p = s.drops p := by
  funext n nt
  simp only [State.drops, h.onStream (by decide) (by decide)]

theorem State.lostIn_reevaluateSlot (n : Ch) (i : Nat) (s : State) :
    s.LostIn (reevaluateSlot n i s) fun m j => j == i && (s.notice j).any (s.drops n m) := by
  have hdrops : ∀ (m : Ch) (nt : Notice), nt.state = .live →
      s.drops n m nt = (m == n && (nt.airsOn n && !s.carries n nt)) := fun m nt hl => by
    by_cases hm : m = n
    · subst hm
      simp [State.drops, State.carries_eq, hl]
    · simp only [State.drops, beq_eq_false_iff_ne.2 hm, Bool.false_and]
  unfold reevaluateSlot
  cases hn : s.notice i with
  | none =>
    refine (State.LostIn.none s).congr fun m j => ?_
    by_cases hj : j = i
    · simp [hj, hn]
    · simp [hj]
  | some nt =>
    dsimp only
    split
    · next hl =>
      refine (State.lostIn_reconcile s i n).congr fun m j => ?_
      by_cases hj : j = i
      · simp [hj, hn, hdrops m nt (nt.isLive_iff.1 hl)]
      · simp only [beq_eq_false_iff_ne.2 hj, Bool.false_and, Bool.and_false]
    · next hl =>
      refine (State.LostIn.none s).congr fun m j => ?_
      by_cases hj : j = i
      · simp [hj, hn, State.drops, mt nt.isLive_iff.2 hl]
      · simp [hj]

theorem State.lostIn_reevaluate (s : State) (p : Ch) :
    s.LostIn (s.reevaluate p) fun n i => decide (i < 96) && (s.notice i).any (s.drops p n) := by
  refine forSlots_lostIn (g := fun s n => s.drops p n) (onlyIn_reevaluateSlot p)
    (fun s t h => State.drops_congr h p) (fun i s j hj => ?_) (State.lostIn_reevaluateSlot p) s
  rw [State.notice_reevaluateSlot, if_neg hj]

end Sys2Proof.Machine
end

section
/-! SUPPORT. SET PROGRAMME (05 R101, R102, 02 R46, 06 R121, R128, R135): the proof of O42. -/

namespace Sys2Proof.Machine

variable {s t u : State}

/-! ### The checks -/

theorem targetOf?_none {b : Byte} (h : 3 < b.toNat ∧ b ≠ 0xFF#8) : targetOf? b = none := by
  rw [targetOf?, if_neg h.2, chOf?_none h.1]
  rfl

theorem targetOf?_targetByte (y : Option Ch) : targetOf? (targetByte y) = some y := by
  cases y with
  | none => rfl
  | some p => revert p; decide

theorem State.codeTaken_iff (s : State) (p : Ch) (code : BitVec 16) :
    s.codeTaken p code = true ↔ ∃ q, q ≠ p ∧ (s.prog q).code = code := by
  have hall : ∀ q : Ch, q ∈ channels := by decide
  simp [State.codeTaken, hall]

section
variable {b carries target : Byte} {code coverage : BitVec 16} {p : Ch} {y : Option Ch}

theorem handleSetProgramme_outOfRange (h : 3 < b.toNat ∨ 1 < carries.toNat ∨ (3 < target.toNat ∧ target ≠ 0xFF#8)) :
    handleSetProgramme b code coverage carries target s = refuse .outOfRange s := by
  unfold handleSetProgramme
  rcases h with h | h | h
  · rw [chOf?_none h]
  · cases chOf? b with
    | none => rfl
    | some p => exact if_pos h
  · cases chOf? b with
    | none => rfl
    | some p =>
      rw [targetOf?_none h]
      exact ite_self _

theorem handleSetProgramme_eq (hb : b.toNat = p.val) (hc : carries.toNat ≤ 1) (ht : target = targetByte y) :
    handleSetProgramme b code coverage carries target s =
      if y = some p then refuse .selfReference s
      else if code = 0#16 ∧ s.streamInUse p then refuse .inUse s
      else if code ≠ 0#16 ∧ s.codeTaken p code then refuse .inUse s
      else (s.applyProgramme p code coverage (decide (carries = 1#8)) y,
        some (Reply.ok (split2 code ++ split2 coverage ++ [flagByte (decide (carries = 1#8)), targetByte y] ++
          beBytes 1 (s.programmeCounts p coverage (decide (carries = 1#8))).1 ++
          beBytes 1 (s.programmeCounts p coverage (decide (carries = 1#8))).2))) := by
  have hon : decide (carries.toNat = 1) = decide (carries = 1#8) := by
    rw [decide_eq_decide, ← BitVec.toNat_inj]
    rfl
  unfold handleSetProgramme
  rw [chOf?_some hb, ht, targetOf?_targetByte]
  dsimp only
  rw [if_neg (by omega), hon]
end

/-! ### The change handed on -/

/-- The state with programme `p`'s record written (05 R101). -/
abbrev State.programmed (s : State) (p : Ch) (code : BitVec 16) (coverage : AreaSet) (carries : Bool)
    (target : Option Ch) : State :=
  s.setProg p { s.prog p with code := code, coverage := coverage, carries := carries, target := target }

/-- The stream's records brought into line with a changed coverage or carries-traffic flag (02 R46). -/
def State.covered (s : State) (p : Ch) (moved : Bool) : State := if moved then s.reevaluate p else s

theorem State.covered_onlyIn (s : State) (p : Ch) (moved : Bool) :
    s.OnlyIn (s.covered p moved) [.slots, .runs, .ports] := by
  unfold State.covered
  split
  · exact onlyIn_reevaluate s p
  · exact .refl _ _

theorem State.lostIn_covered (ht : s.table.slots.length = 96) (p : Ch) (moved : Bool) :
    s.LostIn (s.covered p moved) fun n i => n == p && (s.notice i).any fun nt =>
      decide (moved = true ∧ nt.state = .live ∧ nt.airsOn p = true ∧ ¬ s.onStream p nt.areas) := by
  cases moved with
  | false => exact (State.LostIn.none s).congr fun n i => by simp
  | true =>
    refine (State.lostIn_reevaluate s p).congr fun n i => ?_
    cases hn : s.notice i with
    | none => simp
    | some nt =>
      have hi : i < 96 := ht ▸ State.lt_of_notice hn
      by_cases hnp : n = p
      · subst hnp
        simp [hi, State.drops]
      · simp only [State.drops, beq_eq_false_iff_ne.2 hnp, Bool.false_and, Option.any_some, Bool.and_false]

theorem State.notice_covered (ht : s.table.slots.length = 96) (p : Ch) (i : Nat) :
    (s.covered p true).notice i = (s.notice i).map fun nt =>
      if nt.state = .live then nt.withRecord p (s.recordFor p nt.areas (nt.record p)) else nt := by
  have h := State.notice_reevaluate s p i
  by_cases hi : i < 96
  · rw [if_pos hi] at h
    exact h
  · rw [if_neg hi] at h
    have hnone : s.notice i = none := by
      cases hn : s.notice i with
      | none => rfl
      | some nt => exact absurd (ht ▸ State.lt_of_notice hn) hi
    rw [hnone] at h ⊢
    exact h

/-- Each record with its closing counter put at 0 after a change of programme `p`'s target (06 R135). -/
def State.retargeted (s : State) (p : Ch) (same : Prop) [Decidable same] : State :=
  if same then s else s.setAnn p { s.ann p with closing := 0 }

theorem State.ann_retargeted (s : State) (p : Ch) (same : Prop) [Decidable same] (q : Ch) :
    (s.retargeted p same).ann q =
      if q = p ∧ ¬ same then { s.ann q with closing := 0 } else s.ann q := by
  unfold State.retargeted
  by_cases h : same
  · simp [h]
  · by_cases hq : q = p
    · subst hq
      simp [h]
    · simp [h, hq]

theorem State.retargeted_eq (s : State) (p : Ch) (same : Prop) [Decidable same] :
    s.retargeted p same = { s with announce := (s.retargeted p same).announce } := by
  unfold State.retargeted
  split <;> rfl

/-- Announcement control after a change of the carries-traffic flag (06 R121, R128). -/
def State.carried (s : State) (p : Ch) (was carries : Bool) : State :=
  if was = carries then s else s.carriesChanged p carries

theorem State.carried_eq (s : State) (p : Ch) (was carries : Bool) :
    s.carried p was carries = { s with announce := (s.carried p was carries).announce } := by
  unfold State.carried State.carriesChanged
  split
  · rfl
  · cases carries with
    | true => rfl
    | false => exact State.putAnn_eq s p (s.ann p).forceQuiet

theorem State.carried_same (s : State) (p : Ch) {was carries : Bool} (h : was = carries) :
    s.carried p was carries = s := if_pos h

theorem State.ann_carried_set (s : State) (p q : Ch) :
    (s.carried p false true).ann q = if q = p then { s.ann p with cueLevel := (s.ann p).cueTerm true }
      else s.ann q := by
  change (s.setAnn p _).ann q = _
  by_cases h : q = p
  · subst h
    rw [if_pos rfl, State.ann_setAnn_self]
  · rw [if_neg h, State.ann_setAnn_ne _ _ _ _ h]

theorem Announce.forceQuiet_flag (a : Announce) : a.forceQuiet.flag = false := rfl

/-- A programme whose carries-traffic flag is cleared is QUIET, and the programmes that refer to it begin to close
where its flag falls (06 R128, R133). -/
theorem State.ann_carried_cleared (s : State) (p : Ch) (hself : (s.prog p).target ≠ some p) (q : Ch) :
    (s.carried p true false).ann q =
      if q = p then (s.ann p).forceQuiet
      else { s.ann q with closing :=
        if (s.prog q).target = some p ∧ (s.ann p).flag = true then 3 else (s.ann q).closing } := by
  change (s.putAnn p (s.ann p).forceQuiet).ann q = _
  by_cases h : q = p
  · subst h
    rw [if_pos rfl, putAnn_self, putAnn_closing, if_neg (fun hc => hself hc.1), if_pos rfl]
  · rw [if_neg h, putAnn_other s p _ h, putAnn_closing, if_neg h, Announce.forceQuiet_flag]
    cases hf : (s.ann p).flag <;> simp

theorem State.applyProgramme_eq (s : State) (p : Ch) (code : BitVec 16) (coverage : AreaSet) (carries : Bool)
    (target : Option Ch) :
    s.applyProgramme p code coverage carries target =
      (((s.programmed p code coverage carries target).covered p
        (decide ((s.prog p).coverage ≠ coverage ∨ (s.prog p).carries ≠ carries))).carried p (s.prog p).carries
          carries).retargeted p ((s.prog p).target = target) := by
  obtain ⟨moved, hmoved⟩ : ∃ moved, moved =
    decide ((s.prog p).coverage ≠ coverage ∨ (s.prog p).carries ≠ carries) := ⟨_, rfl⟩
  rw [← hmoved, State.covered, State.applyProgramme]
  dsimp only
  by_cases h : (s.prog p).coverage = coverage ∧ (s.prog p).carries = carries
  · have hfalse : moved = false := by simp [hmoved, h]
    rw [if_pos h, hfalse]
    rfl
  · have htrue : moved = true := by
      rw [hmoved, decide_eq_true_eq]
      exact not_and_or.1 h
    rw [if_neg h, htrue]
    rfl

theorem State.countNotices_congr {f g : Notice → Bool} (h : ∀ nt, f nt = g nt) :
    s.countNotices f = s.countNotices g := congrArg s.countNotices (funext h)

/-- The two counts of SET PROGRAMME's response (05 R102). -/
theorem State.programmeCounts_eq (s : State) (p : Ch) (code : BitVec 16) (coverage : AreaSet) (carries : Bool)
    (target : Option Ch) :
    let now := s.programmed p code coverage carries target
    s.programmeCounts p coverage carries =
      if (s.prog p).coverage ≠ coverage ∨ (s.prog p).carries ≠ carries then
        (s.countNotices fun nt => nt.state = .live && decide (now.onStream p nt.areas) && !nt.airsOn p,
          s.countNotices fun nt => nt.state = .live && !decide (now.onStream p nt.areas) && nt.airsOn p)
      else (0, 0) := by
  intro now
  obtain ⟨v, hv⟩ : ∃ v, v = s.setProg p { s.prog p with coverage := coverage, carries := carries } := ⟨_, rfl⟩
  have hon : ∀ areas, v.onStream p areas ↔ now.onStream p areas := fun areas => by
    rw [hv]
    simp only [State.onStream, now, State.programmed, State.prog_setProg_self]
    rfl
  have hcount : ∀ f, v.countNotices f = s.countNotices f := fun f => by rw [hv]; rfl
  have hcarries : ∀ nt : Notice, v.carries p nt = (decide (nt.state = .live) && decide (now.onStream p nt.areas)) :=
    fun nt => by
      rw [State.carries_eq, Bool.decide_and]
      simp only [hon]
  unfold State.programmeCounts
  rw [← hv]
  dsimp only
  by_cases h : (s.prog p).coverage = coverage ∧ (s.prog p).carries = carries
  · rw [if_pos h, if_neg (by tauto)]
  · have hlive : ∀ nt : Notice, nt.isLive = decide (nt.state = .live) := fun nt => by
      rw [Bool.eq_iff_iff, nt.isLive_iff, decide_eq_true_iff]
    rw [if_neg h, if_pos (not_and_or.1 h), State.freshCount, State.droppedCount, hcount, hcount]
    refine Prod.ext (s.countNotices_congr fun nt => ?_) (s.countNotices_congr fun nt => ?_)
    · rw [hcarries]
    · rw [hcarries, hlive]
      cases decide (nt.state = .live) <;> cases nt.airsOn p <;> simp

theorem chSet_single : ∀ p : Ch, (chSet fun n => n == p) = chBit p := by decide

/-- The streams and ports after a programme's change: its own stream alone loses what it no longer carries. -/
theorem State.LostIn.programme {p : Ch} {lost : Nat → Bool} (h : s.LostIn t fun n i => n == p && lost i) :
    t.stream p = (s.stream p).runWithout lost ∧ (∀ n, n ≠ p → t.stream n = s.stream n) ∧
      ∀ q, t.port q = (s.port q).heldWithout fun i => if lost i then chBit p else 0#4 := by
  refine ⟨?_, fun n hn => ?_, fun q => ?_⟩
  · rw [h.stream]
    simp only [beq_self_eq_true, Bool.true_and]
  · rw [h.stream]
    simp only [beq_eq_false_iff_ne.2 hn, Bool.false_and, Stream.runWithout_none]
  · rw [h.port]
    congr 1
    funext i
    cases lost i with
    | false =>
      simp only [Bool.and_false]
      rfl
    | true =>
      simp only [Bool.and_true, if_true, chSet_single]

/-- Settles O42: the checks in turn; then the record is written, the stream's notices and the announcement records
follow, and each stage leaves what the others write. -/
theorem setProgrammeStoresAndHandsOn : Obligations.SetProgrammeStoresAndHandsOn := by
  intro b carries target code coverage s hr ht run refused
  have hexec : run = .next (answered .site 0x30#8 (handleSetProgramme b code coverage carries target s)) :=
    onRequest_site (.setProgramme b code coverage carries target) s hr rfl
  refine ⟨fun h => ?range, ?known⟩
  case range =>
    simp only [refused, hexec, handleSetProgramme_outOfRange h, answered_refuse]
  case known =>
    intro p y hb hc hy on old moved now lost
    have hhandle := handleSetProgramme_eq (code := code) (coverage := coverage) (s := s) hb hc hy
    refine ⟨fun h => ?self, fun h h0 huse => ?inUse, fun h h0 htaken => ?taken, fun h hfree hother => ?accepted⟩
    case self =>
      simp only [refused, hexec, hhandle, if_pos h, answered_refuse]
    case inUse =>
      simp only [refused, hexec, hhandle, if_neg h, if_pos (And.intro h0 ((s.streamInUse_iff p).2 huse)),
        answered_refuse]
    case taken =>
      simp only [refused, hexec, hhandle, if_neg h, h0, false_and, if_false,
        if_pos (And.intro h0 ((s.codeTaken_iff p code).2 htaken)), answered_refuse]
    case accepted =>
      have hnotUse : ¬ (code = 0#16 ∧ s.streamInUse p = true) := fun ⟨h0, hu⟩ => by
        obtain ⟨hst, hpend⟩ := hfree h0
        rcases (s.streamInUse_iff p).1 hu with hu | hu
        · exact hu hst
        · rw [hpend] at hu
          cases hu
      have hnotTaken : ¬ (code ≠ 0#16 ∧ s.codeTaken p code = true) := fun ⟨h0, hu⟩ => by
        obtain ⟨q, hq, hcode⟩ := (s.codeTaken_iff p code).1 hu
        exact hother h0 q hq hcode
      have happly := s.applyProgramme_eq p code coverage on y
      have hcounts := s.programmeCounts_eq p code coverage on y
      obtain ⟨u, hu⟩ : ∃ u, u = now.covered p moved := ⟨_, rfl⟩
      have hlost : now.LostIn u fun n i => n == p && lost i := by
        rw [hu]
        exact (State.lostIn_covered (s := now) ht.1 p moved).congr fun n i => rfl
      obtain ⟨t, htdef⟩ : ∃ t, t = (u.carried p old.carries on).retargeted p (old.target = y) := ⟨_, rfl⟩
      have happly' : s.applyProgramme p code coverage on y = t := by
        rw [htdef, hu]
        exact happly
      have htrest : t = { u with announce := t.announce } := by
        rw [htdef, State.retargeted_eq, State.carried_eq]
      have hurest := hlost.rest
      have huannounce : u.announce = s.announce := (congrArg State.announce hurest).trans rfl
      have hustore : u.store = now.store := (congrArg State.store hurest).trans rfl
      have huann : ∀ q, u.ann q = s.ann q := fun q => congrArg (fun x : Four Announce => x.get q) huannounce
      have huprog : ∀ q, u.prog q = now.prog q := fun q => congrArg (fun x : Store => x.progs.get q) hustore
      have htself : (u.prog p).target ≠ some p := by
        rw [huprog, State.prog_setProg_self]
        exact h
      have htother : ∀ q, q ≠ p → (u.prog q).target = (s.prog q).target := fun q hq => by
        rw [huprog, State.prog_setProg_ne _ _ _ _ hq]
      obtain ⟨hstream, hothers, hports⟩ := hlost.programme
      refine ⟨t, ?response, ?store, fun hm i => ?notice, fun hm => ?table, ?stream, fun q => ?port, ?slots,
        fun hsame q => ?kept, ⟨fun h1 h2 => ?cleared, fun h1 h2 => ?set⟩, fun n hn => ?streams, ?map, ?time,
        ?monitor, ?attention⟩
      case response =>
        rw [hexec, hhandle, if_neg h, if_neg hnotUse, if_neg hnotTaken, answered_ok, hcounts]
        change Host.Outcome.next ((s.applyProgramme p code coverage on y).send .site _) = _
        rw [happly']
        by_cases hm : old.coverage ≠ coverage ∨ old.carries ≠ on
        · have hmoved : moved = true := decide_eq_true hm
          rw [if_pos hm, if_pos hmoved]
          simp only [List.append_assoc]
          rfl
        · have hmoved : ¬ moved = true := fun he => hm (of_decide_eq_true he)
          rw [if_neg hm, if_neg hmoved]
          simp only [List.append_assoc]
          rfl
      case store => exact ((congrArg State.store htrest).trans rfl).trans hustore
      case notice =>
        have hn := State.notice_covered (s := now) ht.1 p i
        rw [← hm, ← hu] at hn
        rw [htrest]
        exact hn
      case table =>
        rw [htrest, hu, hm]
        rfl
      case stream =>
        rw [htrest]
        exact hstream
      case port =>
        rw [htrest]
        exact hports q
      case slots =>
        have htable : t.table = u.table := (congrArg State.table htrest).trans rfl
        rw [htable]
        exact (congrArg State.table hurest).trans rfl
      case kept =>
        rw [htdef, State.carried_same _ _ hsame, State.ann_retargeted, huann]
      case cleared =>
        have hann : ∀ q, (u.carried p old.carries on).ann q = if q = p then (s.ann p).forceQuiet
            else { s.ann q with closing :=
              if (u.prog q).target = some p ∧ (s.ann p).flag = true then 3 else (s.ann q).closing } := fun q => by
          rw [h1, h2, State.ann_carried_cleared u p htself, huann, huann]
        refine ⟨?_, fun q hq => ?_⟩
        · rw [htdef, State.ann_retargeted, hann, if_pos rfl]
          by_cases hsame : old.target = y
          · simp only [hsame, not_true_eq_false, and_false, if_false, if_true]
            rfl
          · simp only [hsame, not_false_eq_true, and_self, if_true, if_false]
            rfl
        · rw [htdef, State.ann_retargeted, if_neg (fun hc => hq hc.1), hann, if_neg hq, htother q hq]
          simp only [Announce.flag_iff]
      case set =>
        have hann : ∀ q, (u.carried p old.carries on).ann q =
            if q = p then { s.ann p with cueLevel := (s.ann p).cueTerm true } else s.ann q := fun q => by
          rw [h1, h2, State.ann_carried_set, huann, huann]
        refine ⟨?_, fun q hq => ?_⟩
        · rw [htdef, State.ann_retargeted, hann, if_pos rfl]
          by_cases hsame : old.target = y <;> cases hsrc : (s.ann p).source <;>
            simp [Announce.cueTerm, hsrc, hsame]
        · rw [htdef, State.ann_retargeted, if_neg (fun hc => hq hc.1), hann, if_neg hq]
      case streams =>
        rw [htrest]
        exact hothers n hn
      case map => exact ((congrArg State.map htrest).trans rfl).trans ((congrArg State.map hurest).trans rfl)
      case time => exact ((congrArg State.time htrest).trans rfl).trans ((congrArg State.time hurest).trans rfl)
      case monitor => exact ((congrArg State.monitor htrest).trans rfl).trans ((congrArg State.monitor hurest).trans rfl)
      case attention => exact ((congrArg State.attention htrest).trans rfl).trans ((congrArg State.attention hurest).trans rfl)

end Sys2Proof.Machine
end

section
/-! SUPPORT. SET RANGE and SET DEFAULT AREAS (02 R35, R36, R38, R41 to R44): the proof of O41. -/

namespace Sys2Proof.Machine

variable {s t u : State}

/-! ### One slot derived again -/

/-- Stream `n` loses a DERIVED notice: it airs it, the notice's area set is replaced, and it does not carry the
notice with the new set (02 R44). -/
def State.losesAgain (s : State) (n : Ch) (nt : Notice) : Bool :=
  decide (nt.origin = .derived ∧ nt.state = .live ∧ nt.airsOn n = true ∧
    s.map.derive nt.location ≠ 0#16 ∧ s.map.derive nt.location ≠ nt.areas ∧
    ¬ s.onStream n (s.map.derive nt.location))

theorem State.losesAgain_congr (h : s.OnlyIn t [.slots, .runs, .ports]) : t.losesAgain = s.losesAgain := by
  have hmap : t.map = s.map := h .map (by decide)
  funext n nt
  simp only [State.losesAgain, hmap, h.onStream (by decide) (by decide)]

theorem eq_and_of_channels : ∀ (m : Ch) (x l : Bool),
    ((((m == 0 && x && l) || (m == 1 && x && l)) || (m == 2 && x && l)) || (m == 3 && x && l)) = (x && l) := by
  decide

/-- The streams that no longer carry a LIVE notice lose it when all its records are reconciled (02 R44). -/
theorem State.lostIn_reconcileAll {i : Nat} {nt : Notice} (h : s.notice i = some nt) (hl : nt.state = .live) :
    s.LostIn (forChannels (fun n u => u.reconcile i n) s) fun m j =>
      j == i && decide (nt.airsOn m = true ∧ ¬ s.onStream m nt.areas) := by
  have hstep : ∀ (n : Ch) (u : State) (x : Notice), s.OnlyIn u [.slots, .runs, .ports] →
      u.notice i = some x → x.state = .live → x.areas = nt.areas → x.record n = nt.record n →
      u.LostIn (u.reconcile i n) fun m j =>
        m == n && j == i && decide (nt.airsOn m = true ∧ ¬ s.onStream m nt.areas) := by
    intro n u x hu hx hxl hxa hxr
    refine (State.lostIn_reconcile u i n).congr fun m j => ?_
    by_cases hm : m = n
    · subst hm
      have hairs : x.airsOn m = nt.airsOn m := by rw [Notice.airsOn, Notice.airsOn, hxr]
      have hcarry : u.carries m x = decide (s.onStream m nt.areas) := by
        rw [State.carries_eq, hxa]
        simp only [hxl, true_and, hu.onStream (by decide) (by decide)]
      simp only [hx, Option.any_some, hairs, hcarry, Bool.decide_and, Bool.decide_eq_true, decide_not,
        beq_self_eq_true, Bool.true_and]
    · simp only [beq_eq_false_iff_ne.2 hm, Bool.false_and]
  have honly : ∀ (n : Ch) (u : State), s.OnlyIn u [.slots, .runs, .ports] →
      s.OnlyIn (u.reconcile i n) [.slots, .runs, .ports] := fun n u hu =>
    hu.trans (onlyIn_reconcile u i n) (by decide) (by decide)
  have hnext : ∀ (n : Ch) (u : State) (x : Notice), u.notice i = some x → x.state = .live →
      ∃ y, (u.reconcile i n).notice i = some y ∧ y.state = .live ∧ y.areas = x.areas ∧
        ∀ m, m ≠ n → y.record m = x.record m := fun n u x hx hxl => by
    refine ⟨_, (State.notice_reconcile hx hxl n i).trans (if_pos rfl), hxl, rfl, fun m hm => ?_⟩
    rw [Notice.record_withRecord, if_neg hm]
  have o0 := honly 0 s (.refl s _)
  have o1 := honly 1 _ o0
  have o2 := honly 2 _ o1
  obtain ⟨x1, hx1, hl1, ha1, hr1⟩ := hnext 0 s nt h hl
  obtain ⟨x2, hx2, hl2, ha2, hr2⟩ := hnext 1 _ x1 hx1 hl1
  obtain ⟨x3, hx3, hl3, ha3, hr3⟩ := hnext 2 _ x2 hx2 hl2
  have e0 := hstep 0 s nt (.refl s _) h hl rfl rfl
  have e1 := hstep 1 _ x1 o0 hx1 hl1 ha1 (hr1 1 (by decide))
  have e2 := hstep 2 _ x2 o1 hx2 hl2 (ha2.trans ha1) ((hr2 2 (by decide)).trans (hr1 2 (by decide)))
  have e3 := hstep 3 _ x3 o2 hx3 hl3 (ha3.trans (ha2.trans ha1))
    ((hr3 3 (by decide)).trans ((hr2 3 (by decide)).trans (hr1 3 (by decide))))
  exact (((e0.trans e1).trans e2).trans e3).congr fun m j => eq_and_of_channels m _ _

theorem State.lostIn_rederiveSlot (i : Nat) (s : State) :
    s.LostIn (rederiveSlot i s) fun n j => j == i && (s.notice j).any (s.losesAgain n) := by
  have hfalse : ∀ {nt : Notice}, s.notice i = some nt → (∀ n, s.losesAgain n nt = false) → ∀ n j,
      false = (j == i && (s.notice j).any (s.losesAgain n)) := fun {nt} hn h n j => by
    by_cases hj : j = i
    · simp [hj, hn, h]
    · simp [hj]
  unfold rederiveSlot
  cases hn : s.notice i with
  | none =>
    refine (State.LostIn.none s).congr fun n j => ?_
    by_cases hj : j = i
    · simp [hj, hn]
    · simp [hj]
  | some nt =>
    have hderived : nt.isDerived = true ↔ nt.origin = .derived := decide_eq_true_iff
    dsimp only
    split
    · next hd =>
      split
      · next hm =>
        rw [Bool.and_eq_true, nt.isLive_iff] at hm
        obtain ⟨hl, hmove⟩ := hm
        simp only [Notice.movesPlace, hd, Bool.true_and, Bool.and_eq_true, decide_eq_true_eq] at hmove
        obtain ⟨hz, hne⟩ := hmove
        have hre : nt.rederive s.map = { nt with areas := s.map.derive nt.location, stranded := false } := by
          simp [Notice.rederive, hz]
        obtain ⟨u, hu⟩ : ∃ u, u = s.setSlot i (some (nt.rederive s.map)) := ⟨_, rfl⟩
        have hslots : s.LostIn u fun _ _ => false := by
          rw [hu]
          exact State.lostIn_slots
        have hat : u.notice i = some (nt.rederive s.map) := by
          rw [hu, State.notice_setSlot hn, if_pos rfl]
        have hon : ∀ m areas, u.onStream m areas ↔ s.onStream m areas := fun m areas => by
          rw [hu]
          exact Iff.rfl
        rw [hre] at hat
        rw [← hu]
        refine (hslots.trans (State.lostIn_reconcileAll hat hl)).congr fun m j => ?_
        by_cases hj : j = i
        · rw [hj, hn, Option.any_some, State.losesAgain, Bool.false_or]
          simp only [beq_self_eq_true, Bool.true_and, hderived.1 hd, hl, hz, hne, ne_eq, not_false_eq_true, true_and,
            hon]
          rfl
        · simp only [beq_eq_false_iff_ne.2 hj, Bool.false_and, Bool.or_false]
      · next hm =>
        refine State.lostIn_slots.congr (hfalse hn fun n => decide_eq_false fun hc => hm ?_)
        obtain ⟨ho, hl, -, hz, hne, -⟩ := hc
        simp [nt.isLive_iff.2 hl, Notice.movesPlace, hd, hz, hne]
    · next hd =>
      refine (State.LostIn.none s).congr (hfalse hn fun n => decide_eq_false fun hc => hd ?_)
      exact hderived.2 hc.1

theorem State.lostIn_rederive (s : State) :
    s.LostIn (forSlots rederiveSlot s) fun n i => decide (i < 96) && (s.notice i).any (s.losesAgain n) := by
  refine forSlots_lostIn (g := State.losesAgain) onlyIn_rederiveSlot (fun s t h => State.losesAgain_congr h)
    (fun i s j hj => ?_) State.lostIn_rederiveSlot s
  rw [State.notice_rederiveSlot, if_neg hj]

/-! ### The requests -/

/-- The pass: every slot derived again, and PLACEMENT raised when a derivation was empty (02 R41, R43). -/
theorem State.rederivePass_fst (s : State) :
    s.rederivePass.1 = { forSlots rederiveSlot s with
      attention := if 0 < s.countNotices (Notice.losesPlace s.map) then
          ((forSlots rederiveSlot s).raise
            (.placement ((forSlots rederiveSlot s).countNotices fun nt => nt.stranded))).attention
        else (forSlots rederiveSlot s).attention } := by
  unfold State.rederivePass
  generalize forSlots rederiveSlot s = t
  dsimp only
  split <;> rfl

theorem State.rederivePass_snd (s : State) :
    s.rederivePass.2 = ⟨s.countNotices Notice.isDerived, s.countNotices (Notice.movesPlace s.map),
      (forSlots rederiveSlot s).countNotices fun nt => nt.stranded⟩ := by
  unfold State.rederivePass
  dsimp only
  split <;> rfl

section
variable {entry enabled area : Byte} {first last : BitVec 16}

theorem handleSetRange_outOfRange (h : 31 < entry.toNat ∨ 1 < enabled.toNat ∨ 15 < area.toNat) :
    handleSetRange entry enabled first last area s = refuse .outOfRange s := by
  unfold handleSetRange
  by_cases he : 31 < entry.toNat
  · rw [if_pos he]
  · rw [if_neg he]
    by_cases hn : 1 < enabled.toNat
    · rw [if_pos hn]
    · rw [if_neg hn, if_pos ((h.resolve_left he).resolve_left hn)]

theorem handleSetRange_eq (h : ¬ (31 < entry.toNat ∨ 1 < enabled.toNat ∨ 15 < area.toNat)) :
    handleSetRange entry enabled first last area s =
      if last.toNat < first.toNat then refuse .rangeInverted s
      else
        let e : RangeEntry := ⟨decide (enabled = 1#8), first.toNat, last.toNat, area.toNat⟩
        if s.map.ranges[entry.toNat]? = some e then
          (s, some (Reply.ok (e.bytes ++ (PassCounts.mk 0 0 0).bytes)))
        else ((s.setRange entry.toNat e).rederivePass.1,
          some (Reply.ok (e.bytes ++ (s.setRange entry.toNat e).rederivePass.2.bytes))) := by
  have hon : decide (enabled.toNat = 1) = decide (enabled = 1#8) := by
    rw [decide_eq_decide, ← BitVec.toNat_inj]
    rfl
  obtain ⟨he, hn, ha⟩ : ¬ 31 < entry.toNat ∧ ¬ 1 < enabled.toNat ∧ ¬ 15 < area.toNat := by tauto
  unfold handleSetRange
  rw [if_neg he, if_neg hn, if_neg ha]
  simp only [hon, gt_iff_lt]
end

theorem RangeEntry.bytes_eq (e : RangeEntry) :
    e.bytes = flagByte e.enabled :: (beBytes 2 e.first ++ beBytes 2 e.last ++ beBytes 1 e.area) := by
  rw [RangeEntry.bytes, List.append_assoc, List.append_assoc, List.cons_append, List.nil_append, List.append_assoc]

/-- Settles O41: the checks in turn; a changed map takes every slot through the pass, and the streams lose what
they aired and no longer carry. -/
theorem aChangedMapDerivesNoticesAgain : Obligations.AChangedMapDerivesNoticesAgain := by
  intro entry enabled area first last default s hr ht hranges bad e zero told again lost pass
  have hpass : ∀ m, pass m { s with map := m }.rederivePass.1 { s with map := m }.rederivePass.2.bytes := fun m => by
    obtain ⟨v, hv⟩ : ∃ v : State, v = { s with map := m } := ⟨_, rfl⟩
    rw [← hv, State.rederivePass_fst, State.rederivePass_snd]
    have hnotices := State.notice_rederive v
    have hlost := State.lostIn_rederive v
    obtain ⟨t, htdef⟩ : ∃ t, t = forSlots rederiveSlot v := ⟨_, rfl⟩
    rw [← htdef] at hnotices hlost ⊢
    have hvnotice : ∀ i, v.notice i = s.notice i := fun i => by rw [hv]; rfl
    have hlt : ∀ {i nt}, s.notice i = some nt → i < 96 := fun h =>
      Nat.lt_of_lt_of_eq (State.lt_of_notice h) ht.1
    have hagain : ∀ nt, v.rederived nt = again m nt := fun nt => by rw [hv]; rfl
    have hloses : ∀ n i, (decide (i < 96) && (v.notice i).any (v.losesAgain n)) = lost m n i := fun n i => by
      rw [hvnotice]
      cases hn : s.notice i with
      | none => simp [lost, hn]
      | some nt =>
        rw [decide_eq_true (hlt hn), Bool.true_and]
        simp only [lost, hn, Option.any_some, hv]
        rfl
    have hlost' := hlost.congr hloses
    have hrest := hlost.rest
    refine ⟨?map, fun i => ?notice, fun n => ?stream, fun q => ?port, ?table, ?store, ?announce, ?time, ?monitor, ?due,
      ?counts, ?attention⟩
    case map =>
      change t.map = m
      rw [hrest, hv]
    case notice =>
      refine (hnotices i).trans ?_
      rw [hvnotice]
      cases hn : s.notice i with
      | none => split <;> rfl
      | some nt => rw [if_pos (hlt hn), Option.map_some, Option.map_some, hagain]
    case stream =>
      refine (hlost'.stream n).trans ?_
      rw [hv]
      rfl
    case port =>
      refine (hlost'.port q).trans ?_
      rw [hv]
      rfl
    case table =>
      change t.table = { s.table with slots := t.table.slots }
      rw [hv] at hrest
      exact (congrArg State.table hrest).trans rfl
    case counts =>
      rw [hv]
      rfl
    case attention =>
      have hcount : v.countNotices (Notice.losesPlace v.map) =
          s.countNotices fun nt => nt.origin = .derived && m.derive nt.location = 0#16 := by rw [hv]; rfl
      have hattention : t.attention = s.attention := by rw [hrest, hv]
      rw [hcount]
      refine if_congr Iff.rfl ?_ hattention
      change ({ (t.attention.mergeDetail (.placement _)) with
        pendingKinds := t.attention.pendingKinds ||| kindBit 4 } : Attention) = _
      rw [hattention]
      rfl
    all_goals
      rw [hv] at hrest
      rw [hrest]
  have hset : exec (.setRange .site entry enabled first last area) s =
      .next (answered .site 0x20#8 (handleSetRange entry enabled first last area s)) :=
    onRequest_site (.setRange entry enabled first last area) s hr rfl
  have hdefault : exec (.setDefaultAreas .site default) s =
      .next (answered .site 0x22#8 (handleSetDefaultAreas default s)) :=
    onRequest_site (.setDefaultAreas default) s hr rfl
  refine ⟨fun h => ?range, fun h hlt => ?inverted, fun h hle => ⟨fun hsame => ?same, fun hne => ?changed⟩,
    fun hsame => ?sameDefault, fun hne => ?changedDefault⟩
  case range => rw [hset, handleSetRange_outOfRange h, answered_refuse]
  case inverted => rw [hset, handleSetRange_eq h, if_pos hlt, answered_refuse]
  case same =>
    rw [hset, handleSetRange_eq h, if_neg (by omega)]
    dsimp only
    rw [if_pos hsame, answered_ok, RangeEntry.bytes_eq]
    rfl
  case changed =>
    refine ⟨_, _, hpass _, ?_⟩
    rw [hset, handleSetRange_eq h, if_neg (by omega)]
    dsimp only
    rw [if_neg hne, answered_ok, RangeEntry.bytes_eq]
    rfl
  case sameDefault =>
    rw [hdefault, handleSetDefaultAreas, if_pos hsame, answered_ok]
    rfl
  case changedDefault =>
    refine ⟨_, _, hpass _, ?_⟩
    rw [hdefault, handleSetDefaultAreas, if_neg hne, answered_ok]

end Sys2Proof.Machine
end

section
/-! SUPPORT. The cell that a stream sends at a boundary (03 R55 to R65, 04 R78 to R87): what it changes, and the
closing counter it counts down. -/

namespace Sys2Proof.Machine

variable {s t u : State} {n : Ch} {i : Nat} {nt : Notice} {r : Record} {run : Run} {name long : Nat}

/-! ### What a cell leaves -/

/-- Slot `i` of the notice table is no WITHDRAWAL record of stream `n`. -/
def State.KeptOn (s : State) (n : Ch) (i : Nat) : Prop :=
  ∀ nt r left, s.notice i = some nt → nt.record n = some r → r.mode ≠ .withdrawal left

/-- What the sending of one cell on stream `n` leaves: of the streams only its own changes, in its cell, run and
segment counters; while it has no run no port changes, no AIRING record of its own, and no notice but one of which
it holds a WITHDRAWAL record. `name` and `long` are the segment counters after it. -/
structure State.Sent (s t : State) (n : Ch) (name long : Nat) : Prop where
  streams : ∃ k v run, t.streams = s.streams.set n { s.stream n with
    cell := some (formCell (s.prog n).code k v)
    run := run
    nameCtr := name
    longCtr := long }
  rest : t = { s with
    table := { s.table with slots := t.table.slots }
    streams := t.streams, announce := t.announce, ports := t.ports }
  ports : (s.stream n).run = none → t.ports = s.ports
  aired : (s.stream n).run = none → t.airedOn n = s.airedOn n
  notice : (s.stream n).run = none → ∀ i, s.KeptOn n i → t.notice i = s.notice i

/-- A cell that touches nothing but its stream. -/
theorem sent_setStream (s : State) (n : Ch) (k : Kind) (v : BitVec 48) (run : Option Run) (name long : Nat) :
    s.Sent (s.setStream n { s.stream n with
      cell := some (formCell (s.prog n).code k v), run := run, nameCtr := name, longCtr := long }) n name long where
  streams := ⟨k, v, run, rfl⟩
  rest := rfl
  ports _ := rfl
  aired _ := rfl
  notice _ _ _ := rfl

/-- What an announcement record of the programme adds to a cell. -/
theorem State.Sent.withAnnounce (h : s.Sent t n name long) (a : Four Announce) :
    s.Sent { t with announce := a } n name long where
  streams := h.streams
  rest := congrArg (fun u : State => { u with announce := a }) h.rest
  ports := h.ports
  aired := h.aired
  notice := h.notice

theorem State.Sent.others (h : s.Sent t n name long) {m : Ch} (hm : m ≠ n) : t.stream m = s.stream m := by
  obtain ⟨_, _, _, hs⟩ := h.streams
  rw [State.stream, hs, Four.get_set_ne _ _ _ _ hm, State.stream]

theorem State.Sent.stream (h : s.Sent t n name long) : ∃ k v, t.stream n = { s.stream n with
    cell := some (formCell (s.prog n).code k v)
    run := (t.stream n).run
    nameCtr := name
    longCtr := long } := by
  obtain ⟨k, v, run, hs⟩ := h.streams
  refine ⟨k, v, ?_⟩
  rw [State.stream, hs, Four.get_set_self]

/-- The load figure before and after the cell of a stream without a run. -/
theorem State.Sent.load (h : s.Sent t n name long) (hrun : (s.stream n).run = none) : t.load n = s.load n := by
  obtain ⟨_, _, hstream⟩ := h.stream
  have hplan : (t.stream n).plan = (s.stream n).plan := by rw [hstream]
  have hclasses : t.table.classes = s.table.classes := by rw [h.rest]
  simp only [State.load, State.airingRecords_eq, h.aired hrun, hplan, State.demand, State.classOf, hclasses]

/-! ### The cells of a run -/

theorem sendRunCell_lost (hn : s.notice run.slot = none) :
    s.sendRunCell n run = s.setStream n { s.stream n with
      cell := some (formCell (s.prog n).code .fill 0#48) } := by
  rw [State.sendRunCell, hn]
  rfl

theorem sendRunCell_more (hn : s.notice run.slot = some nt) (hmore : run.sent + 1 < nt.runLength) :
    s.sendRunCell n run = s.setStream n { s.stream n with
      cell := some (formCell (s.prog n).code (runCell nt run.sent).1 (runCell nt run.sent).2)
      run := some { run with sent := run.sent + 1 } } := by
  simp [State.sendRunCell, hn, hmore, State.emit, State.setStream_setStream]

/-- The last cell of a run for which the stream holds no record. -/
theorem sendRunCell_unrecorded (hn : s.notice run.slot = some nt) (hlast : nt.runLength ≤ run.sent + 1)
    (hr : nt.record n = none) :
    s.sendRunCell n run = s.setStream n { s.stream n with
      cell := some (formCell (s.prog n).code (runCell nt run.sent).1 (runCell nt run.sent).2)
      run := none } := by
  simp [State.sendRunCell, State.completeRun, hn, hr, Nat.not_lt.2 hlast, State.emit, State.setStream_setStream]

/-- The last cell of a run (03 R61). -/
theorem sendRunCell_last (hn : s.notice run.slot = some nt) (hlast : nt.runLength ≤ run.sent + 1)
    (hr : nt.record n = some r) :
    s.sendRunCell n run =
      (((s.setStream n { s.stream n with
          cell := some (formCell (s.prog n).code (runCell nt run.sent).1 (runCell nt run.sent).2)
          run := none }).setSlot run.slot
        (some (nt.withRecord n (some (r.complete (s.classOf nt.urgency) run.head))))).testHeld run.slot n
          (r.complete (s.classOf nt.urgency) run.head)) := by
  have hclass : ∀ x, (s.setStream n x).classOf nt.urgency = s.classOf nt.urgency := fun _ => rfl
  simp [State.sendRunCell, State.completeRun, hn, hr, Nat.not_lt.2 hlast, State.emit, State.setStream_setStream,
    hclass]

/-! ### The arbiter's choice -/

theorem removeRecord_slots (s : State) (n : Ch) (i : Nat) : s.removeRecord n i =
    { s with table := { s.table with slots := (s.removeRecord n i).table.slots } } := by
  unfold State.removeRecord
  split
  · rfl
  · dsimp only
    split <;> rfl

theorem sendWithdraw_more {left : Nat} (hm : r.mode = .withdrawal left) (hleft : 1 < left) :
    s.sendWithdraw n i nt r =
      (s.setStream n { s.stream n with
        cell := some (formCell (s.prog n).code .withdraw (withdrawPayload nt)) }).setSlot i
        (some (nt.withRecord n (some { r with mode := .withdrawal (left - 1), due := s.now + 40 }))) := by
  simp [State.sendWithdraw, hm, Nat.not_le.2 hleft, State.emit, Config.withdrawSpacing]

theorem sendWithdraw_last {left : Nat} (hm : r.mode = .withdrawal left) (hleft : left ≤ 1) :
    s.sendWithdraw n i nt r =
      (s.setStream n { s.stream n with
        cell := some (formCell (s.prog n).code .withdraw (withdrawPayload nt)) }).removeRecord n i := by
  simp [State.sendWithdraw, hm, hleft, State.emit]

theorem sendHead_eq (s : State) (n : Ch) (i : Nat) (nt : Notice) :
    s.sendHead n i nt = s.setStream n { s.stream n with
      cell := some (formCell (s.prog n).code .head (headPayload nt))
      run := some ⟨nt.number, i, 1, s.now⟩ } := by
  simp [State.sendHead, State.emit, State.setStream_setStream]

/-- The content of one slot, as `airedOn` lists it. -/
theorem airedOn_congr (h : ∀ j, t.notice j = s.notice j ∨
    (∀ nt, s.notice j = some nt → nt.airsOn n = false) ∧ ∀ nt, t.notice j = some nt → nt.airsOn n = false) :
    t.airedOn n = s.airedOn n := by
  have hdrops : ∀ (x : Option Notice) (j : Nat), (∀ nt, x = some nt → nt.airsOn n = false) →
      (x.bind fun nt => (nt.record n).bind fun r =>
        if r.mode = .airing then some (j, nt, r) else none) = none := by
    intro x j hx
    cases hnt : x with
    | none => rfl
    | some nt =>
      have hair := hx nt hnt
      rw [Notice.airsOn_eq] at hair
      cases hr : nt.record n with
      | none => simp [hr]
      | some r =>
        have hmode : ¬ r.mode = .airing := by
          rw [hr, Option.any_some] at hair
          exact mt r.isAiring_iff.2 (by simp [hair])
        simp [hr, hmode]
  refine List.filterMap_congr fun j _ => ?_
  obtain hsame | ⟨hs, ht⟩ := h j
  · rw [hsame]
  · rw [hdrops _ j hs, hdrops _ j ht]

/-- A cell of a WITHDRAWAL record, whose slot then holds no AIRING record of the stream. -/
theorem sent_withdrawal {k : Kind} {v : BitVec 48} {left : Nat} (hn : s.notice i = some nt)
    (hr : nt.record n = some r) (hm : r.mode = .withdrawal left)
    (hstreams : t.streams = s.streams.set n { s.stream n with cell := some (formCell (s.prog n).code k v) })
    (hrest : t = { s with
      table := { s.table with slots := t.table.slots }
      streams := t.streams })
    (hother : ∀ j, j ≠ i → t.notice j = s.notice j)
    (hself : ∀ nt', t.notice i = some nt' → nt'.airsOn n = false) :
    s.Sent t n (s.stream n).nameCtr (s.stream n).longCtr where
  streams := ⟨k, v, (s.stream n).run, hstreams⟩
  rest := by
    have hannounce : t.announce = s.announce := (congrArg State.announce hrest).trans rfl
    have hports : t.ports = s.ports := (congrArg State.ports hrest).trans rfl
    rw [hannounce, hports]
    exact hrest
  ports _ := (congrArg State.ports hrest).trans rfl
  aired _ := airedOn_congr fun j => by
    by_cases hj : j = i
    · subst hj
      refine Or.inr ⟨fun nt' hnt' => ?_, hself⟩
      obtain rfl := Option.some.inj (hn.symm.trans hnt')
      simp [Notice.airsOn, hr, Record.isAiring, hm]
    · exact Or.inl (hother j hj)
  notice _ j hj := hother j fun e => hj nt r left (e ▸ hn) hr hm

theorem sent_sendWithdraw (hn : s.notice i = some nt) (hr : nt.record n = some r) (ha : r.isAiring = false) :
    s.Sent (s.sendWithdraw n i nt r) n (s.stream n).nameCtr (s.stream n).longCtr := by
  cases hm : r.mode with
  | airing => simp [Record.isAiring, hm] at ha
  | withdrawal left =>
    obtain hleft | hleft := Nat.lt_or_ge 1 left
    · rw [sendWithdraw_more hm hleft]
      refine sent_withdrawal hn hr hm rfl rfl (fun j hj => ?_) fun nt' hnt' => ?_
      · rw [State.notice_setSlot_ne _ _ _ _ hj, State.notice_setStream]
      · rw [State.notice_setSlot ((State.notice_setStream _ _ _ _).trans hn), if_pos rfl] at hnt'
        obtain rfl := Option.some.inj hnt'
        simp [Notice.airsOn_eq, Notice.record_withRecord, Record.isAiring]
    · rw [sendWithdraw_last hm hleft]
      have hslots := removeRecord_slots (s.setStream n { s.stream n with
        cell := some (formCell (s.prog n).code .withdraw (withdrawPayload nt)) }) n i
      refine sent_withdrawal hn hr hm ((congrArg State.streams hslots).trans rfl) ?_ (fun j hj => ?_)
        fun nt' hnt' => ?_
      · have hstreams := (congrArg State.streams hslots).trans rfl
        rw [hstreams]
        exact hslots
      · rw [State.notice_removeRecord, if_neg hj, State.notice_setStream]
      · rw [State.notice_removeRecord, if_pos rfl, State.notice_setStream, hn, Option.bind_some,
          Notice.without] at hnt'
        split at hnt'
        · exact nomatch hnt'
        · obtain rfl := Option.some.inj hnt'
          simp [Notice.airsOn_eq, Notice.record_withRecord]

/-- A cell of a stream with a run in progress. -/
theorem sent_ofRun {k : Kind} {v : BitVec 48} {run' : Option Run} (hrun : (s.stream n).run ≠ none)
    (hstreams : t.streams = s.streams.set n { s.stream n with
      cell := some (formCell (s.prog n).code k v), run := run' })
    (hrest : t = { s with
      table := { s.table with slots := t.table.slots }
      streams := t.streams, ports := t.ports }) : s.Sent t n (s.stream n).nameCtr (s.stream n).longCtr where
  streams := ⟨k, v, run', hstreams⟩
  rest := by
    have hannounce : t.announce = s.announce := (congrArg State.announce hrest).trans rfl
    rw [hannounce]
    exact hrest
  ports h := absurd h hrun
  aired h := absurd h hrun
  notice h := absurd h hrun

theorem sent_sendRunCell (hrun : (s.stream n).run ≠ none) :
    s.Sent (s.sendRunCell n run) n (s.stream n).nameCtr (s.stream n).longCtr := by
  cases hn : s.notice run.slot with
  | none =>
    rw [sendRunCell_lost hn]
    exact sent_ofRun hrun (k := .fill) (v := 0#48) (run' := (s.stream n).run) rfl rfl
  | some nt =>
    obtain hmore | hlast := Nat.lt_or_ge (run.sent + 1) nt.runLength
    · rw [sendRunCell_more hn hmore]
      exact sent_ofRun hrun rfl rfl
    · cases hr : nt.record n with
      | none =>
        rw [sendRunCell_unrecorded hn hlast hr]
        exact sent_ofRun hrun rfl rfl
      | some r =>
        rw [sendRunCell_last hn hlast hr, State.testHeld_eq]
        exact sent_ofRun hrun rfl rfl

theorem arbitrate_run (h : (s.stream n).run = some run) : s.arbitrate n = s.sendRunCell n run := by
  rw [State.arbitrate, h]

theorem arbitrate_withdrawal (hrun : (s.stream n).run = none) (h : s.nextWithdrawal n = some (i, nt, r)) :
    s.arbitrate n = s.sendWithdraw n i nt r := by
  rw [State.arbitrate, hrun, h]

theorem arbitrate_airing (hrun : (s.stream n).run = none) (hw : s.nextWithdrawal n = none)
    (h : s.nextAiring n = some (i, nt, r)) : s.arbitrate n = s.sendHead n i nt := by
  rw [State.arbitrate, hrun, hw, h]

theorem arbitrate_fill (hrun : (s.stream n).run = none) (hw : s.nextWithdrawal n = none)
    (h : s.nextAiring n = none) : s.arbitrate n = s.emit n .fill 0#48 := by
  rw [State.arbitrate, hrun, hw, h]

theorem sent_arbitrate (s : State) (n : Ch) :
    s.Sent (s.arbitrate n) n (s.stream n).nameCtr (s.stream n).longCtr := by
  cases hrun : (s.stream n).run with
  | some run =>
    rw [arbitrate_run hrun]
    exact sent_sendRunCell (by simp [hrun])
  | none =>
    cases hw : s.nextWithdrawal n with
    | some x =>
      obtain ⟨i, nt, r⟩ := x
      obtain ⟨-, hn, hr, ha⟩ := nextWithdrawal_mem hw
      rw [arbitrate_withdrawal hrun hw]
      exact sent_sendWithdraw hn hr ha
    | none =>
      cases ha : s.nextAiring n with
      | some x =>
        obtain ⟨i, nt, r⟩ := x
        rw [arbitrate_airing hrun hw ha, sendHead_eq]
        exact sent_setStream s n .head (headPayload nt) _ (s.stream n).nameCtr (s.stream n).longCtr
      | none =>
        rw [arbitrate_fill hrun hw ha]
        exact sent_setStream s n .fill 0#48 (s.stream n).run (s.stream n).nameCtr (s.stream n).longCtr

theorem arbitrate_announce (s : State) (n : Ch) : (s.arbitrate n).announce = s.announce := by
  obtain ⟨_, _, _, h⟩ := onlyNotices_arbitrate n s
  exact (congrArg State.announce h).trans rfl

/-! ### The duty cells -/

theorem sendName_eq (s : State) (n : Ch) :
    s.sendName n = s.setStream n { s.stream n with
      cell := some (formCell (s.prog n).code .name (namePayload (s.stream n).nameCtr (s.prog n).shortName))
      nameCtr := 1 - (s.stream n).nameCtr } := by
  simp [State.sendName, State.emit, State.setStream_setStream]

theorem sendLongName_eq (s : State) (n : Ch) (long : List Byte) :
    s.sendLongName n long = s.setStream n { s.stream n with
      cell := some (formCell (s.prog n).code .longName (longNamePayload (s.stream n).longCtr long))
      longCtr := if (s.stream n).longCtr + 1 < longSegments long then (s.stream n).longCtr + 1 else 0 } := by
  simp [State.sendLongName, State.emit, State.setStream_setStream]

theorem sendRefer_eq (s : State) (n y : Ch) :
    s.sendRefer n y =
      { s.emit n .refer (referPayload (s.prog y).code (s.ann y).flag (s.prog y).carries) with
        announce := s.announce.set n { s.ann n with
          closing := if (s.ann y).flag = false then (s.ann n).closing - 1 else (s.ann n).closing } } := by
  unfold State.sendRefer State.reportRefer
  cases (s.ann y).flag with
  | false => rfl
  | true =>
    have hsame : s.announce.set n { s.ann n with closing := (s.ann n).closing } = s.announce :=
      Four.set_get s.announce n
    simp only [if_true, if_neg (by decide : ¬ true = false), hsame]
    rfl

theorem sent_emit (s : State) (n : Ch) (k : Kind) (v : BitVec 48) :
    s.Sent (s.emit n k v) n (s.stream n).nameCtr (s.stream n).longCtr :=
  sent_setStream s n k v (s.stream n).run (s.stream n).nameCtr (s.stream n).longCtr

theorem sent_sendCell (s : State) (n : Ch) : ∃ name long, s.Sent (s.sendCell n) n name long := by
  unfold State.sendCell
  cases s.duty n with
  | status =>
    simp only [State.sendStatus]
    split
    · exact ⟨_, _, sent_emit _ _ _ _⟩
    · exact ⟨_, _, sent_emit _ _ _ _⟩
  | name =>
    simp only [sendName_eq]
    exact ⟨_, _, sent_setStream s n .name _ (s.stream n).run _ (s.stream n).longCtr⟩
  | longName =>
    cases (s.prog n).longName with
    | none => exact ⟨_, _, sent_arbitrate s n⟩
    | some long =>
      simp only [sendLongName_eq]
      exact ⟨_, _, sent_setStream s n .longName _ (s.stream n).run (s.stream n).nameCtr _⟩
  | refer =>
    cases (s.prog n).target with
    | none => exact ⟨_, _, sent_arbitrate s n⟩
    | some y =>
      dsimp only
      split
      · rw [sendRefer_eq]
        exact ⟨_, _, (sent_emit _ _ _ _).withAnnounce _⟩
      · exact ⟨_, _, sent_arbitrate s n⟩
  | openSlot => exact ⟨_, _, sent_arbitrate s n⟩

theorem closingAfter_other {d : Option Duty} (h : d ≠ some .refer) :
    s.announce.set n { s.ann n with closing := s.closingAfter n d } = s.announce := by
  have hsame : s.closingAfter n d = (s.ann n).closing := by
    unfold State.closingAfter
    cases (s.prog n).target <;> simp [h]
  rw [hsame]
  exact Four.set_get s.announce n

/-- The closing counter after the cell of a REFER duty (06 R132, R134). -/
theorem sendCell_refer_announce (h : s.duty n = .refer) :
    (s.sendCell n).announce =
      s.announce.set n { s.ann n with closing := s.closingAfter n (some .refer) } := by
  have hnone : s.closingAfter n (some .refer) = (s.ann n).closing →
      s.announce.set n { s.ann n with closing := s.closingAfter n (some .refer) } = s.announce := by
    intro hsame
    rw [hsame]
    exact Four.set_get s.announce n
  unfold State.sendCell
  rw [h]
  cases hy : (s.prog n).target with
  | none =>
    simp only [arbitrate_announce]
    exact (hnone (by simp [State.closingAfter, hy])).symm
  | some y =>
    dsimp only
    split
    · rw [sendRefer_eq]
      simp [State.closingAfter, hy]
    · next hactive =>
      simp only [State.referralActive_eq, hy, Option.any_some, Bool.or_eq_true, decide_eq_true_eq, not_or] at hactive
      have hzero : (s.ann n).closing = 0 := by omega
      rw [arbitrate_announce, hnone (by simp [State.closingAfter, hy, hzero])]

/-- The closing counter after the cell of a boundary (06 R134). -/
theorem sendCell_announce (s : State) (n : Ch) :
    (s.sendCell n).announce = s.announce.set n { s.ann n with
      closing := s.closingAfter n (s.stream n).plan[s.time.tickNumber]? } := by
  have hduty : s.duty n = ((s.stream n).plan[s.time.tickNumber]?).getD .openSlot :=
    List.getD_eq_getElem?_getD
  by_cases hrefer : (s.stream n).plan[s.time.tickNumber]? = some .refer
  · rw [hrefer] at hduty ⊢
    exact sendCell_refer_announce hduty
  · rw [closingAfter_other hrefer]
    unfold State.sendCell
    cases hd : s.duty n with
    | status =>
      simp only [State.sendStatus]
      split <;> rfl
    | name => simp [sendName_eq]
    | longName =>
      cases (s.prog n).longName with
      | none => exact arbitrate_announce s n
      | some long => simp [sendLongName_eq]
    | refer =>
      rw [hduty] at hd
      cases h : (s.stream n).plan[s.time.tickNumber]? with
      | none => rw [h] at hd; exact nomatch hd
      | some d =>
        rw [h] at hd hrefer
        exact absurd (congrArg some hd) hrefer
    | openSlot => exact arbitrate_announce s n

end Sys2Proof.Machine
end

section
/-! SUPPORT. A stream engine's whole work at a boundary (04 R96): what its first two steps leave, and what the
others make of that. -/

namespace Sys2Proof.Machine

variable {s t : State} {n : Ch}

/-! ### The stop and the start -/

/-- Slots and ports change at most. -/
def State.SlotsAndPorts (s t : State) : Prop :=
  t = { s with table := { s.table with slots := t.table.slots }, ports := t.ports }

theorem State.SlotsAndPorts.trans {u : State} (h : s.SlotsAndPorts t) (h' : t.SlotsAndPorts u) :
    s.SlotsAndPorts u := by
  unfold State.SlotsAndPorts at *
  rw [h', h]

theorem slotsAndPorts_discardRecord (n : Ch) (i : Nat) (s : State) : s.SlotsAndPorts (discardRecord n i s) := by
  unfold discardRecord
  split
  · exact rfl
  · split
    · exact rfl
    · rw [State.leaveRemaining_eq, removeRecord_slots]
      exact rfl

theorem slotsAndPorts_startRecord (n : Ch) (i : Nat) (s : State) : s.SlotsAndPorts (startRecord n i s) := by
  unfold startRecord
  split
  · exact rfl
  · split <;> exact rfl

theorem slotsAndPorts_forSlots {f : Nat → State → State} (h : ∀ i (s : State), s.SlotsAndPorts (f i s))
    (s : State) : s.SlotsAndPorts (forSlots f s) :=
  forSlots_keeps (P := s.SlotsAndPorts) (fun i _ u hu => hu.trans (h i u)) s rfl

/-- A stream that enters STOPPED (04 R94). -/
def Stream.stopped (x : Stream) : Stream := { x with state := .stopped, run := none }

/-- A stream that starts (04 R92). -/
def Stream.started (x : Stream) : Stream :=
  { x with startPending := false, nameCtr := 0, longCtr := 0, state := .running }

theorem enterStopped_rest (s : State) (n : Ch) :
    (s.setStream n (s.stream n).stopped).SlotsAndPorts (s.enterStopped n) :=
  slotsAndPorts_forSlots (slotsAndPorts_discardRecord n) _

theorem takeStart_rest (s : State) (n : Ch) :
    (s.setStream n (s.stream n).started).SlotsAndPorts (s.takeStart n) :=
  slotsAndPorts_forSlots (slotsAndPorts_startRecord n) _

theorem takeStart_ports (s : State) (n : Ch) : (s.takeStart n).ports = s.ports := by
  refine forSlots_keeps (P := fun t => t.ports = s.ports) (fun i _ u hu => ?_) _ rfl
  rw [← hu]
  unfold startRecord
  split
  · rfl
  · split <;> rfl

/-- What the first two steps of a stream's work leave as it was (04 R92, R94): of the stream its plans, its
level and flag and its cell. -/
structure State.Opened (s t : State) (n : Ch) (x : Stream) : Prop where
  stream : t.stream n = x
  plans : x.plan = (s.stream n).plan ∧ x.pendingPlan = (s.stream n).pendingPlan
  level : x.modLevel = (s.stream n).modLevel
  flag : x.overcommit = (s.stream n).overcommit
  rest : t = { s with
    table := { s.table with slots := t.table.slots }
    streams := s.streams.set n x
    ports := t.ports }

theorem State.Opened.refl (s : State) (n : Ch) : s.Opened s n (s.stream n) where
  stream := rfl
  plans := ⟨rfl, rfl⟩
  level := rfl
  flag := rfl
  rest := by
    have hstreams : s.streams.set n (s.stream n) = s.streams := Four.set_get s.streams n
    rw [hstreams]

/-- A write of the stream, and then of slots and ports. -/
theorem State.Opened.write {u : State} {x y : Stream} (h : s.Opened t n x)
    (hplans : y.plan = x.plan ∧ y.pendingPlan = x.pendingPlan) (hlevel : y.modLevel = x.modLevel)
    (hflag : y.overcommit = x.overcommit) (hu : (t.setStream n y).SlotsAndPorts u) : s.Opened u n y where
  stream := by
    have hstreams : u.streams = t.streams.set n y := (congrArg State.streams hu).trans rfl
    rw [State.stream, hstreams, Four.get_set_self]
  plans := ⟨hplans.1.trans h.plans.1, hplans.2.trans h.plans.2⟩
  level := hlevel.trans h.level
  flag := hflag.trans h.flag
  rest := by
    unfold State.SlotsAndPorts at hu
    rw [hu, h.rest]
    simp [State.setStream]

theorem State.Opened.stop {x : Stream} (h : s.Opened t n x) : s.Opened (t.enterStopped n) n x.stopped := by
  have hrest := enterStopped_rest t n
  rw [h.stream] at hrest
  exact h.write ⟨rfl, rfl⟩ rfl rfl hrest

theorem State.Opened.start {x : Stream} (h : s.Opened t n x) : s.Opened (t.takeStart n) n x.started := by
  have hrest := takeStart_rest t n
  rw [h.stream] at hrest
  exact h.write ⟨rfl, rfl⟩ rfl rfl hrest

theorem State.Opened.others {x : Stream} (h : s.Opened t n x) {m : Ch} (hm : m ≠ n) :
    t.stream m = s.stream m := by
  have hstreams : t.streams = s.streams.set n x := (congrArg State.streams h.rest).trans rfl
  rw [State.stream, hstreams, Four.get_set_ne _ _ _ _ hm, State.stream]

/-- A stream after the start step: started where a start is pending. -/
def Stream.restarted (x : Stream) : Stream :=
  if x.startPending = true ∧ x.state = .stopped then x.started else x

/-- A stream after the first two steps: stopped where it was STOPPING, started where a start is pending. -/
def Stream.opened (x : Stream) : Stream :=
  Stream.restarted (if x.state = .stopping then x.stopped else x)

theorem State.Opened.startStep {x : Stream} (h : s.Opened t n x) :
    s.Opened (startStep n t) n x.restarted := by
  unfold Machine.startStep Stream.restarted
  rw [h.stream]
  split
  · exact h.start
  · exact h

theorem opened_of_steps (s : State) (n : Ch) :
    s.Opened (startStep n (stopStep n s)) n (s.stream n).opened := by
  refine State.Opened.startStep ?_
  unfold stopStep
  split
  · exact (State.Opened.refl s n).stop
  · exact .refl s n

/-! ### The plan, the level and the cell -/

/-- Stream `n` as it stands when its cell is chosen, from what the first two steps leave (04 R96). -/
def State.readied (s : State) (n : Ch) : Stream :=
  (s.stream n).prepared s.time.tickNumber (s.overAfter n) (s.lineFound n)

/-- What the last three steps of a stream's work make of the state that the first two leave. -/
structure State.Finished (s t : State) (n : Ch) : Prop where
  stream : ∃ cell run name long, t.stream n =
    { s.readied n with cell := cell, run := run, nameCtr := name, longCtr := long }
  silent : (s.readied n).state ≠ .running → t.stream n = { s.readied n with cell := none }
  sends : (s.readied n).state = .running → ∃ k v, (t.stream n).cell = some (formCell (s.prog n).code k v)
  others : ∀ m, m ≠ n → t.stream m = s.stream m
  rest : t = { s with
    table := { s.table with slots := t.table.slots }
    streams := t.streams, announce := t.announce, ports := t.ports, attention := t.attention }
  announce : t.announce = s.announce.set n { s.ann n with
    closing := if (s.readied n).state = .running then
        s.closingAfter n ((s.stream n).planAt s.time.tickNumber)[s.time.tickNumber]?
      else (s.ann n).closing }
  attention : t.attention = s.attention.withStream n (s.overAfter n && !(s.stream n).overcommit)
    (s.lineFound n != (s.stream n).modLevel)
  ports : (s.readied n).run = none → t.ports = s.ports
  load : (s.readied n).run = none →
    t.load n = (s.setStream n { s.stream n with plan := (s.stream n).planAt s.time.tickNumber }).load n
  notice : (s.readied n).run = none → ∀ i, s.KeptOn n i → t.notice i = s.notice i

/-- The state in which a stream chooses its cell. -/
def State.ready (s : State) (n : Ch) : State :=
  { s.setStream n (s.readied n) with
    attention := s.attention.withStream n (s.overAfter n && !(s.stream n).overcommit)
      (s.lineFound n != (s.stream n).modLevel) }

theorem stream_ready (s : State) (n : Ch) : (s.ready n).stream n = s.readied n :=
  State.stream_setStream_self s n _

theorem ready_load (s : State) (n : Ch) : (s.ready n).load n =
    (s.setStream n { s.stream n with plan := (s.stream n).planAt s.time.tickNumber }).load n :=
  State.load_congr rfl (by rw [stream_ready, State.stream_setStream_self]; rfl)

theorem finished_silent (h : (s.readied n).state ≠ .running) :
    s.Finished ((s.ready n).setStream n { s.readied n with cell := none }) n where
  stream := ⟨none, (s.readied n).run, (s.readied n).nameCtr, (s.readied n).longCtr,
    State.stream_setStream_self _ _ _⟩
  silent _ := State.stream_setStream_self _ _ _
  sends hr := absurd hr h
  others m hm := (State.stream_setStream_ne _ _ _ _ hm).trans (State.stream_setStream_ne s _ _ _ hm)
  rest := rfl
  announce := by
    rw [if_neg h]
    exact (Four.set_get s.announce n).symm
  attention := rfl
  ports _ := rfl
  load _ := State.load_congr rfl (by rw [State.stream_setStream_self, State.stream_setStream_self]; rfl)
  notice _ _ _ := rfl

theorem finished_sends (h : (s.readied n).state = .running) : s.Finished ((s.ready n).sendCell n) n := by
  obtain ⟨u, hu⟩ : ∃ u, u = (s.ready n).sendCell n := ⟨_, rfl⟩
  obtain ⟨name, long, hsent⟩ := sent_sendCell (s.ready n) n
  have hannounce := sendCell_announce (s.ready n) n
  rw [stream_ready] at hannounce
  rw [← hu] at hsent hannounce ⊢
  obtain ⟨k, v, hstream⟩ := hsent.stream
  rw [stream_ready] at hstream
  have hrest := hsent.rest
  exact {
    stream := ⟨_, _, _, _, hstream⟩
    silent := fun hs => absurd h hs
    sends := fun _ => ⟨k, v, congrArg Stream.cell hstream⟩
    others := fun m hm => (hsent.others hm).trans (State.stream_setStream_ne s _ _ _ hm)
    rest := by
      have hattention : u.attention = (s.ready n).attention := (congrArg State.attention hrest).trans rfl
      rw [hattention]
      exact hrest
    announce := by
      rw [if_pos h]
      exact hannounce
    attention := (congrArg State.attention hrest).trans rfl
    ports := fun hr => hsent.ports (by rw [stream_ready]; exact hr)
    load := fun hr => (hsent.load (by rw [stream_ready]; exact hr)).trans (ready_load s n)
    notice := fun hr => hsent.notice (by rw [stream_ready]; exact hr) }

theorem streamWork_ready (n : Ch) (s : State) :
    streamWork n s = cellStep n ((startStep n (stopStep n s)).ready n) := by
  rw [streamWork, prepared_eq]
  rfl

theorem finished_of_work (n : Ch) (s : State) :
    (startStep n (stopStep n s)).Finished (streamWork n s) n := by
  rw [streamWork_ready]
  obtain ⟨u, hu⟩ : ∃ u, u = startStep n (stopStep n s) := ⟨_, rfl⟩
  rw [← hu]
  unfold cellStep
  rw [stream_ready]
  split
  · next h => exact finished_sends h
  · next h => exact finished_silent h

/-! ### What the settled fields of the stream are -/

theorem State.Finished.plan (h : s.Finished t n) :
    (t.stream n).plan = (s.stream n).planAt s.time.tickNumber ∧
      (t.stream n).pendingPlan = (s.stream n).pendingAt s.time.tickNumber := by
  obtain ⟨_, _, _, _, hstream⟩ := h.stream
  exact ⟨congrArg Stream.plan hstream, congrArg Stream.pendingPlan hstream⟩

theorem State.Finished.level (h : s.Finished t n) : (t.stream n).modLevel = s.lineFound n := by
  obtain ⟨_, _, _, _, hstream⟩ := h.stream
  exact congrArg Stream.modLevel hstream

theorem State.Finished.flag (h : s.Finished t n) : (t.stream n).overcommit = s.overAfter n := by
  obtain ⟨_, _, _, _, hstream⟩ := h.stream
  exact congrArg Stream.overcommit hstream

theorem State.Finished.state (h : s.Finished t n) :
    (t.stream n).state = (s.stream n).state.onLevel (s.lineFound n) := by
  obtain ⟨_, _, _, _, hstream⟩ := h.stream
  exact congrArg Stream.state hstream

theorem State.Finished.startPending (h : s.Finished t n) :
    (t.stream n).startPending = (s.stream n).startPending := by
  obtain ⟨_, _, _, _, hstream⟩ := h.stream
  exact (congrArg Stream.startPending hstream).trans rfl

/-- The overcommit flag by the load figure that the work leaves. -/
theorem State.Finished.flag_load (h : s.Finished t n) (hrun : (s.stream n).run = none) :
    (t.stream n).overcommit =
      overcommitAt s.time.tickNumber (t.load n) (s.stream n).overcommit := by
  have hready : (s.readied n).run = none := by
    simp [State.readied, Stream.prepared, Stream.onLevel, hrun]
  rw [h.flag, h.load hready]
  rfl

end Sys2Proof.Machine
end

section
/-! SUPPORT. A stream engine's whole work, read from the state before it, and START_TAKEN (04 R92, R96). -/

namespace Sys2Proof.Machine

variable {s t u : State} {n : Ch} {x : Stream}

/-! ### A stream opened and then finished -/

/-- What the first two steps leave reads as the state before them. -/
structure State.SameSite (s u : State) (n : Ch) : Prop where
  prog : u.prog n = s.prog n
  time : u.time = s.time
  announce : u.announce = s.announce
  ann : u.ann n = s.ann n
  line : u.lineFound n = s.mrdyPins.getLsbD n.val
  attention : u.attention = s.attention
  closing : ∀ d, u.closingAfter n d = s.closingAfter n d

theorem State.Opened.sameSite (h : s.Opened u n x) : s.SameSite u n where
  prog := (congrArg (State.prog · n) h.rest).trans rfl
  time := (congrArg State.time h.rest).trans rfl
  announce := (congrArg State.announce h.rest).trans rfl
  ann := (congrArg (State.ann · n) h.rest).trans rfl
  line := (congrArg (State.lineFound · n) h.rest).trans rfl
  attention := (congrArg State.attention h.rest).trans rfl
  closing _ := (congrArg (State.closingAfter · n _) h.rest).trans rfl

/-- A stream's whole work, from the state before it (04 R96): `x` is the stream after the first two steps. -/
structure State.Worked (s t : State) (n : Ch) (x : Stream) : Prop where
  plan : (t.stream n).plan = (s.stream n).planAt s.time.tickNumber ∧
    (t.stream n).pendingPlan = (s.stream n).pendingAt s.time.tickNumber
  level : (t.stream n).modLevel = s.mrdyPins.getLsbD n.val
  state : (t.stream n).state = x.state.onLevel (s.mrdyPins.getLsbD n.val)
  startPending : (t.stream n).startPending = x.startPending
  flag : x.run = none → (t.stream n).overcommit =
    overcommitAt s.time.tickNumber (t.load n) (s.stream n).overcommit
  silent : x.state.onLevel (s.mrdyPins.getLsbD n.val) ≠ .running → t.stream n =
    { x.prepared s.time.tickNumber (t.stream n).overcommit (s.mrdyPins.getLsbD n.val) with cell := none }
  sends : x.state.onLevel (s.mrdyPins.getLsbD n.val) = .running →
    ∃ k v, (t.stream n).cell = some (formCell (s.prog n).code k v)
  others : ∀ m, m ≠ n → t.stream m = s.stream m
  rest : t = { s with
    table := { s.table with slots := t.table.slots }
    streams := t.streams, announce := t.announce, ports := t.ports, attention := t.attention }
  announce : t.announce = s.announce.set n { s.ann n with
    closing := if (t.stream n).state = .running then
        s.closingAfter n ((s.stream n).planAt s.time.tickNumber)[s.time.tickNumber]?
      else (s.ann n).closing }
  attention : t.attention = s.attention.withStream n ((t.stream n).overcommit && !(s.stream n).overcommit)
    (s.mrdyPins.getLsbD n.val != (s.stream n).modLevel)

theorem State.Opened.worked (hopen : s.Opened u n x) (h : u.Finished t n) : s.Worked t n x := by
  have hsame := hopen.sameSite
  have htime := hsame.time
  have hplanAt : ∀ k, (u.stream n).planAt k = (s.stream n).planAt k := fun k => by
    rw [hopen.stream, Stream.planAt, hopen.plans.1, hopen.plans.2, Stream.planAt]
  have hpendingAt : ∀ k, (u.stream n).pendingAt k = (s.stream n).pendingAt k := fun k => by
    rw [hopen.stream, Stream.pendingAt, hopen.plans.2, Stream.pendingAt]
  have hstate := h.state
  rw [hsame.line, hopen.stream] at hstate
  have hready : (u.readied n).state = x.state.onLevel (s.mrdyPins.getLsbD n.val) := by
    rw [← hsame.line, ← hopen.stream]
    rfl
  exact {
    plan := by
      have hplan := h.plan
      rwa [hplanAt, hpendingAt, htime] at hplan
    level := h.level.trans hsame.line
    state := hstate
    startPending := by rw [h.startPending, hopen.stream]
    flag := fun hrun => by rw [h.flag_load (by rw [hopen.stream, hrun]), htime, hopen.stream, hopen.flag]
    silent := fun hs => by
      have hstream := h.silent (by rw [hready]; exact hs)
      rw [h.flag]
      exact hstream.trans (by rw [State.readied, hopen.stream, hsame.line, htime])
    sends := fun hs => by
      rw [← hsame.prog]
      exact h.sends (by rw [hready]; exact hs)
    others := fun m hm => (h.others m hm).trans (hopen.others hm)
    rest := h.rest.trans ((congrArg (fun v : State => { v with
      table := { v.table with slots := t.table.slots }
      streams := t.streams, announce := t.announce, ports := t.ports, attention := t.attention })
      hopen.rest).trans rfl)
    announce := by
      rw [h.announce, hready, ← hstate, hsame.closing, hsame.announce, hsame.ann, htime, hplanAt]
    attention := by
      rw [h.attention, ← h.flag, hsame.attention, hsame.line, hopen.stream, hopen.flag, hopen.level] }

/-- The whole work of stream `n` at a boundary. -/
theorem worked_of_work (n : Ch) (s : State) : s.Worked (streamWork n s) n (s.stream n).opened :=
  (opened_of_steps s n).worked (finished_of_work n s)

theorem readied_run (h : (s.stream n).run = none) : (s.readied n).run = none := by
  simp [State.readied, Stream.prepared, Stream.onLevel, h]

theorem onLevel_running (level : Bool) :
    StreamState.running.onLevel level = if level then .running else .paused := rfl

/-- The stream that a pending start leaves PAUSED on a line found low. -/
theorem prepared_started (x : Stream) (tick : Nat) (flag : Bool) :
    (x.started.prepared tick flag false).nameCtr = 0 ∧ (x.started.prepared tick flag false).longCtr = 0 ∧
      (x.started.prepared tick flag false).run = none := ⟨rfl, rfl, rfl⟩

/-- What a pending start makes of a stream, whether it was stopped before or has been just now (04 R92, R95). -/
theorem State.Worked.started {y : Stream} (h : s.Worked t n y.started) :
    let level := s.mrdyPins.getLsbD n.val
    (t.stream n).startPending = false ∧
      (t.stream n).state = (if level then .running else .paused) ∧
      (t.stream n).plan = (s.stream n).planAt s.time.tickNumber ∧
      (t.stream n).pendingPlan = (s.stream n).pendingAt s.time.tickNumber ∧
      (t.stream n).modLevel = level ∧
      (level = false → (t.stream n).nameCtr = 0 ∧ (t.stream n).longCtr = 0 ∧ (t.stream n).run = none ∧
        (t.stream n).cell = none) ∧
      (level = true → ∃ k v, (t.stream n).cell = some (formCell (s.prog n).code k v)) := by
  intro level
  refine ⟨h.startPending, h.state, h.plan.1, h.plan.2, h.level, fun hlow => ?_, fun hhigh => ?_⟩
  · have hlevel : s.mrdyPins.getLsbD n.val = false := hlow
    have hstream := h.silent (by rw [hlevel]; exact (by decide : StreamState.running.onLevel false ≠ .running))
    rw [hlevel] at hstream
    exact ⟨congrArg Stream.nameCtr hstream, congrArg Stream.longCtr hstream, congrArg Stream.run hstream,
      congrArg Stream.cell hstream⟩
  · have hlevel : s.mrdyPins.getLsbD n.val = true := hhigh
    exact h.sends (by rw [hlevel]; rfl)

/-- The closing counter of a stream that a start leaves RUNNING or PAUSED. -/
theorem onLevel_running_iff (level : Bool) :
    (if level then StreamState.running else .paused) = .running ↔ level = true := by
  cases level <;> decide

/-! ### START_TAKEN -/

theorem started_of_carried {nt : Notice} (hl : nt.state = .live) (hc : (s.prog n).carries = true)
    (ha : (s.prog n).coverage &&& nt.areas ≠ 0#16) :
    s.started n nt = nt.withRecord n (some ⟨.airing, s.time.tickCount, 0, 0, none⟩) := by
  rw [State.started, if_pos ⟨hl, hc, ha⟩]
  rfl

theorem started_of_uncarried {nt : Notice} (h : nt.state ≠ .live ∨ (s.prog n).carries = false ∨
    (s.prog n).coverage &&& nt.areas = 0#16) : s.started n nt = nt := by
  rw [State.started, if_neg]
  rintro ⟨hl, hc, ha⟩
  rcases h with h | h | h
  · exact h hl
  · rw [hc] at h
    cases h
  · exact ha h

/-- A notice that the stream then airs, or holds no record of, is kept by its cell. -/
theorem keptOn_of {i : Nat} {nt : Notice} (h : s.notice i = some nt)
    (hr : nt.record n = none ∨ ∃ r, nt.record n = some r ∧ r.mode = .airing) : s.KeptOn n i := by
  intro nt' r left hnt' hr' hm
  obtain rfl := Option.some.inj (h.symm.trans hnt')
  rcases hr with hr | ⟨r', hr, hm'⟩
  · rw [hr] at hr'
    cases hr'
  · obtain rfl := Option.some.inj (hr.symm.trans hr')
    rw [hm'] at hm
    cases hm

/-- Settles O11: the stream's work is the start, then the plan, the level and the cell, each by its equation. -/
theorem aPendingStartIsTaken : Obligations.APendingStartIsTaken := by
  intro n s hp hdue hpend hst hrun
  have hrow : s.startDueOn n = true := by
    simp [State.startDueOn, State.outstanding_iff, hdue, hpend, hst]
  have hopened : (s.stream n).opened = (s.stream n).started := by
    simp [Stream.opened, Stream.restarted, hst, hpend]
  have hsteps : startStep n (stopStep n s) = s.takeStart n := by
    simp [startStep, stopStep, hst, hpend]
  have hopen := opened_of_steps s n
  have hfinish := finished_of_work n s
  have hwork := worked_of_work n s
  rw [hopened] at hopen hwork
  rw [hsteps] at hopen hfinish
  refine ⟨_, running_takeWhen_due hp (.stream n) hrow, ?_⟩
  obtain ⟨t, ht⟩ : ∃ t, t = streamWork n s := ⟨_, rfl⟩
  rw [← ht] at hfinish hwork
  rw [State.take, ← ht]
  have hnone : ((s.takeStart n).readied n).run = none := readied_run (by rw [hopen.stream]; exact hrun)
  have hnotice : ∀ i < 96, ∀ nt, s.notice i = some nt →
      ((s.started n nt).record n = none ∨ ∃ r, (s.started n nt).record n = some r ∧ r.mode = .airing) →
      t.notice i = some (s.started n nt) := by
    intro i hi nt hnt hr
    have hstarted : (s.takeStart n).notice i = some (s.started n nt) := by
      rw [State.notice_takeStart, if_pos hi, hnt, Option.map_some]
    exact (hfinish.notice hnone i (keptOn_of hstarted hr)).trans hstarted
  obtain ⟨hpending, hstate, hplan, hpendingPlan, hlevel, hlow, hhigh⟩ := hwork.started
  refine ⟨hpending, hstate, hplan, hpendingPlan, hlevel, hwork.flag hrun, hlow, hhigh, ?carried, ?uncarried,
    hwork.others, (congrArg State.table hwork.rest).trans rfl, (congrArg State.map hwork.rest).trans rfl,
    (congrArg State.store hwork.rest).trans rfl, ?announce, (congrArg State.time hwork.rest).trans rfl,
    (congrArg State.monitor hwork.rest).trans rfl, ?ports, hwork.attention⟩
  case carried =>
    intro i hi nt hnt hl hc ha
    have hfresh := hnotice i hi nt hnt
    rw [started_of_carried hl hc ha] at hfresh
    exact hfresh (Or.inr ⟨_, by rw [Notice.record_withRecord, if_pos rfl], rfl⟩)
  case uncarried =>
    intro i hi nt hnt hr hnot
    have hkept := hnotice i hi nt hnt
    rw [started_of_uncarried hnot] at hkept
    exact hkept (Or.inl hr)
  case announce =>
    have hannounce := hwork.announce
    simp only [hstate, onLevel_running_iff] at hannounce
    exact hannounce
  case ports => exact (hfinish.ports hnone).trans (takeStart_ports s n)

end Sys2Proof.Machine
end

section
/-! SUPPORT. ENTER_STOPPED (04 R94). -/

namespace Sys2Proof.Machine

variable {s t u : State} {n : Ch}

/-! ### The holds that a stopped stream leaves -/

theorem PortState.heldWithout_congr {x : PortState} {g k : Nat → FourSet}
    (h : ∀ y, x.held = some y → g y.slot = k y.slot) : x.heldWithout g = x.heldWithout k := by
  unfold PortState.heldWithout
  cases hx : x.held with
  | none => rfl
  | some y => simp only [h y hx]

/-- The streams that discard their record of slot `i`, of stream `n` alone. -/
def State.discards (s : State) (n : Ch) (i : Nat) : FourSet :=
  if (s.notice i).any fun nt => (nt.record n).isSome then chBit n else 0#4

theorem port_discardRecord (n : Ch) (i : Nat) (s : State) (q : Port) :
    (discardRecord n i s).port q =
      (s.port q).heldWithout fun j => if j = i then s.discards n i else 0#4 := by
  have hkept : s.discards n i = 0#4 → s.port q =
      (s.port q).heldWithout fun j => if j = i then s.discards n i else 0#4 := by
    intro h
    simp only [h, ite_self]
    exact (PortState.heldWithout_none _).symm
  unfold discardRecord
  split
  · next h => exact hkept (by simp [State.discards, h])
  · next nt h =>
    split
    · next hr => exact hkept (by simp [State.discards, h, hr])
    · next r hr =>
      have hset : s.discards n i = chBit n := by simp [State.discards, h, hr]
      rw [State.port_leaveRemaining, PortState.heldLeft_eq, hset, removeRecord_slots]
      rfl

theorem port_enterStopped (s : State) (n : Ch) (q : Port) :
    (s.enterStopped n).port q =
      (s.port q).heldWithout fun j => if j < 96 then s.discards n j else 0#4 := by
  have key : ∀ (l : List Nat), l.Nodup → ∀ s : State,
      (l.foldl (fun t i => discardRecord n i t) s).port q =
        (s.port q).heldWithout fun j => if j ∈ l then s.discards n j else 0#4 := by
    intro l
    induction l with
    | nil => exact fun _ s => (PortState.heldWithout_none _).symm
    | cons i l ih =>
      intro hl s
      obtain ⟨hi, hl⟩ := List.nodup_cons.1 hl
      rw [List.foldl_cons, ih hl, port_discardRecord, PortState.heldWithout_heldWithout]
      congr 1
      funext j
      by_cases e : j = i
      · subst e
        simp [hi]
      · have hsame : (discardRecord n i s).discards n j = s.discards n j := by
          rw [State.discards, State.notice_discardRecord, if_neg e, State.discards]
        simp [e, hsame]
  have h := key slotNumbers List.nodup_range (s.setStream n { s.stream n with state := .stopped, run := none })
  simp only [slotNumbers, List.mem_range] at h
  exact h

/-- A submit held on a notice of which the stream has a record loses the stream (01 R30). -/
theorem heldWithout_discards {x : PortState} {h : Held} (hx : x.held = some h)
    (hm : chMem h.remaining n = true) {g : Nat → FourSet} (hg : g h.slot = chBit n) :
    x.heldWithout g = x.heldLess h n false := by
  have hleft : x.heldWithout g = x.heldLeft h.slot n := by
    rw [PortState.heldLeft_eq]
    refine PortState.heldWithout_congr fun y hy => ?_
    obtain rfl := Option.some.inj (hx.symm.trans hy)
    rw [if_pos rfl, hg]
  rw [hleft, PortState.heldLeft, hx]
  exact if_pos ⟨rfl, hm⟩

/-- A submit held that does not wait for the stream, or on no notice of which it has a record, is kept. -/
theorem heldWithout_discards_none {x : PortState} {g : Nat → FourSet}
    (hg : ∀ h, x.held = some h → g h.slot = 0#4 ∨ g h.slot = chBit n ∧ chMem h.remaining n = false) :
    x.heldWithout g = x := by
  cases hx : x.held with
  | none => rw [PortState.heldWithout, hx]
  | some h =>
    rcases hg h hx with hzero | ⟨hbit, hm⟩
    · refine (PortState.heldWithout_congr fun y hy => ?_).trans x.heldWithout_none
      obtain rfl := Option.some.inj (hx.symm.trans hy)
      exact hzero
    · have hleft : x.heldWithout g = x.heldLeft h.slot n := by
        rw [PortState.heldLeft_eq]
        refine PortState.heldWithout_congr fun y hy => ?_
        obtain rfl := Option.some.inj (hx.symm.trans hy)
        rw [if_pos rfl, hbit]
      rw [hleft, PortState.heldLeft, hx]
      exact if_neg (by simp [hm])

/-! ### The notices of a stopped stream -/

theorem Notice.record_discarded {nt nt' : Notice} (h : nt.discarded n = some nt') : nt'.record n = none := by
  unfold Notice.discarded Notice.without at h
  split at h
  · next hr => rwa [← Option.some.inj h]
  · split at h
    · exact nomatch h
    · rw [← Option.some.inj h, Notice.record_withRecord, if_pos rfl]

/-- A discarded record changes nothing of which the start's choice reads. -/
theorem started_withRecord (s : State) (n : Ch) (nt : Notice) (r : Option Record) :
    s.started n (nt.withRecord n r) =
      if nt.state = .live ∧ (s.prog n).carries = true ∧ (s.prog n).coverage &&& nt.areas ≠ 0#16 then
        nt.withRecord n (some ⟨.airing, s.time.tickCount, 0, 0, none⟩)
      else nt.withRecord n r := by
  have htwice : ∀ r', (nt.withRecord n r).withRecord n r' = nt.withRecord n r' := fun r' => by
    simp only [Notice.withRecord, Four.set_set]
  rw [State.started, htwice]
  rfl

/-- A notice of which the stream has discarded its record and which it carries at its start again. -/
theorem discarded_started (s : State) (n : Ch) (nt : Notice) :
    (nt.discarded n).map (s.started n) =
      if nt.state = .live ∧ (s.prog n).carries = true ∧ (s.prog n).coverage &&& nt.areas ≠ 0#16 then
        some (nt.withRecord n (some ⟨.airing, s.time.tickCount, 0, 0, none⟩))
      else nt.discarded n := by
  by_cases hr : nt.record n = none
  · have hkept : nt.discarded n = some nt := if_pos hr
    rw [hkept, Option.map_some, State.started]
    split <;> rfl
  · have hwithout : nt.discarded n = nt.without n := if_neg hr
    rw [hwithout, Notice.without]
    by_cases hfree : nt.withdrawStart ≠ none ∧ ∀ m, m ≠ n → nt.record m = none
    · have hnot : ¬ (nt.state = .live ∧ (s.prog n).carries = true ∧
          (s.prog n).coverage &&& nt.areas ≠ 0#16) := by
        rintro ⟨hl, -⟩
        exact hfree.1 (by rw [Notice.withdrawStart, hl])
      rw [if_pos hfree, if_neg hnot]
      rfl
    · rw [if_neg hfree, Option.map_some, started_withRecord]
      split <;> rfl

/-- A stream without an AIRING record has no load. -/
theorem load_of_unaired (h : ∀ i < 96, ∀ nt, t.notice i = some nt → nt.record n = none) : t.load n = 0 := by
  have hnone : t.airedOn n = [] := by
    rw [State.airedOn, List.filterMap_eq_nil_iff]
    intro i hi
    cases hnt : t.notice i with
    | none => rfl
    | some nt => simp [h i (List.mem_range.1 hi) nt hnt]
  simp [State.load, State.airingRecords_eq, hnone]

/-! ### The state before the plan -/

/-- The slots of the stream's notices once it has stopped, and started again if a start is pending. -/
def State.reopened (s : State) (n : Ch) (nt : Notice) : Option Notice :=
  if (s.stream n).startPending = true ∧ nt.state = .live ∧ (s.prog n).carries = true ∧
      (s.prog n).coverage &&& nt.areas ≠ 0#16 then
    some (nt.withRecord n (some ⟨.airing, s.time.tickCount, 0, 0, none⟩))
  else nt.discarded n

theorem stopping_steps (hst : (s.stream n).state = .stopping) :
    startStep n (stopStep n s) =
      if (s.stream n).startPending = true then (s.enterStopped n).takeStart n else s.enterStopped n := by
  have hstream := ((State.Opened.refl s n).stop).stream
  rw [stopStep, if_pos hst, startStep, hstream]
  simp [Stream.stopped]

theorem stopping_opened (hst : (s.stream n).state = .stopping) :
    (s.stream n).opened =
      if (s.stream n).startPending = true then (s.stream n).stopped.started else (s.stream n).stopped := by
  rw [Stream.opened, if_pos hst, Stream.restarted]
  simp [Stream.stopped]

theorem notice_stopping (hst : (s.stream n).state = .stopping) {i : Nat} (hi : i < 96) :
    (startStep n (stopStep n s)).notice i = (s.notice i).bind (s.reopened n) := by
  have hstopped : (s.enterStopped n).notice i = (s.notice i).bind fun nt => nt.discarded n := by
    rw [State.notice_enterStopped, if_pos hi]
  rw [stopping_steps hst]
  by_cases hpend : (s.stream n).startPending = true
  · have hsame := ((State.Opened.refl s n).stop).sameSite
    have hstarted : (s.enterStopped n).started n = s.started n := by
      funext nt
      simp only [State.started, State.now, hsame.prog, hsame.time]
    rw [if_pos hpend, State.notice_takeStart, if_pos hi, hstopped, hstarted]
    cases s.notice i with
    | none => rfl
    | some nt => simp [discarded_started, State.reopened, hpend]
  · rw [if_neg hpend, hstopped]
    cases s.notice i with
    | none => rfl
    | some nt => simp [State.reopened, hpend]

theorem port_stopping (hst : (s.stream n).state = .stopping) (q : Port) :
    (startStep n (stopStep n s)).port q =
      (s.port q).heldWithout fun j => if j < 96 then s.discards n j else 0#4 := by
  rw [stopping_steps hst, ← port_enterStopped]
  split
  · rw [State.port, takeStart_ports, State.port]
  · rfl

/-- The notices of a stream that has stopped: none has a record of it but a fresh one. -/
theorem Notice.record_reopened {nt nt' : Notice} (h : s.reopened n nt = some nt') :
    nt'.record n = none ∨ ∃ r, nt'.record n = some r ∧ r.mode = .airing := by
  unfold State.reopened at h
  split at h
  · refine .inr ⟨⟨.airing, s.time.tickCount, 0, 0, none⟩, ?_, rfl⟩
    rw [← Option.some.inj h, Notice.record_withRecord, if_pos rfl]
  · exact .inl (Notice.record_discarded h)

/-- Settles O12: the stop discards the stream's records and its holds, and a pending start, the plan, the level and
the cell follow, each by its equation. -/
theorem aStoppingStreamEntersStopped : Obligations.AStoppingStreamEntersStopped := by
  intro n s hp hdue hst
  have hrow : s.stopDueOn n = true := by simp [State.stopDueOn, State.outstanding_iff, hdue, hst]
  have hopened := stopping_opened hst
  have hopen := opened_of_steps s n
  have hfinish := finished_of_work n s
  have hwork := worked_of_work n s
  refine ⟨_, running_takeWhen_due hp (.stream n) hrow, ?_⟩
  obtain ⟨t, ht⟩ : ∃ t, t = streamWork n s := ⟨_, rfl⟩
  rw [← ht] at hfinish hwork
  rw [State.take, ← ht]
  have hrun : (s.stream n).opened.run = none := by
    rw [hopened]
    split <;> rfl
  have hnone : ((startStep n (stopStep n s)).readied n).run = none :=
    readied_run (by rw [hopen.stream]; exact hrun)
  have hnotice : ∀ i < 96, t.notice i = (s.notice i).bind (s.reopened n) := by
    intro i hi
    rw [← notice_stopping hst hi]
    refine hfinish.notice hnone i fun nt r left hnt hr => ?_
    have hre := hnt
    rw [notice_stopping hst hi] at hre
    obtain ⟨nt', -, hre⟩ := Option.bind_eq_some_iff.1 hre
    exact keptOn_of hnt (Notice.record_reopened hre) nt r left hnt hr
  have hport : ∀ q, t.port q = (s.port q).heldWithout fun j => if j < 96 then s.discards n j else 0#4 :=
    fun q => (congrArg (Ports.get · q) (hfinish.ports hnone)).trans (port_stopping hst q)
  refine ⟨hwork.flag hrun, ?again, ?stays, ?notices, ?lost, ?kept, hwork.others,
    (congrArg State.table hwork.rest).trans rfl, (congrArg State.map hwork.rest).trans rfl,
    (congrArg State.store hwork.rest).trans rfl, hwork.announce, (congrArg State.time hwork.rest).trans rfl,
    (congrArg State.monitor hwork.rest).trans rfl, hwork.attention⟩
  case again =>
    intro hpend
    have hpending : (s.stream n).startPending = true := hpend
    rw [hopened, if_pos hpending] at hwork
    obtain ⟨hstart, hstate, hplan, hpendingPlan, hlevel, hlow, -⟩ := hwork.started
    exact ⟨hstart, hstate, hplan, hpendingPlan, hlevel, hlow⟩
  case stays =>
    intro hpend
    have hpending : ¬ (s.stream n).startPending = true := hpend
    rw [hopened, if_neg hpending] at hwork
    have hload : t.load n = 0 := load_of_unaired fun i hi nt hnt => by
      rw [hnotice i hi] at hnt
      obtain ⟨nt', -, hre⟩ := Option.bind_eq_some_iff.1 hnt
      rw [State.reopened, if_neg (fun h => hpending h.1)] at hre
      exact Notice.record_discarded hre
    have hflag := hwork.flag rfl
    rw [hload] at hflag
    have hsilent := hwork.silent StreamState.noConfusion
    rw [hflag] at hsilent
    exact hsilent
  case notices =>
    intro i hi nt hnt
    refine (hnotice i hi).trans ?_
    rw [hnt]
    rfl
  case lost =>
    rintro p h hh hm hi ⟨nt, hnt, hr⟩
    refine (hport p).trans (heldWithout_discards hh hm ?_)
    rw [if_pos hi, State.discards, hnt]
    simp [Option.isSome_iff_ne_none.2 hr]
  case kept =>
    intro p hkept
    refine (hport p).trans (heldWithout_discards_none (n := n) fun h hh => ?_)
    by_cases hany : h.slot < 96 ∧ ((s.notice h.slot).any fun nt => (nt.record n).isSome) = true
    · obtain ⟨nt, hnt, hr⟩ := (Option.any_eq_true _ _).1 hany.2
      refine .inr ⟨(if_pos hany.1).trans (if_pos hany.2), Bool.eq_false_iff.2 fun hm => ?_⟩
      rw [hkept h nt hh hm hnt] at hr
      cases hr
    · left
      by_cases hi : h.slot < 96
      · exact (if_pos hi).trans (if_neg fun h => hany ⟨hi, h⟩)
      · exact if_neg hi

end Sys2Proof.Machine
end

section
/-! SUPPORT. PLAN_TAKES_EFFECT (04 R89) and RUN_COMPLETION (03 R61). -/

namespace Sys2Proof.Machine

variable {s t u : State} {n : Ch}

/-! ### PLAN_TAKES_EFFECT -/

/-- The streams whose first two steps do nothing. -/
theorem unresumed_steps (hstop : (s.stream n).state ≠ .stopping)
    (hstart : ¬ ((s.stream n).startPending = true ∧ (s.stream n).state = .stopped)) :
    startStep n (stopStep n s) = s ∧ (s.stream n).opened = s.stream n := by
  have hkept : stopStep n s = s := if_neg hstop
  rw [hkept, Stream.opened, if_neg hstop]
  exact ⟨if_neg hstart, if_neg hstart⟩

theorem Stream.restarted_run (x : Stream) : x.restarted.run = x.run := by
  unfold Stream.restarted
  split <;> rfl

theorem opened_run_none (h : (s.stream n).run = none) : (s.stream n).opened.run = none := by
  rw [Stream.opened, Stream.restarted_run]
  split
  · rfl
  · exact h

/-- Settles O13: the plan step, in every state that the stop and the start leave. -/
theorem aPendingPlanTakesEffect : Obligations.APendingPlanTakesEffect := by
  intro n plan s hp hdue htick hpending hsound
  have hrow : s.planDueOn n = true := by
    simp [State.planDueOn, State.outstanding_iff, hdue, htick, hpending]
  have hplanAt : (s.stream n).planAt 0 = plan := by simp [Stream.planAt, hpending]
  have hpendingAt : (s.stream n).pendingAt 0 = none := rfl
  have hfinish := finished_of_work n s
  have hwork := worked_of_work n s
  refine ⟨_, running_takeWhen_due hp (.stream n) hrow, ?_⟩
  obtain ⟨t, ht⟩ : ∃ t, t = streamWork n s := ⟨_, rfl⟩
  rw [← ht] at hfinish hwork
  rw [State.take, ← ht]
  have hplan := hwork.plan
  have hannounce := hwork.announce
  rw [htick, hplanAt] at hplan hannounce
  refine ⟨hplan.1, hplan.2, hwork.level, ?stays, ?resumes, ?state, hwork.others,
    (congrArg State.table hwork.rest).trans rfl, (congrArg State.map hwork.rest).trans rfl,
    (congrArg State.store hwork.rest).trans rfl, hannounce, (congrArg State.time hwork.rest).trans rfl,
    (congrArg State.monitor hwork.rest).trans rfl, hwork.attention⟩
  case stays =>
    intro hnot
    obtain ⟨hsteps, -⟩ := unresumed_steps (fun h => hnot (.inl h)) (fun h => hnot (.inr h))
    have hflag := hfinish.flag
    rw [hsteps, State.overAfter, htick, hplanAt] at hflag
    exact hflag
  case resumes =>
    intro hres
    have hrun : (s.stream n).run = none := by
      refine Decidable.not_not.1 fun hne => ?_
      have hrunning := hsound n hne
      rcases hres with h | ⟨-, h⟩ <;> rw [hrunning] at h <;> cases h
    have hflag := hwork.flag (opened_run_none hrun)
    rw [htick] at hflag
    exact hflag
  case state =>
    intro hst
    have hnot : (s.stream n).state ≠ .stopping ∧ (s.stream n).state ≠ .stopped := by
      rcases hst with h | h <;> rw [h] <;> decide
    obtain ⟨-, hopened⟩ := unresumed_steps hnot.1 (fun h => hnot.2 h.2)
    have hstate := hwork.state
    rw [hopened] at hstate
    refine hstate.trans ?_
    rcases hst with h | h <;> rw [h] <;> rfl

/-! ### RUN_COMPLETION -/

theorem longName_eq_none (h : ∀ x, (s.prog n).variants.get (s.prog n).current = some x → x.long = none) :
    (s.prog n).longName = none := by
  unfold Programme.longName Programme.currentNames
  cases hx : (s.prog n).variants.get (s.prog n).current with
  | none => rfl
  | some x => exact h x hx

/-- A slot that goes to the arbiter (03 R55, 06 R132). -/
theorem sendCell_arbitrated (h : s.arbitrated n (s.duty n)) : s.sendCell n = s.arbitrate n := by
  unfold State.sendCell
  rcases h with h | ⟨h, hlong⟩ | ⟨h, hrefer⟩
  · rw [h]
  · rw [h]
    simp only [longName_eq_none hlong]
  · rw [h]
    cases hy : (s.prog n).target with
    | none => rfl
    | some y =>
      obtain ⟨hflag, hclosing⟩ := hrefer y hy
      have hactive : s.referralActive n = false := by simp [State.referralActive_eq, hy, hflag, hclosing]
      simp only [hactive, if_neg Bool.false_ne_true]

/-- The record after a completed run, as the rules say it (03 R61, R68). -/
theorem complete_eq (c : ClassParams) (head : Nat) (r : Record) :
    r.complete c head =
      (let airings := min 65535 (r.airings + 1)
       let doubled := if c.settle = 0 then 0 else min 3 (airings / c.settle)
       { r with
         airings := airings
         lastRunStart := some head
         due := head + min 3600 (c.base * 2 ^ doubled) * 20 }) := rfl

/-- A started stream on a line found high is RUNNING when it chooses its cell (04 R95). -/
theorem readied_started (hst : (s.stream n).state = .running ∨ (s.stream n).state = .paused)
    (hlevel : s.mrdyPins.getLsbD n.val = true) :
    s.readied n = { s.stream n with
      state := .running
      plan := (s.stream n).planAt s.time.tickNumber
      pendingPlan := (s.stream n).pendingAt s.time.tickNumber
      overcommit := s.overAfter n
      modLevel := true } := by
  have hline : s.lineFound n = true := hlevel
  have hstate : (s.stream n).state.onLevel true = .running := by
    rcases hst with h | h <;> rw [h] <;> rfl
  have hpaused : ¬ StreamState.running = .paused := by decide
  simp only [State.readied, Stream.prepared, Stream.onLevel, hline, hstate, if_neg hpaused]

theorem work_started (hst : (s.stream n).state = .running ∨ (s.stream n).state = .paused)
    (hlevel : s.mrdyPins.getLsbD n.val = true) : streamWork n s = (s.ready n).sendCell n := by
  have hnot : (s.stream n).state ≠ .stopping ∧ (s.stream n).state ≠ .stopped := by
    rcases hst with h | h <;> rw [h] <;> decide
  obtain ⟨hsteps, -⟩ := unresumed_steps hnot.1 fun h => hnot.2 h.2
  rw [streamWork_ready, hsteps, cellStep, stream_ready, readied_started hst hlevel]
  exact if_pos rfl

/-- The work that sends the last cell of a run, as one equation (03 R61). -/
theorem work_completes {run : Run} {nt : Notice} {r : Record} {d : Duty} (hst : (s.stream n).state = .running)
    (hlevel : s.mrdyPins.getLsbD n.val = true)
    (hd : ((s.stream n).planAt s.time.tickNumber)[s.time.tickNumber]? = some d) (ha : s.arbitrated n d)
    (hrun : (s.stream n).run = some run) (hnt : s.notice run.slot = some nt) (hr : nt.record n = some r)
    (hlast : nt.runLength ≤ run.sent + 1) :
    streamWork n s =
      ((((s.ready n).setStream n { s.readied n with
          cell := some (formCell (s.prog n).code (runCell nt run.sent).1 (runCell nt run.sent).2)
          run := none }).setSlot run.slot
        (some (nt.withRecord n (some (r.complete (s.classOf nt.urgency) run.head))))).testHeld run.slot n
          (r.complete (s.classOf nt.urgency) run.head)) := by
  have hplan : ((s.ready n).stream n).plan = (s.stream n).planAt s.time.tickNumber := by
    rw [stream_ready]
    rfl
  have hduty : (s.ready n).duty n = d := by
    rw [State.duty, hplan, List.getD_eq_getElem?_getD]
    exact congrArg (Option.getD · .openSlot) hd
  have hready : ((s.ready n).stream n).run = some run := by
    rw [stream_ready, readied_started (.inl hst) hlevel]
    exact hrun
  have hnotice : (s.ready n).notice run.slot = some nt := hnt
  have harbitrated : (s.ready n).arbitrated n ((s.ready n).duty n) := by
    rw [hduty]
    exact ha
  rw [work_started (.inl hst) hlevel, sendCell_arbitrated harbitrated, arbitrate_run hready,
    sendRunCell_last hnotice hlast hr, stream_ready]
  rfl

theorem heldTested_complete (x : PortState) (i head : Nat) (c : ClassParams) (r : Record) :
    x.heldTested i n (r.complete c head) = match x.held with
      | some h =>
        if h.slot = i ∧ chMem h.remaining n = true ∧ (h.heardStream ≠ some n ∨ 1 ≤ r.heard) then
          x.heldLess h n true
        else x
      | none => x := by
  unfold PortState.heldTested
  cases x.held with
  | none => rfl
  | some h =>
    have hone : 1 ≤ (r.complete c head).airings := Nat.le_min.2 ⟨by decide, Nat.le_add_left 1 r.airings⟩
    have hheard : (r.complete c head).heard = r.heard := rfl
    have hsatisfied : h.satisfiedBy n (r.complete c head) = true ↔ h.heardStream ≠ some n ∨ 1 ≤ r.heard := by
      simp [Held.satisfiedBy, hone, hheard]
    simp only [hsatisfied]

/-- Settles O14: the work is the last run cell of `work_completes`, the record and the held test each by its
equation. -/
theorem aRunCompletes : Obligations.ARunCompletes := by
  intro n run nt r d s hp hdue hst hlevel hd ha hrun hnt hr hlast
  have heq := work_completes hst hlevel hd ha hrun hnt hr hlast
  have hwork := worked_of_work n s
  obtain ⟨hsteps, hopened⟩ := unresumed_steps (s := s) (n := n) (by rw [hst]; decide)
    (by rw [hst]; exact fun h => nomatch h.2)
  obtain ⟨c, hc⟩ : ∃ c, c = s.classOf nt.urgency := ⟨_, rfl⟩
  rw [← hc, State.testHeld_eq] at heq
  obtain ⟨t, ht⟩ : ∃ t, t = streamWork n s := ⟨_, rfl⟩
  rw [← ht] at heq hwork
  have hstream : t.stream n = { s.readied n with
      cell := some (formCell (s.prog n).code (runCell nt run.sent).1 (runCell nt run.sent).2)
      run := none } := by
    rw [heq]
    exact State.stream_setStream_self _ _ _
  have hrow : s.completionDueOn n = true := by
    have hbefore : ((s.beforeCell n).stream n).run = some run := by
      rw [State.beforeCell, hsteps, prepared_eq]
      exact (congrArg Stream.run (stream_ready s n)).trans
        ((congrArg Stream.run (readied_started (.inl hst) hlevel)).trans hrun)
    simp [State.completionDueOn, State.outstanding_iff, hdue, hbefore, ← ht, hstream]
  have hnotice : ∀ i, t.notice i =
      if i = run.slot then some (nt.withRecord n (some (r.complete c run.head))) else s.notice i := fun i =>
    (congrArg (State.notice · i) heq).trans (State.notice_setSlot (s := (s.ready n).setStream n _) hnt _ i)
  have hport : ∀ q, t.port q = (s.port q).heldTested run.slot n (r.complete c run.head) := fun q => by
    rw [heq]
    cases q <;> rfl
  refine ⟨_, running_takeWhen_due hp (.stream n) hrow, ?_⟩
  rw [State.take, ← ht]
  refine ⟨⟨?stream, ?attention⟩, ?record, ?notices, ?tested, ?untested, hwork.others,
    (congrArg State.table hwork.rest).trans rfl, (congrArg State.map hwork.rest).trans rfl,
    (congrArg State.store hwork.rest).trans rfl, (congrArg State.announce heq).trans rfl,
    (congrArg State.time hwork.rest).trans rfl, (congrArg State.monitor hwork.rest).trans rfl⟩
  case stream =>
    refine hstream.trans ?_
    rw [readied_started (.inl hst) hlevel, ← hst]
    rfl
  case attention =>
    have hattention := hwork.attention
    rw [hlevel, Bool.true_bne] at hattention
    exact hattention
  case record =>
    have hself := hnotice run.slot
    rw [if_pos rfl, complete_eq, hc] at hself
    exact hself
  case notices =>
    intro i hi
    exact (hnotice i).trans (if_neg hi)
  case tested =>
    intro p h hh hslot hm hheard
    refine (hport p).trans ?_
    rw [heldTested_complete, hh]
    exact if_pos ⟨hslot, hm, hheard⟩
  case untested =>
    intro p hnot
    refine (hport p).trans ?_
    rw [heldTested_complete]
    cases hh : (s.port p).held with
    | none => rfl
    | some h =>
      refine if_neg ?_
      rintro ⟨hslot, hm, hheard⟩
      obtain ⟨hstream, hzero⟩ := hnot h hh hslot hm
      rcases hheard with hne | hone
      · exact hne hstream
      · omega

end Sys2Proof.Machine
end

section
/-! SUPPORT. The cell of each duty, and the record that the arbiter serves (03 R56, 04 R85). -/

namespace Sys2Proof.Machine

variable {s t : State} {n : Ch} {i : Nat} {nt : Notice} {r : Record}

/-! ### The cell of a duty -/

theorem sendCell_status (h : s.duty n = .status) : s.sendCell n = s.sendStatus n := by
  rw [State.sendCell, h]

theorem sendCell_name (h : s.duty n = .name) : s.sendCell n = s.sendName n := by
  rw [State.sendCell, h]

theorem sendCell_longName {long : List Byte} (h : s.duty n = .longName)
    (hlong : (s.prog n).longName = some long) : s.sendCell n = s.sendLongName n long := by
  rw [State.sendCell, h]
  simp only [hlong]

theorem sendCell_refer {y : Ch} (h : s.duty n = .refer) (hy : (s.prog n).target = some y)
    (hactive : (s.ann y).flag = true ∨ 0 < (s.ann n).closing) : s.sendCell n = s.sendRefer n y := by
  have hreferral : s.referralActive n = true := by simpa [State.referralActive_eq, hy] using hactive
  rw [State.sendCell, h]
  simp only [hy, hreferral, if_true]

theorem sendStatus_eq (s : State) (n : Ch) : ∃ k v, s.sendStatus n = s.emit n k v := by
  unfold State.sendStatus
  split
  · exact ⟨_, _, rfl⟩
  · exact ⟨_, _, rfl⟩

theorem State.Sent.nameCtr {name long : Nat} (h : s.Sent t n name long) : (t.stream n).nameCtr = name := by
  obtain ⟨_, _, hstream⟩ := h.stream
  exact congrArg Stream.nameCtr hstream

theorem State.Sent.longCtr {name long : Nat} (h : s.Sent t n name long) : (t.stream n).longCtr = long := by
  obtain ⟨_, _, hstream⟩ := h.stream
  exact congrArg Stream.longCtr hstream

/-- The long name goes to the arbiter when there is none, the referral when it is not active (04 R85). -/
theorem duty_cases (s : State) (n : Ch) :
    s.duty n = .status ∨ s.duty n = .name ∨
      (∃ long, s.duty n = .longName ∧ (s.prog n).longName = some long) ∨
      (∃ y, s.duty n = .refer ∧ (s.prog n).target = some y ∧
        ((s.ann y).flag = true ∨ 0 < (s.ann n).closing)) ∨
      s.sendCell n = s.arbitrate n := by
  cases hd : s.duty n with
  | status => exact .inl rfl
  | name => exact .inr (.inl rfl)
  | longName =>
    cases hlong : (s.prog n).longName with
    | some long => exact .inr (.inr (.inl ⟨long, rfl, rfl⟩))
    | none =>
      right; right; right; right
      rw [State.sendCell, hd]
      simp only [hlong]
  | refer =>
    cases hy : (s.prog n).target with
    | none =>
      right; right; right; right
      rw [State.sendCell, hd]
      simp only [hy]
    | some y =>
      by_cases hactive : (s.ann y).flag = true ∨ 0 < (s.ann n).closing
      · exact .inr (.inr (.inr (.inl ⟨y, rfl, rfl, hactive⟩)))
      · right; right; right; right
        have hreferral : ¬ s.referralActive n = true := by simpa [State.referralActive_eq, hy] using hactive
        rw [State.sendCell, hd]
        simp only [hy, if_neg hreferral]
  | openSlot =>
    right; right; right; right
    rw [State.sendCell, hd]

theorem sendCell_nameCtr (h : s.duty n ≠ .name) :
    ((s.sendCell n).stream n).nameCtr = (s.stream n).nameCtr := by
  rcases duty_cases s n with hd | hd | ⟨long, hd, hlong⟩ | ⟨y, hd, hy, hactive⟩ | harb
  · obtain ⟨k, v, heq⟩ := sendStatus_eq s n
    rw [sendCell_status hd, heq]
    exact (sent_emit s n k v).nameCtr
  · exact absurd hd h
  · rw [sendCell_longName hd hlong, sendLongName_eq, State.stream_setStream_self]
  · rw [sendCell_refer hd hy hactive, sendRefer_eq]
    exact ((sent_emit s n _ _).withAnnounce _).nameCtr
  · rw [harb]
    exact (sent_arbitrate s n).nameCtr

theorem sendCell_longCtr (h : s.duty n ≠ .longName ∨ s.arbitrated n (s.duty n)) :
    ((s.sendCell n).stream n).longCtr = (s.stream n).longCtr := by
  rcases duty_cases s n with hd | hd | ⟨long, hd, hlong⟩ | ⟨y, hd, hy, hactive⟩ | harb
  · obtain ⟨k, v, heq⟩ := sendStatus_eq s n
    rw [sendCell_status hd, heq]
    exact (sent_emit s n k v).longCtr
  · rw [sendCell_name hd, sendName_eq, State.stream_setStream_self]
  · rcases h with h | h
    · exact absurd hd h
    · rw [sendCell_arbitrated h]
      exact (sent_arbitrate s n).longCtr
  · rw [sendCell_refer hd hy hactive, sendRefer_eq]
    exact ((sent_emit s n _ _).withAnnounce _).longCtr
  · rw [harb]
    exact (sent_arbitrate s n).longCtr

/-- The count of a STATUS cell (04 R79). -/
theorem airingRecords_length (s : State) (n : Ch) :
    (s.airingRecords n).length = (List.range 96).countP fun i =>
      (s.notice i).any fun nt => nt.airsOn n := by
  rw [State.airingRecords_eq, State.airedOn, List.length_filterMap_eq_countP]
  refine List.countP_congr fun i _ => ?_
  cases s.notice i with
  | none => simp
  | some nt =>
    rw [Option.any_some, Notice.airsOn_eq]
    cases h : nt.record n with
    | none => simp [h]
    | some r => simp [h, ← Record.isAiring_iff]

/-! ### The record that the arbiter serves -/

theorem streamRecords_split (hi : i < 96) (hn : s.notice i = some nt) (hr : nt.record n = some r) :
    ∃ xs ys, s.streamRecords n = xs ++ (i, nt, r) :: ys ∧ ∀ y ∈ xs ++ ys, y.1 ≠ i := by
  refine ⟨(List.range i).filterMap fun j => (s.notice j).bind fun x => (x.record n).map fun r => (j, x, r),
    (List.range' (i + 1) (95 - i)).filterMap fun j =>
      (s.notice j).bind fun x => (x.record n).map fun r => (j, x, r), ?_, ?_⟩
  · have hrecords : s.streamRecords n = slotNumbers.filterMap fun j =>
        (s.notice j).bind fun x => (x.record n).map fun r => (j, x, r) := by
      rw [State.streamRecords]
      refine List.filterMap_congr fun j _ => ?_
      cases s.notice j <;> rfl
    rw [hrecords, slotNumbers_split hi, List.filterMap_append, List.filterMap_cons, hn]
    simp [hr]
  · intro y hy
    simp only [List.mem_append, List.mem_filterMap, List.mem_range, List.mem_range'_1,
      Option.bind_eq_some_iff, Option.map_eq_some_iff] at hy
    obtain ⟨j, hj, x, -, r', -, rfl⟩ | ⟨j, ⟨hj, -⟩, x, -, r', -, rfl⟩ := hy
    · exact Nat.ne_of_lt hj
    · exact Nat.ne_of_gt hj

/-- The first of a stream's records of one kind. -/
theorem leastBy_streamRecords {lt : Nat × Notice × Record → Nat × Notice × Record → Bool}
    {p : Nat × Notice × Record → Bool} (hi : i < 96) (hn : s.notice i = some nt) (hr : nt.record n = some r)
    (hp : p (i, nt, r) = true)
    (hfirst : ∀ y ∈ s.streamRecords n, y.1 ≠ i → p y = true →
      lt (i, nt, r) y = true ∧ lt y (i, nt, r) = false) :
    leastBy lt ((s.streamRecords n).filter p) = some (i, nt, r) := by
  obtain ⟨xs, ys, hsplit, hother⟩ := streamRecords_split hi hn hr
  rw [hsplit, List.filter_append, List.filter_cons_of_pos hp]
  have hall : ∀ y ∈ xs ++ ys, p y = true → lt (i, nt, r) y = true ∧ lt y (i, nt, r) = false := by
    intro y hy hpy
    refine hfirst y ?_ (hother y hy) hpy
    rw [hsplit]
    simp only [List.mem_append, List.mem_cons] at hy ⊢
    exact hy.imp_right .inr
  refine leastBy_eq_some (fun y hy => ?_) fun y hy => ?_
  · exact (hall y (List.mem_append_left _ (List.mem_filter.1 hy).1) (List.mem_filter.1 hy).2).1
  · exact (hall y (List.mem_append_right _ (List.mem_filter.1 hy).1) (List.mem_filter.1 hy).2).2

/-- A record that is due. -/
theorem dueOn_of_mem {y : Nat × Notice × Record} (hy : y ∈ s.streamRecords n) (hdue : y.2.2.due ≤ s.now) :
    s.dueOn n s.now y.1 y.2.1 y.2.2 := by
  obtain ⟨hi, hn, hr⟩ := mem_streamRecords.1 hy
  exact ⟨hi, hn, hr, hdue⟩

theorem nextWithdrawal_eq_some {left : Nat} (hdue : s.dueOn n s.now i nt r) (hm : r.mode = .withdrawal left)
    (hfirst : ∀ j nt' r' left', j ≠ i → s.dueOn n s.now j nt' r' → r'.mode = .withdrawal left' →
      r.due < r'.due ∨ r.due = r'.due ∧ nt.number < nt'.number) :
    s.nextWithdrawal n = some (i, nt, r) := by
  obtain ⟨hi, hn, hr, hd⟩ := hdue
  rw [State.nextWithdrawal, State.withdrawalRecords, List.filter_filter]
  refine leastBy_streamRecords hi hn hr (by simp [hd, Record.isAiring, hm]) fun y hy hne hpy => ?_
  simp only [Bool.and_eq_true, decide_eq_true_eq, Bool.not_eq_true'] at hpy
  obtain ⟨hd', hair⟩ := hpy
  cases hm' : y.2.2.mode with
  | airing => simp [Record.isAiring, hm'] at hair
  | withdrawal left' =>
    have hlt := hfirst y.1 y.2.1 y.2.2 left' hne (dueOn_of_mem hy hd') hm'
    simp only [withdrawalBefore, Bool.or_eq_true, Bool.and_eq_true, decide_eq_true_eq, beq_iff_eq,
      ← Bool.not_eq_true]
    omega

theorem nextWithdrawal_eq_none (h : ∀ i nt r left, s.dueOn n s.now i nt r → r.mode ≠ .withdrawal left) :
    s.nextWithdrawal n = none := by
  have hnone : (s.withdrawalRecords n).filter (fun x => decide (x.2.2.due ≤ s.now)) = [] := by
    refine List.filter_eq_nil_iff.2 fun y hy => ?_
    obtain ⟨hmem, hair⟩ := List.mem_filter.1 hy
    intro hd
    cases hm : y.2.2.mode with
    | airing => simp [Record.isAiring, hm] at hair
    | withdrawal left => exact h _ _ _ left (dueOn_of_mem hmem (of_decide_eq_true hd)) hm
  rw [State.nextWithdrawal, hnone, leastBy_nil]

theorem nextAiring_eq_some (hdue : s.dueOn n s.now i nt r) (hm : r.mode = .airing)
    (hfirst : ∀ j nt' r', j ≠ i → s.dueOn n s.now j nt' r' →
      r.due < r'.due ∨ r.due = r'.due ∧ (nt.urgency.rank < nt'.urgency.rank ∨
        nt.urgency.rank = nt'.urgency.rank ∧ nt.number < nt'.number)) :
    s.nextAiring n = some (i, nt, r) := by
  obtain ⟨hi, hn, hr, hd⟩ := hdue
  rw [State.nextAiring, State.airingRecords, List.filter_filter]
  refine leastBy_streamRecords hi hn hr (by simp [hd, Record.isAiring, hm]) fun y hy hne hpy => ?_
  simp only [Bool.and_eq_true, decide_eq_true_eq] at hpy
  have hlt := hfirst y.1 y.2.1 y.2.2 hne (dueOn_of_mem hy hpy.1)
  simp only [airingBefore, Bool.or_eq_true, Bool.and_eq_true, decide_eq_true_eq, beq_iff_eq,
    ← Bool.not_eq_true]
  omega

theorem nextAiring_eq_none (h : ∀ i nt r, ¬ s.dueOn n s.now i nt r) : s.nextAiring n = none := by
  have hnone : (s.airingRecords n).filter (fun x => decide (x.2.2.due ≤ s.now)) = [] := by
    refine List.filter_eq_nil_iff.2 fun y hy => ?_
    intro hd
    exact h _ _ _ (dueOn_of_mem (List.mem_filter.1 hy).1 (of_decide_eq_true hd))
  rw [State.nextAiring, hnone, leastBy_nil]

end Sys2Proof.Machine
end

section
/-! SUPPORT. What a tick boundary leaves every stream with, and the proof of O6 (04 R94 to R98). -/

namespace Sys2Proof.Machine

variable {s t : State} {n : Ch}

/-! ### The other works leave a stream but for its run and segment counters -/

/-- `y` is `x` but for its run and its segment counters. -/
def Stream.Touched (x y : Stream) : Prop :=
  y = { x with run := y.run, nameCtr := y.nameCtr, longCtr := y.longCtr }

theorem touched_runsEnded (s : State) (i : Nat) (n : Ch) : (s.stream n).Touched ((s.runsEnded i).stream n) := by
  have h : (s.runsEnded i).stream n =
      if s.inRun n i then { s.stream n with run := none } else s.stream n := Four.get_tab _ n
  rw [h]
  split
  · exact rfl
  · exact rfl

theorem touched_of_streams (h : t.streams = s.streams) (n : Ch) : (s.stream n).Touched (t.stream n) :=
  have hsame : t.stream n = s.stream n := congrArg (Four.get · n) h
  hsame ▸ (rfl : (s.stream n).Touched (s.stream n))

theorem touched_testNotice (i : Nat) (s : State) (n : Ch) :
    (s.stream n).Touched ((testNotice i s).stream n) := by
  unfold testNotice
  split
  · exact rfl
  · next nt hnt =>
    split
    · refine touched_of_streams ?_ n
      unfold State.startNotice
      split
      · rfl
      · split <;> rfl
    · split
      · rw [State.beginWithdrawal_eq s i nt hnt]
        exact touched_runsEnded (s.holdsEnded i) i n
      · exact rfl

theorem touched_testWithdrawLimit (i : Nat) (s : State) (n : Ch) :
    (s.stream n).Touched ((testWithdrawLimit i s).stream n) := by
  unfold testWithdrawLimit
  split
  · rw [State.cutRuns_eq]
    exact touched_runsEnded s i n
  · exact rfl

theorem Stream.Touched.trans {x y z : Stream} (h : x.Touched y) (h' : y.Touched z) : x.Touched z := by
  unfold Stream.Touched at *
  rw [h', h]

theorem touched_renamed (x : Stream) (v : Option Ch) : x.Touched (x.renamed v) := by
  cases v <;> exact rfl

theorem touched_testTimed (s : State) (n : Ch) : (s.stream n).Touched (s.testTimed.stream n) := by
  refine forChannels_keeps (P := fun t => (s.stream n).Touched (t.stream n)) (fun p t ht => ht.trans ?_) s rfl
  have hstream : (timedWork p t).stream n =
      (t.streams.set p ((t.stream p).renamed (t.firedVariant p))).get n := by
    rw [timedWork_eq]
    rfl
  rw [hstream]
  by_cases e : n = p
  · rw [e, Four.get_set_self]
    exact touched_renamed _ _
  · rw [Four.get_set_ne _ _ _ _ e]
    exact rfl

theorem streams_announceWork (p : Ch) (s : State) : (announceWork p s).streams = s.streams :=
  (congrArg State.streams (announceWork_announced p s rfl).restKept).trans rfl

theorem streams_testConfirmLimit (p : Port) (s : State) : (testConfirmLimit p s).streams = s.streams := by
  unfold testConfirmLimit
  split
  · rw [State.finishHeld_eq]
    rfl
  · rfl

theorem streams_silenceWork (s : State) : (silenceWork s).streams = s.streams := by
  simp only [silenceWork]
  repeat' split
  all_goals rfl

theorem streams_watchWork (s : State) : (watchWork s).streams = s.streams := by
  unfold watchWork
  repeat' split
  all_goals rfl

/-- Every work but a stream's own leaves the stream as it was but for a run cut (03 R62) and for the segment
counters of a name that has changed (05 R105). -/
theorem take_touched {w : Work} (hw : w ≠ .stream n) (s : State) :
    (s.stream n).Touched ((s.take w).stream n) := by
  cases w with
  | trimExpiry => exact rfl
  | noticeTest i => exact touched_testNotice i s n
  | timedFire => exact touched_testTimed s n
  | minute => exact rfl
  | stream m =>
    have hm : n ≠ m := fun e => hw (e ▸ rfl)
    have hsame := (worked_of_work m s).others n hm
    rw [State.take, hsame]
    exact rfl
  | announce p => exact touched_of_streams (streams_announceWork p s) n
  | withdrawLimit i => exact touched_testWithdrawLimit i s n
  | confirmLimit p => exact touched_of_streams (streams_testConfirmLimit p s) n
  | silence => exact touched_of_streams (streams_silenceWork s) n
  | markWatch => exact touched_of_streams (streams_watchWork s) n

/-! ### Every stream after a boundary -/

/-- A stream under the code `code` that has taken a boundary with its line at `line` (04 R94 to R98). -/
def Stream.Aired (x : Stream) (line : Bool) (code : BitVec 16) : Prop :=
  x.state ≠ .stopping ∧ x.modLevel = line ∧
    (x.state = .running → line = true ∧ ∃ k v, x.cell = some (formCell code k v)) ∧
    (x.state ≠ .running → x.cell = none)

theorem opened_state (x : Stream) : x.opened.state ≠ .stopping := by
  obtain ⟨y, hy⟩ : ∃ y, y = if x.state = .stopping then x.stopped else x := ⟨_, rfl⟩
  have hstopped : y.state ≠ .stopping := by
    rw [hy]
    split
    · exact StreamState.noConfusion
    · next h => exact h
  rw [Stream.opened, ← hy, Stream.restarted]
  split
  · exact StreamState.noConfusion
  · exact hstopped

theorem streamWork_aired (n : Ch) (s : State) :
    ((streamWork n s).stream n).Aired (s.mrdyPins.getLsbD n.val) (s.prog n).code := by
  have hwork := worked_of_work n s
  have hopened := opened_state (s.stream n)
  obtain ⟨x, hx⟩ : ∃ x, x = (s.stream n).opened := ⟨_, rfl⟩
  obtain ⟨line, hline⟩ : ∃ line, line = s.mrdyPins.getLsbD n.val := ⟨_, rfl⟩
  obtain ⟨t, ht⟩ : ∃ t, t = streamWork n s := ⟨_, rfl⟩
  rw [← ht, ← hx] at hwork
  rw [← hx] at hopened
  have hstate := hwork.state
  have hsilent := hwork.silent
  have hsends := hwork.sends
  rw [← hline] at hstate hsilent hsends
  rw [← ht, ← hline]
  have hnot : x.state.onLevel line ≠ .stopping := by
    cases line <;> cases h : x.state <;> simp_all [StreamState.onLevel]
  have hhigh : x.state.onLevel line = .running → line = true := by
    cases line <;> cases x.state <;> simp [StreamState.onLevel]
  refine ⟨?_, hwork.level.trans hline.symm, fun hr => ?_, fun hr => ?_⟩
  · rwa [hstate]
  · rw [hstate] at hr
    exact ⟨hhigh hr, hsends hr⟩
  · rw [hstate] at hr
    exact congrArg Stream.cell (hsilent hr)

theorem Stream.Aired.touched {x y : Stream} {line : Bool} {code : BitVec 16} (h : x.Aired line code)
    (hy : x.Touched y) : y.Aired line code := by
  unfold Stream.Touched at hy
  rw [hy]
  exact h

/-- What the works of a boundary keep: the lines it found and a programme's code. -/
def State.Found (s : State) (n : Ch) (line : Bool) (code : BitVec 16) : Prop :=
  s.mrdyPins.getLsbD n.val = line ∧ (s.prog n).code = code

theorem take_found {line : Bool} {code : BitVec 16} (w : Work) (h : s.Found n line code) :
    (s.take w).Found n line code := by
  have henv : ((s.take w).pending, (s.take w).due, (s.take w).pornLow, (s.take w).cuePins, (s.take w).mrdyPins) =
      (s.pending, s.due, s.pornLow, s.cuePins, s.mrdyPins) :=
    onlyIn_take w s .env (by cases w <;> simp [workTouches])
  have hpins : (s.take w).mrdyPins = s.mrdyPins := congrArg (fun x => x.2.2.2.2) henv
  obtain ⟨_, hprog⟩ := take_progs w s n
  exact ⟨by rw [hpins, h.1], by rw [hprog]; exact h.2⟩

theorem take_aired {line : Bool} {code : BitVec 16} (w : Work) (hf : s.Found n line code)
    (h : w = .stream n ∨ (s.stream n).Aired line code) : ((s.take w).stream n).Aired line code := by
  by_cases hw : w = .stream n
  · rw [hw, ← hf.1, ← hf.2]
    exact streamWork_aired n s
  · exact (h.resolve_left hw).touched (take_touched hw s)

/-- Once its work is taken, a stream has aired. -/
theorem takeAll_aired {line : Bool} {code : BitVec 16} {ws : List Work} (hn : Work.stream n ∈ ws)
    (hf : s.Found n line code) : ((s.takeAll ws).stream n).Aired line code := by
  obtain ⟨xs, ys, rfl⟩ := List.append_of_mem hn
  have hbefore : (s.takeAll xs).Found n line code := takeAll_keeps (P := fun t => t.Found n line code)
    (fun w _ => take_found w) xs s hf
  rw [takeAll_append]
  have hkept := takeAll_keeps (P := fun t => t.Found n line code ∧ (t.stream n).Aired line code)
    (fun w t ht => ⟨take_found w ht.1, take_aired w ht.1 (.inr ht.2)⟩) ys ((s.takeAll xs).take (.stream n))
    ⟨take_found _ hbefore, take_aired _ hbefore (.inl rfl)⟩
  exact hkept.2

/-! ### The outputs -/

theorem bitIndex_eq {k : Nat} (hk : k < 96) (hfrom : 6400 * k ≤ s.time.phase)
    (hto : s.time.phase < 6400 * (k + 1) ∨ k = 95) : s.bitIndex = k := by
  unfold State.bitIndex Config.bitPeriod
  omega

theorem begun_found (s : State) (lines : Lines) (n : Ch) :
    (s.begun lines).Found n (lines.mrdy.getLsbD n.val) (s.prog n).code := by
  have hcode : (s.flushDue.prog n).code = (s.prog n).code :=
    flushDue_keeps (P := fun t => (t.prog n).code = (s.prog n).code)
      (fun w t ht => by
        obtain ⟨_, hprog⟩ := take_progs w t n
        rw [hprog]
        exact ht) (fun _ _ h => h) rfl
  rw [State.begun_eq]
  exact ⟨rfl, hcode⟩

/-- Every stream after a boundary with nothing left to later commands. -/
theorem boundary_aired (s : State) (lines : Lines) (second : Bool) (n : Ch) :
    (((s.begun lines).works second []).stream n).Aired (lines.mrdy.getLsbD n.val) (s.prog n).code := by
  have hmem : Work.stream n ∈ ((s.begun lines).boundaryWorks second).filter
      fun w => !([] : List Work).contains w := by
    have hengine : Work.stream n ∈ engineWorks := by revert n; decide
    simp [State.boundaryWorks, hengine]
  exact takeAll_aired hmem (begun_found s lines n)

/-- A boundary that takes one stream's work alone (log entry 2). -/
theorem works_stream (s : State) (second : Bool) (n : Ch) :
    s.works second (othersThan (· = .stream n)) =
      { streamWork n s with
        due := (s.boundaryWorks second).filter fun w => !decide (w = .stream n) } := by
  have hcount : (s.boundaryWorks second).count (.stream n) = 1 := by
    have hengine : engineWorks.count (.stream n) = 1 := by revert n; decide
    have hsecond : (if second then s.secondWorks else []).count (.stream n) = 0 := by
      refine List.count_eq_zero.2 fun h => ?_
      cases second <;> simp [State.secondWorks] at h
    have htrim : (if s.time.trimSpent then [Work.trimExpiry] else []).count (.stream n) = 0 := by
      refine List.count_eq_zero.2 fun h => ?_
      split at h <;> simp at h
    simp only [State.boundaryWorks, List.count_append, hengine, hsecond, htrim]
    rw [List.count_eq_zero.2 (by simp), List.count_eq_zero.2 (by simp), List.count_eq_zero.2 (by simp)]
  rw [State.works_othersThan, List.filter_eq, hcount]
  rfl

end Sys2Proof.Machine
end

section
/-! SUPPORT. The cell that the work of one stream alone sends, duty by duty, and the proof of O6 (04 R96 to R98). -/

namespace Sys2Proof.Machine

variable {s t : State} {n : Ch} {i : Nat} {nt : Notice} {r : Record} {run : Run}

/-! ### The duty cells -/

theorem timeCellDue_iff (s : State) : s.timeCellDue = true ↔
    s.time.tickNumber = 0 ∧ s.time.isSet = true ∧ s.time.seconds % 60 = 0 := by
  simp [State.timeCellDue, and_assoc]

theorem referralActive_decide (s : State) (n : Ch) : s.referralActive n =
    decide (∃ y, (s.prog n).target = some y ∧ ((s.ann y).flag = true ∨ 0 < (s.ann n).closing)) := by
  rw [State.referralActive_eq]
  cases (s.prog n).target <;> simp [Bool.decide_or]

theorem stream_emit (s : State) (n : Ch) (k : Kind) (v : BitVec 48) :
    (s.emit n k v).stream n = { s.stream n with cell := some (formCell (s.prog n).code k v) } :=
  State.stream_setStream_self s n _

/-- A STATUS duty at a minute's tick 0 once the time is set (04 R80, R86). -/
theorem sendCell_minute (h : s.duty n = .status)
    (hdue : s.time.tickNumber = 0 ∧ s.time.isSet = true ∧ s.time.seconds % 60 = 0) :
    s.sendCell n = s.emit n .time (timePayload s.time.seconds s.time.offset) := by
  rw [sendCell_status h, State.sendStatus, if_pos ((timeCellDue_iff s).2 hdue)]

theorem sendCell_status_cell (h : s.duty n = .status)
    (hdue : ¬ (s.time.tickNumber = 0 ∧ s.time.isSet = true ∧ s.time.seconds % 60 = 0)) :
    s.sendCell n = s.emit n .status (statusPayload (s.prog n).carries (s.ann n).flag
      (decide (∃ y, (s.prog n).target = some y ∧ ((s.ann y).flag = true ∨ 0 < (s.ann n).closing)))
      s.time.isSet (s.prog n).current (s.prog n).coverage
      ((List.range 96).countP fun i => (s.notice i).any fun nt => nt.airsOn n)) := by
  rw [sendCell_status h, State.sendStatus, if_neg (mt (timeCellDue_iff s).1 hdue), referralActive_decide,
    airingRecords_length]

theorem shortName_eq {g : Programme} {y : Names} (h : g.variants.get g.current = some y) :
    g.shortName = y.short := by
  rw [Programme.shortName, Programme.currentNames, h]

theorem longName_eq {g : Programme} {y : Names} (h : g.variants.get g.current = some y) :
    g.longName = y.long := by
  rw [Programme.longName, Programme.currentNames, h]
  rfl

/-! ### The arbiter's cells -/

theorem sendRunCell_cell (hn : s.notice run.slot = some nt) :
    ((s.sendRunCell n run).stream n).cell =
      some (formCell (s.prog n).code (runCell nt run.sent).1 (runCell nt run.sent).2) := by
  obtain hmore | hlast := Nat.lt_or_ge (run.sent + 1) nt.runLength
  · rw [sendRunCell_more hn hmore, State.stream_setStream_self]
  · cases hr : nt.record n with
    | none => rw [sendRunCell_unrecorded hn hlast hr, State.stream_setStream_self]
    | some r =>
      rw [sendRunCell_last hn hlast hr, State.testHeld_eq]
      exact congrArg Stream.cell (State.stream_setStream_self s n _)

/-- The cell of a WITHDRAWAL record, and its slot after it (03 R65). -/
theorem sendWithdraw_served {left : Nat} (hn : s.notice i = some nt) (hm : r.mode = .withdrawal left) :
    ((s.sendWithdraw n i nt r).stream n = { s.stream n with
      cell := some (formCell (s.prog n).code .withdraw (withdrawPayload nt)) }) ∧
    ∀ j, (s.sendWithdraw n i nt r).notice j =
      if j = i then
        if 1 < left then
          some (nt.withRecord n (some { r with mode := .withdrawal (left - 1), due := s.now + 40 }))
        else nt.without n
      else s.notice j := by
  obtain hleft | hleft := Nat.lt_or_ge 1 left
  · rw [sendWithdraw_more hm hleft, if_pos hleft]
    exact ⟨State.stream_setStream_self s n _,
      State.notice_setSlot ((State.notice_setStream _ _ _ _).trans hn) _⟩
  · rw [sendWithdraw_last hm hleft, if_neg (Nat.not_lt.2 hleft)]
    refine ⟨?_, fun j => ?_⟩
    · rw [removeRecord_slots]
      exact State.stream_setStream_self s n _
    · rw [State.notice_removeRecord, State.notice_setStream, State.notice_setStream, hn]
      rfl

/-- The arbiter goes on with a run (03 R59). -/
theorem arbitrate_runs (hrun : (s.stream n).run = some run) (hn : s.notice run.slot = some nt) :
    ((s.arbitrate n).stream n).cell =
      some (formCell (s.prog n).code (runCell nt run.sent).1 (runCell nt run.sent).2) ∧
    (run.sent + 1 < nt.runLength → (s.arbitrate n).table = s.table ∧
      ((s.arbitrate n).stream n).run = some { run with sent := run.sent + 1 }) := by
  rw [arbitrate_run hrun]
  refine ⟨sendRunCell_cell hn, fun hmore => ?_⟩
  rw [sendRunCell_more hn hmore, State.stream_setStream_self]
  exact ⟨rfl, rfl⟩

/-- The arbiter serves the first of the due WITHDRAWAL records (03 R56, R65). -/
theorem arbitrate_withdraws {left : Nat} (hrun : (s.stream n).run = none) (hdue : s.dueOn n s.now i nt r)
    (hm : r.mode = .withdrawal left)
    (hfirst : ∀ j nt' r' left', j ≠ i → s.dueOn n s.now j nt' r' → r'.mode = .withdrawal left' →
      r.due < r'.due ∨ r.due = r'.due ∧ nt.number < nt'.number) :
    ((s.arbitrate n).stream n = { s.stream n with
      cell := some (formCell (s.prog n).code .withdraw (withdrawPayload nt)) }) ∧
    ∀ j, (s.arbitrate n).notice j =
      if j = i then
        if 1 < left then
          some (nt.withRecord n (some { r with mode := .withdrawal (left - 1), due := s.now + 40 }))
        else nt.without n
      else s.notice j := by
  rw [arbitrate_withdrawal hrun (nextWithdrawal_eq_some hdue hm hfirst)]
  exact sendWithdraw_served hdue.2.1 hm

/-- The arbiter begins the run of the first of the due AIRING records, if no WITHDRAWAL record is due (03 R56,
R60). -/
theorem arbitrate_airs (hrun : (s.stream n).run = none)
    (hnone : ∀ i nt r left, s.dueOn n s.now i nt r → r.mode ≠ .withdrawal left)
    (hdue : s.dueOn n s.now i nt r) (hm : r.mode = .airing)
    (hfirst : ∀ j nt' r', j ≠ i → s.dueOn n s.now j nt' r' →
      r.due < r'.due ∨ r.due = r'.due ∧ (nt.urgency.rank < nt'.urgency.rank ∨
        nt.urgency.rank = nt'.urgency.rank ∧ nt.number < nt'.number)) :
    (s.arbitrate n).stream n = { s.stream n with
      cell := some (formCell (s.prog n).code .head (headPayload nt))
      run := some ⟨nt.number, i, 1, s.now⟩ } := by
  rw [arbitrate_airing hrun (nextWithdrawal_eq_none hnone) (nextAiring_eq_some hdue hm hfirst), sendHead_eq,
    State.stream_setStream_self]

/-- The arbiter fills a slot for which no record is due (03 R56). -/
theorem arbitrate_fills (hrun : (s.stream n).run = none) (hnone : ∀ i nt r, ¬ s.dueOn n s.now i nt r) :
    (s.arbitrate n).stream n = { s.stream n with
      cell := some (formCell (s.prog n).code .fill 0#48) } := by
  rw [arbitrate_fill hrun (nextWithdrawal_eq_none fun i nt r _ h => absurd h (hnone i nt r))
    (nextAiring_eq_none hnone), stream_emit]

/-- Without a run and a due WITHDRAWAL record the arbiter keeps the table. -/
theorem arbitrate_table (hrun : (s.stream n).run = none)
    (hnone : ∀ i nt r left, s.dueOn n s.now i nt r → r.mode ≠ .withdrawal left) :
    (s.arbitrate n).table = s.table := by
  have hw := nextWithdrawal_eq_none hnone
  cases ha : s.nextAiring n with
  | some x =>
    obtain ⟨i, nt, r⟩ := x
    rw [arbitrate_airing hrun hw ha, sendHead_eq]
    rfl
  | none =>
    rw [arbitrate_fill hrun hw ha]
    rfl

/-! ### The cell in terms of the state with nothing outstanding -/

/-- The state `v` in which a stream chooses its cell, at a boundary begun on `r` (04 R96). -/
structure State.ChoosesFrom (r v : State) (n : Ch) : Prop where
  prog : ∀ p, v.prog p = r.prog p
  ann : ∀ p, v.ann p = r.ann p
  table : v.table = r.table
  clock : v.time.isSet = r.time.isSet ∧ v.time.offset = r.time.offset
  run : (v.stream n).run = (r.stream n).run
  counters : (v.stream n).nameCtr = (r.stream n).nameCtr ∧ (v.stream n).longCtr = (r.stream n).longCtr
  plan : (v.stream n).plan = (r.stream n).planAt v.time.tickNumber

section
variable {q v : State} (h : q.ChoosesFrom v n)
include h

theorem State.ChoosesFrom.notice (i : Nat) : v.notice i = q.notice i := by
  rw [State.notice, h.table, State.notice]

theorem State.ChoosesFrom.duty {d : Duty} (hd : ((q.stream n).planAt v.time.tickNumber)[v.time.tickNumber]? = some d) :
    v.duty n = d := by
  rw [State.duty, h.plan, List.getD_eq_getElem?_getD, hd]
  rfl

theorem State.ChoosesFrom.arbitrated {d : Duty} (ha : q.arbitrated n d) : v.arbitrated n d := by
  simpa only [State.arbitrated, h.prog, h.ann] using ha

theorem State.ChoosesFrom.dueOn {i now : Nat} {nt : Notice} {r : Record} :
    v.dueOn n now i nt r ↔ q.dueOn n now i nt r := by
  rw [State.dueOn, State.dueOn, h.notice]

theorem State.ChoosesFrom.emitted (k : Kind) (w : BitVec 48) :
    ((v.emit n k w).table = q.table ∧ ((v.emit n k w).stream n).run = (q.stream n).run) ∧
      ((v.emit n k w).stream n).cell = some (formCell (q.prog n).code k w) := by
  rw [stream_emit, ← h.prog, ← h.run]
  exact ⟨⟨h.table, rfl⟩, rfl⟩

theorem State.ChoosesFrom.status (hd : v.duty n = .status) :
    ((v.sendCell n).table = q.table ∧ ((v.sendCell n).stream n).run = (q.stream n).run) ∧
      if (v.sendCell n).time.tickNumber = 0 ∧ q.time.isSet = true ∧ (v.sendCell n).time.seconds % 60 = 0 then
        ((v.sendCell n).stream n).cell = some (formCell (q.prog n).code .time
          (timePayload (v.sendCell n).time.seconds q.time.offset))
      else
        ((v.sendCell n).stream n).cell = some (formCell (q.prog n).code .status
          (statusPayload (q.prog n).carries (q.ann n).flag
            (decide (∃ y, (q.prog n).target = some y ∧ ((q.ann y).flag = true ∨ 0 < (q.ann n).closing)))
            q.time.isSet (q.prog n).current (q.prog n).coverage
            ((List.range 96).countP fun i => (q.notice i).any fun nt => nt.airsOn n))) := by
  rw [State.sendCell_time, ← h.clock.1, ← h.clock.2]
  by_cases hdue : v.time.tickNumber = 0 ∧ v.time.isSet = true ∧ v.time.seconds % 60 = 0
  · rw [if_pos hdue, sendCell_minute hd hdue]
    exact h.emitted _ _
  · rw [if_neg hdue, sendCell_status_cell hd hdue]
    simp only [h.prog, h.ann, h.notice]
    exact h.emitted _ _

theorem State.ChoosesFrom.name (hd : v.duty n = .name) {y : Names}
    (hy : (q.prog n).variants.get (q.prog n).current = some y) :
    ((v.sendCell n).table = q.table ∧ ((v.sendCell n).stream n).run = (q.stream n).run) ∧
      ((v.sendCell n).stream n).cell = some (formCell (q.prog n).code .name
        (namePayload (q.stream n).nameCtr y.short)) ∧
      ((v.sendCell n).stream n).nameCtr = 1 - (q.stream n).nameCtr := by
  rw [sendCell_name hd, sendName_eq, State.stream_setStream_self, h.prog, shortName_eq hy, h.counters.1]
  exact ⟨⟨h.table, h.run⟩, rfl, rfl⟩

theorem State.ChoosesFrom.longName (hd : v.duty n = .longName) {y : Names} {long : List Byte}
    (hy : (q.prog n).variants.get (q.prog n).current = some y) (hlong : y.long = some long) :
    ((v.sendCell n).table = q.table ∧ ((v.sendCell n).stream n).run = (q.stream n).run) ∧
      ((v.sendCell n).stream n).cell = some (formCell (q.prog n).code .longName
        (longNamePayload (q.stream n).longCtr long)) ∧
      ((v.sendCell n).stream n).longCtr =
        (if (q.stream n).longCtr + 1 < longSegments long then (q.stream n).longCtr + 1 else 0) := by
  have hname : (v.prog n).longName = some long := by rw [h.prog, longName_eq hy, hlong]
  rw [sendCell_longName hd hname, sendLongName_eq, State.stream_setStream_self, h.prog, h.counters.2]
  exact ⟨⟨h.table, h.run⟩, rfl, rfl⟩

theorem State.ChoosesFrom.refer (hd : v.duty n = .refer) {y : Ch} (hy : (q.prog n).target = some y)
    (hactive : (q.ann y).flag = true ∨ 0 < (q.ann n).closing) :
    ((v.sendCell n).table = q.table ∧ ((v.sendCell n).stream n).run = (q.stream n).run) ∧
      ((v.sendCell n).stream n).cell = some (formCell (q.prog n).code .refer
        (referPayload (q.prog y).code (q.ann y).flag (q.prog y).carries)) := by
  rw [← h.ann, ← h.ann] at hactive
  rw [← h.prog] at hy
  rw [sendCell_refer hd hy hactive, sendRefer_eq, ← h.prog y, ← h.ann y]
  exact h.emitted _ _

/-- What the arbiter sends, by the records due at `now`. -/
theorem State.ChoosesFrom.arbiter (ha : q.arbitrated n (v.duty n)) {now : Nat} (hnow : v.now = now) :
    let t := v.sendCell n
    (∀ run nt, (q.stream n).run = some run → q.notice run.slot = some nt →
      (t.stream n).cell = some (formCell (q.prog n).code (runCell nt run.sent).1 (runCell nt run.sent).2) ∧
      (run.sent + 1 < nt.runLength → t.table = q.table ∧
        (t.stream n).run = some { run with sent := run.sent + 1 })) ∧
    ((q.stream n).run = none →
      (∀ i nt rec left, q.dueOn n now i nt rec → rec.mode = .withdrawal left →
        (∀ j nt' rec' left', j ≠ i → q.dueOn n now j nt' rec' → rec'.mode = .withdrawal left' →
          rec.due < rec'.due ∨ rec.due = rec'.due ∧ nt.number < nt'.number) →
        (t.stream n).cell = some (formCell (q.prog n).code .withdraw (withdrawPayload nt)) ∧
        (t.stream n).run = none ∧ (∀ j, j ≠ i → t.notice j = q.notice j) ∧
        t.notice i =
          (if 1 < left then
            some (nt.withRecord n (some { rec with mode := .withdrawal (left - 1), due := now + 40 }))
          else nt.without n)) ∧
      ((∀ i nt rec left, q.dueOn n now i nt rec → rec.mode ≠ .withdrawal left) →
        t.table = q.table ∧
        (∀ i nt rec, q.dueOn n now i nt rec → rec.mode = .airing →
          (∀ j nt' rec', j ≠ i → q.dueOn n now j nt' rec' →
            rec.due < rec'.due ∨ rec.due = rec'.due ∧
              (nt.urgency.rank < nt'.urgency.rank ∨
                nt.urgency.rank = nt'.urgency.rank ∧ nt.number < nt'.number)) →
          (t.stream n).cell = some (formCell (q.prog n).code .head (headPayload nt)) ∧
            (t.stream n).run = some ⟨nt.number, i, 1, now⟩) ∧
        ((∀ i nt rec, ¬ q.dueOn n now i nt rec) →
          (t.stream n).cell = some (formCell (q.prog n).code .fill 0#48) ∧ (t.stream n).run = none))) := by
  subst hnow
  simp only [← h.dueOn, ← h.notice, ← h.run, ← h.prog, ← h.table,
    sendCell_arbitrated (h.arbitrated ha)]
  refine ⟨fun run nt hrun hn => arbitrate_runs hrun hn, fun hrun =>
    ⟨fun i nt r left hdue hm hfirst => ?_, fun hnone => ⟨arbitrate_table hrun hnone,
      fun i nt r hdue hm hfirst => ?_, fun hidle => ?_⟩⟩⟩
  · obtain ⟨hstream, hnotice⟩ := arbitrate_withdraws hrun hdue hm hfirst
    rw [hstream]
    exact ⟨rfl, hrun, fun j hj => (hnotice j).trans (if_neg hj), (hnotice i).trans (if_pos rfl)⟩
  · rw [arbitrate_airs hrun hnone hdue hm hfirst]
    exact ⟨rfl, rfl⟩
  · rw [arbitrate_fills hrun hidle]
    exact ⟨rfl, hrun⟩

end
/-! ### The statement -/

theorem onLevel_of_started {st : StreamState} (h : st = .running ∨ st = .paused) :
    st.onLevel true = .running := by
  rcases h with h | h <;> rw [h] <;> rfl

/-- The state of choice at a boundary that begins with nothing outstanding. -/
theorem choosesFrom_begun {b : State} {lines : Lines} (hb : b = s.begun lines)
    (hst : (b.stream n).state = .running ∨ (b.stream n).state = .paused)
    (hlevel : b.mrdyPins.getLsbD n.val = true) : s.flushDue.ChoosesFrom (b.ready n) n := by
  have hready := readied_started hst hlevel
  rw [← stream_ready] at hready
  obtain ⟨htable, hstreams, -, hstore, hannounce, -⟩ := begun_blocks s lines
  have hstream : b.stream n = s.flushDue.stream n := by rw [hb, State.stream, hstreams, State.stream]
  have hclock : b.time = s.flushDue.time.boundary := by rw [hb, begun_time]
  rw [← hb] at htable hstore hannounce
  exact {
    prog := fun p => congrArg (fun x : Store => x.progs.get p) hstore
    ann := fun p => congrArg (Four.get · p) hannounce
    table := htable
    clock := by
      have hready : (b.ready n).time = s.flushDue.time.boundary := hclock
      rw [hready, SiteTime.boundary_eq]
      exact ⟨rfl, rfl⟩
    run := by rw [hready, ← hstream]
    counters := by rw [hready, ← hstream]; exact ⟨rfl, rfl⟩
    plan := by rw [hready, ← hstream]; rfl }

/-- Settles O6: every stream's work leaves it aired, whatever works follow; the work of one stream alone sends the
cell of its duty, each by its equation; and the outputs carry its bits. -/
theorem aTickBoundarySendsACellOnEveryRunningStream :
    Obligations.ATickBoundarySendsACellOnEveryRunningStream := by
  refine ⟨fun lines s hp => ?every, fun n lines s hp => ?alone, fun n k s hp hk hfrom hto => ?outputs⟩
  case every =>
    refine ⟨_, exec_tickBoundary hp lines [], ?_, fun n => boundary_aired s lines _ n⟩
    rw [works_nil]
  case alone =>
    intro r x g names hst hlevel
    obtain ⟨b, hb⟩ : ∃ b, b = s.begun lines := ⟨_, rfl⟩
    have hexec := exec_tickBoundary hp lines (othersThan (· = .stream n))
    rw [works_stream, ← hb] at hexec
    obtain ⟨htable, hstreams, hmap, hstore, hannounce, hmonitor⟩ := begun_blocks s lines
    obtain ⟨hpin, -⟩ := begun_found s lines n
    rw [← hb] at htable hstreams hmap hstore hannounce hmonitor hpin
    rw [hlevel] at hpin
    have hstream : ∀ m, b.stream m = r.stream m := fun m => congrArg (Four.get · m) hstreams
    have hstarted : (b.stream n).state = .running ∨ (b.stream n).state = .paused := by
      rw [hstream]
      exact hst
    have hnot : (b.stream n).state ≠ .stopping ∧ (b.stream n).state ≠ .stopped := by
      rcases hstarted with h | h <;> rw [h] <;> decide
    have hchoose := choosesFrom_begun hb hstarted hpin
    have hsend := work_started hstarted hpin
    have hwork := worked_of_work n b
    rw [(unresumed_steps hnot.1 fun h => hnot.2 h.2).2] at hwork
    obtain ⟨t, ht⟩ : ∃ t, t = streamWork n b := ⟨_, rfl⟩
    rw [← ht] at hexec hsend hwork
    have htime : t.time = b.time := (congrArg State.time hwork.rest).trans rfl
    refine ⟨_, hexec, ?_⟩
    intro tick now sends kept
    have hstate : (t.stream n).state = .running := by
      rw [hwork.state, hpin]
      exact onLevel_of_started hstarted
    have htick : b.time.tickNumber = tick := (congrArg SiteTime.tickNumber htime).symm
    have hplan := hwork.plan
    have hann := hwork.announce
    have hclosing : ∀ d, b.closingAfter n d = r.closingAfter n d := fun d => by
      have hprog : ∀ p, b.prog p = r.prog p := hchoose.prog
      have hannOf : ∀ p, b.ann p = r.ann p := hchoose.ann
      simp only [State.closingAfter, hprog, hannOf]
    rw [htick, hstream] at hplan
    rw [if_pos hstate, hclosing, hannounce, htick, hstream,
      show b.ann n = r.ann n from hchoose.ann n] at hann
    refine ⟨hstate, hplan.1, hplan.2, hann, fun m hm => (hwork.others m hm).trans (hstream m),
      (congrArg State.map hwork.rest).trans hmap, (congrArg State.store hwork.rest).trans hstore,
      (congrArg State.monitor hwork.rest).trans hmonitor, fun d hd => ?_⟩
    have hduty : (b.ready n).duty n = d := hchoose.duty (by
      rw [show (b.ready n).time.tickNumber = tick from htick]
      exact hd)
    have hnow : (b.ready n).now = now := (congrArg SiteTime.tickCount htime).symm
    refine ⟨fun hne => ?_, fun hother => ?_, fun hs => ?_, fun hs y hy => ?_, fun hs y long hy hlong => ?_,
      fun hs y hy hactive => ?_, fun ha => ?_⟩
    · have hctr := sendCell_nameCtr (s := b.ready n) (by rw [hduty]; exact hne)
      rw [← hsend] at hctr
      exact hctr.trans hchoose.counters.1
    · have hctr := sendCell_longCtr (s := b.ready n) (by rw [hduty]; exact hother.imp_right hchoose.arbitrated)
      rw [← hsend] at hctr
      exact hctr.trans hchoose.counters.2
    · have hcell := hchoose.status (hduty.trans hs)
      rw [← hsend] at hcell
      exact hcell
    · have hcell := hchoose.name (hduty.trans hs) hy
      rw [← hsend] at hcell
      exact hcell
    · have hcell := hchoose.longName (hduty.trans hs) hy hlong
      rw [← hsend] at hcell
      exact hcell
    · have hcell := hchoose.refer (hduty.trans hs) hy hactive
      rw [← hsend] at hcell
      exact hcell
    · have hcell := hchoose.arbiter (by rw [hduty]; exact ha) hnow
      rw [← hsend] at hcell
      exact hcell
  case outputs =>
    have hindex := bitIndex_eq hk hfrom hto
    refine ⟨?_, fun c hc => ?_, fun hc => ?_⟩
    · rw [State.bitClock, hindex, hp, Bool.not_false, Bool.true_and]
      refine decide_eq_decide.2 ?_
      simp only [Config.bitHalf, Config.bitPeriod]
      omega
    · rw [State.dataOut, hp, hindex, hc]
      have hmsb : c.getMsbD k = c.getLsbD (95 - k) := by simp [BitVec.getMsbD_eq_getLsbD, hk]
      rw [← hmsb]
      rfl
    · rw [State.dataOut, hp, hc]
      rfl

end Sys2Proof.Machine
end
